-- ==== Sys2Proof/Word.lean ====
section
/-! DEFINITION. The byte, the line and the text. Byte order and field reading stand in
Sys2Proof/Decode.lean. -/

namespace Sys2Proof

/-- One byte of a line. -/
abbrev Byte : Type := BitVec 8

/-- The bytes of a line, lowest address first; a line has 64 (00_scope.md, Conventions). -/
abbrev Line : Type := List Byte

/-- A text as its character codes (00_scope.md, Conventions: codes 32 to 126). -/
abbrev Text : Type := List Nat

/-- The byte of a number, which keeps its low eight bits. -/
def byte (n : Nat) : Byte := BitVec.ofNat 8 n

end Sys2Proof
end

