-- ==== Sys2Proof/Syntax.lean ====
section
/-! DEFINITION. The commands: one constructor of Instr for each row of spec/opcode_table.json, with
the operands the spec gives it. The parameters of the 24 commands of R173 are the numbers as
written, before any test; each carries its tag first. -/

namespace Sys2Proof

/-- A colour; a command carries it as blue, green, red (R173). -/
structure Colour where
  r : Nat
  g : Nat
  b : Nat
deriving DecidableEq, Repr

/-- What a request does to its line (R154). -/
inductive Access where
  | read
  | write (enables : BitVec 64) (data : Line)
deriving DecidableEq, Repr

/-- A request of a port: address, initiator, transaction number and access (R154). -/
structure Request where
  addr : Nat
  initiator : Nat
  txn : Nat
  access : Access
deriving DecidableEq, Repr

/-- What a response carries (R154). -/
inductive Reply where
  | data (line : Line)
  | ack
  | error
deriving DecidableEq, Repr

/-- A response of a port, under the pair of its request (R154). -/
structure Response where
  initiator : Nat
  txn : Nat
  reply : Reply
deriving DecidableEq, Repr

/-- The unit whose hand-over a PATCH_SOURCE_CHANGE takes (R87). -/
inductive PatchSource where
  | tally
  | board
  | notice
deriving DecidableEq, Repr

/-- Parameters of SET_INTAKE (R141, R173). -/
structure IntakeParams where
  base : Nat
  length : Nat
  upper : Nat
  lower : Nat
  interval : Nat
deriving DecidableEq, Repr

/-- Parameters of SET_TALLY (R4, R173). -/
structure TallyParams where
  lead : Nat
  linger : Nat
  fillingPct : Nat
  almostPct : Nat
  almostAbs : Nat
deriving DecidableEq, Repr

/-- Parameters of SET_VIEW (R40, R173); the filter's place a − 1 stands for auditorium a. -/
structure ViewParams where
  view : Nat
  filter : Nat
  horizon : Nat
  rows : Nat
  dwell : Nat
  linger : Nat
deriving DecidableEq, Repr

/-- Parameters of SET_SURFACE (R76, R173). -/
structure SurfaceParams where
  surface : Nat
  base : Nat
  stride : Nat
  width : Nat
  height : Nat
  scan : Nat
  plate : Colour
deriving DecidableEq, Repr

/-- Parameters of SET_CELL (R82, R173). -/
structure CellParams where
  cell : Nat
  surface : Nat
  x : Nat
  y : Nat
  chars : Nat
  scale : Nat
  layer : Nat
  glyphSet : Nat
  just : Nat
  fg : Colour
  plate : Colour
  alpha : Nat
  fullScreen : Nat
  twelveHour : Nat
  kind : Nat
  param1 : Nat
  param2 : Nat
  param3 : Nat
deriving DecidableEq, Repr

/-- The timing fields of SET_TRIGGER and NOTICE_POST as written (R59, R69). -/
structure TimingParams where
  mode : Nat
  lifetime : Nat
  dwell : Nat
  gap : Nat
  repeats : Nat
  endAction : Nat
deriving DecidableEq, Repr

/-- Parameters of SET_TRIGGER (R69, R173). -/
structure TriggerParams where
  trigger : Nat
  event : Nat
  filter : Nat
  notice : Nat
  priority : Nat
  screens : Nat
  timing : TimingParams
  count : Nat
  items : List Nat
deriving DecidableEq, Repr

/-- Parameters of SET_PANE (R110, R173). -/
structure PaneParams where
  pane : Nat
  surface : Nat
  px : Nat
  py : Nat
  pw : Nat
  ph : Nat
  slotBase : Nat
  slotSize : Nat
  slotCount : Nat
  marker : Nat
  cue : Nat
  scanRate : Nat
  clipRate : Nat
  upper : Nat
  lower : Nat
  starvation : Nat
  deglitch : Nat
  retryTime : Nat
  retryLimit : Nat
deriving DecidableEq, Repr

/-- One playlist entry as SET_PLAYLIST carries it (R130, R173, R180). -/
structure EntryParams where
  valid : Nat
  clip : Nat
  showNo : Nat
  repeats : Nat
  flags : Nat
deriving DecidableEq, Repr

/-- The fields of a NOTICE_POST record as written (R59, R180). -/
structure PostParams where
  desk : Nat
  notice : Nat
  priority : Nat
  screens : Nat
  timing : TimingParams
  text : List Byte
deriving DecidableEq, Repr

/-- The fourteen record kinds of the intake window with their fields (R180, R182). -/
inductive Record where
  | sale (desk showNo n : Nat)
  | refund (desk showNo n : Nat)
  | block (desk showNo n : Nat)
  | unblock (desk showNo n : Nat)
  | hold (desk holdId showNo n lifetime : Nat)
  | confirm (desk holdId : Nat)
  | release (desk holdId : Nat)
  | showDefine (showNo auditorium start capacity : Nat) (title : List Byte)
  | showAmend (showNo capacity : Nat) (title : List Byte)
  | showDelay (showNo minutes : Nat)
  | showCancel (showNo : Nat)
  | showRemove (showNo : Nat)
  | noticePost (post : PostParams)
  | noticeWithdraw (desk notice : Nat)
deriving DecidableEq, Repr

/-- The commands, in the order of spec/opcode_table.json. -/
inductive Instr where
  /-- The reset input is released; `straps` is the value S on the strap pins (R163). -/
  | resetRelease (straps : Nat)
  /-- The reset input is asserted (R163). -/
  | resetAssert
  /-- A millisecond tick (R164). -/
  | millisecondTick
  /-- The seconds tick of every 1000th millisecond tick (R164). -/
  | secondsTick
  /-- The Tally Unit takes a change of minute (R7). -/
  | changeOfMinute
  /-- The Board Unit takes a change of minute (R43). -/
  | boardMinuteRecompute
  /-- The Patch Unit takes a change of minute (R87). -/
  | clockCellUpdate
  /-- The Tally Unit takes an expiry event (R32). -/
  | holdExpiry
  /-- The Board Unit takes the tick of one view's dwell timer (R45). -/
  | dwellExpiry (view : Nat)
  /-- The Notice Unit takes its tick event (R63, R64). -/
  | timedNoticeExpiry
  /-- The Notice Unit takes its tick event (R63, R65). -/
  | cyclePhaseExpiry
  /-- The Pane Unit takes the tick of one pane's retry timer (R122). -/
  | retryTimerExpiry (pane : Nat)
  /-- The idle timer of one surface expires (R79). -/
  | idleTimerExpiry (surface : Nat)
  /-- The Board Unit takes a tally event or delay notice (R43). -/
  | boardTallyEvent
  /-- The Notice Unit takes a tally event (R71). -/
  | noticeTallyEvent
  /-- The Pane Unit takes a tally event (R8). -/
  | paneTallyEvent
  /-- The Patch Unit takes the oldest change handed on by one unit (R87). -/
  | patchSourceChange (source : PatchSource)
  /-- The Pane Unit takes the oldest full-screen flag handed on (R120). -/
  | paneFullscreenFlag
  /-- The player offers a request, or none, and the Path Unit takes the oldest one offered (R155, R159). -/
  | upstreamRequest (offer : Option Request)
  /-- A response arrives at the downstream port (R155). -/
  | downstreamResponse (response : Response)
  /-- The completion of a glyph load (R92). -/
  | loadDone
  /-- The end of a draining (R93). -/
  | loaderDrainEnd
  /-- The response that ends the draining of a released slot (R112). -/
  | slotFree (response : Response)
  /-- A grant of the downstream arbiter; `own` is the number a requester of the part uses (R162, R161). -/
  | downstreamGrant (own : Nat)
  /-- A processing step of the record processor (R147). -/
  | processingStep
  /-- SET_MODE (R174). -/
  | setMode (tag mode : Nat)
  /-- WARM_RESET (R179). -/
  | warmReset (tag : Nat)
  /-- SET_CLOCK (R168). -/
  | setClock (tag minute second : Nat)
  /-- DAY_START (R169). -/
  | dayStart (tag minute origin : Nat)
  /-- SET_INTAKE (R141). -/
  | setIntake (tag : Nat) (params : IntakeParams)
  /-- SET_TALLY (R4). -/
  | setTally (tag : Nat) (params : TallyParams)
  /-- SET_WORDS: the seven entries, 255 for none (R50). -/
  | setWords (tag : Nat) (words : List Nat)
  /-- SET_VIEW (R40). -/
  | setView (tag : Nat) (params : ViewParams)
  /-- SET_SURFACE (R76). -/
  | setSurface (tag : Nat) (params : SurfaceParams)
  /-- SET_CELL (R82). -/
  | setCell (tag : Nat) (params : CellParams)
  /-- CLEAR_CELL (R83). -/
  | clearCell (tag cell : Nat)
  /-- LOAD_GLYPHS: set, source address and expected sum (R91). -/
  | loadGlyphs (tag set source sum : Nat)
  /-- SET_SEGMENT: segment and the 24 bytes of its text (R67). -/
  | setSegment (tag segment : Nat) (text : List Byte)
  /-- SET_TRIGGER (R69). -/
  | setTrigger (tag : Nat) (params : TriggerParams)
  /-- CLEAR_TRIGGER (R70). -/
  | clearTrigger (tag trigger : Nat)
  /-- SET_PANE (R110). -/
  | setPane (tag : Nat) (params : PaneParams)
  /-- SET_PLAYLIST: pane, first index, count and the entries carried (R130). -/
  | setPlaylist (tag pane first count : Nat) (entries : List EntryParams)
  /-- PLAY_START (R134). -/
  | playStart (tag pane entry now : Nat)
  /-- PLAY_RESUME (R136). -/
  | playResume (tag pane : Nat)
  /-- PLAY_STOP (R137). -/
  | playStop (tag pane : Nat)
  /-- PANE_CLEAR (R123). -/
  | paneClear (tag pane : Nat)
  /-- SET_MASK (R176). -/
  | setMask (tag mask : Nat)
  /-- CLEAR_CAUSES (R176). -/
  | clearCauses (tag mask : Nat)
  /-- INSPECT (R178). -/
  | inspect (tag kind index : Nat)
  /-- A write to one of the anchor lines 1 to 7 (R170). -/
  | anchorLineWrite (line initiator txn : Nat) (enables : BitVec 64) (data : Line)
deriving DecidableEq, Repr

end Sys2Proof
end

