-- ==== Sys2Proof/Decode.lean ====
section
/-! DEFINITION. Reading the lines the part takes: the byte order and the check sum (R180), the
command line (R171, R173), the intake record (R180, R182) and the marker line (R180). The opcode
table gives its rows no bits, so `decodeTableWord` answers none. -/

namespace Sys2Proof

/-- Byte `i` of a line. -/
def byteAt (l : Line) (i : Nat) : Nat := (l.getD i 0).toNat

/-- The little-endian number of `w` bytes from byte `i` on (R180). -/
def numAt (l : Line) (i : Nat) : Nat → Nat
  | 0 => 0
  | w + 1 => byteAt l i + 256 * numAt l (i + 1) w

/-- `n` as `w` little-endian bytes (R180). -/
def leBytes : Nat → Nat → List Byte
  | 0, _ => []
  | w + 1, n => byte (n % 256) :: leBytes w (n / 256)

/-- One addition of the ones-complement sum: a carry out of the top bit is folded back (R92). -/
def onesAdd (a b : Nat) : Nat := if a + b < 65536 then a + b else a + b - 65535

/-- The ones-complement sum of the first `n` little-endian words of a line (R113, R147, R171). -/
def onesSum (l : Line) : Nat → Nat
  | 0 => 0
  | n + 1 => onesAdd (onesSum l n) (numAt l (2 * n) 2)

/-- The stored character of a byte: one outside 32..126 is read as 63 (00_scope.md, Conventions). -/
def charOf (b : Byte) : Nat := if 32 ≤ b.toNat ∧ b.toNat ≤ 126 then b.toNat else 63

/-- A text field of at most `max` characters: it ends at its first zero byte (R180). -/
def takeText (max : Nat) (bytes : List Byte) : Text :=
  ((bytes.take max).takeWhile (fun b => b != 0)).map charOf

/-- The colour at byte `i`: blue, green, red (R173). -/
def colourAt (l : Line) (i : Nat) : Colour :=
  { r := byteAt l (i + 2), g := byteAt l (i + 1), b := byteAt l i }

/-- The `n` bytes from byte `i` on. -/
def bytesAt (l : Line) (i n : Nat) : List Byte := (l.drop i).take n

/-- The timing fields of SET_TRIGGER and NOTICE_POST from byte `i` on: mode 1, lifetime 2, dwell 2,
gap 2, repeats 1, end action 1 (R173, R180). -/
def timingAt (l : Line) (i : Nat) : TimingParams :=
  { mode := byteAt l i, lifetime := numAt l (i + 1) 2, dwell := numAt l (i + 3) 2,
    gap := numAt l (i + 5) 2, repeats := byteAt l (i + 7), endAction := byteAt l (i + 8) }

/-- The playlist entry at byte `i`: valid 1, clip 2, show 1, repeats 1, flags 1 (R173). -/
def entryAt (l : Line) (i : Nat) : EntryParams :=
  { valid := byteAt l i, clip := numAt l (i + 1) 2, showNo := byteAt l (i + 3),
    repeats := byteAt l (i + 4), flags := byteAt l (i + 5) }

/-- The command of a command line whose code is one of the 24 of R173, with the parameters packed
from byte 4; none for any other code. -/
def decodeCommand (l : Line) : Option Instr :=
  let tag := byteAt l 1
  match byteAt l 0 with
  | 1 => some (.setMode tag (byteAt l 4))
  | 2 => some (.warmReset tag)
  | 3 => some (.setClock tag (numAt l 4 2) (byteAt l 6))
  | 4 => some (.dayStart tag (numAt l 4 2) (numAt l 6 2))
  | 5 => some (.setIntake tag {
      base := numAt l 4 5, length := numAt l 9 2, upper := byteAt l 11,
      lower := byteAt l 12, interval := byteAt l 13 })
  | 6 => some (.setTally tag {
      lead := byteAt l 4, linger := byteAt l 5, fillingPct := byteAt l 6,
      almostPct := byteAt l 7, almostAbs := byteAt l 8 })
  | 7 => some (.setWords tag ((List.range 7).map (fun i => byteAt l (4 + i))))
  | 8 => some (.setView tag {
      view := byteAt l 4, filter := numAt l 5 3, horizon := numAt l 8 2,
      rows := byteAt l 10, dwell := byteAt l 11, linger := byteAt l 12 })
  | 9 => some (.setSurface tag {
      surface := byteAt l 4, base := numAt l 5 5, stride := numAt l 10 4,
      width := numAt l 14 2, height := numAt l 16 2, scan := byteAt l 18, plate := colourAt l 19 })
  | 10 => some (.setCell tag {
      cell := byteAt l 4, surface := byteAt l 5, x := numAt l 6 2,
      y := numAt l 8 2, chars := byteAt l 10, scale := byteAt l 11, layer := byteAt l 12,
      glyphSet := byteAt l 13, just := byteAt l 14, fg := colourAt l 15, plate := colourAt l 18,
      alpha := byteAt l 21, fullScreen := byteAt l 22, twelveHour := byteAt l 23,
      kind := byteAt l 24, param1 := byteAt l 25, param2 := byteAt l 26, param3 := byteAt l 27 })
  | 11 => some (.clearCell tag (byteAt l 4))
  | 12 => some (.loadGlyphs tag (byteAt l 4) (numAt l 5 5) (numAt l 10 2))
  | 13 => some (.setSegment tag (byteAt l 4) (bytesAt l 5 24))
  | 14 => some (.setTrigger tag {
      trigger := byteAt l 4, event := byteAt l 5, filter := byteAt l 6,
      notice := byteAt l 7, priority := byteAt l 8, screens := numAt l 9 2,
      timing := timingAt l 11, count := byteAt l 20,
      items := (List.range 6).map (fun i => byteAt l (21 + i)) })
  | 15 => some (.clearTrigger tag (byteAt l 4))
  | 16 => some (.setPane tag {
      pane := byteAt l 4, surface := byteAt l 5, px := numAt l 6 2,
      py := numAt l 8 2, pw := numAt l 10 2, ph := numAt l 12 2, slotBase := numAt l 14 5,
      slotSize := numAt l 19 4, slotCount := byteAt l 23, marker := numAt l 24 5,
      cue := numAt l 29 5, scanRate := byteAt l 34, clipRate := byteAt l 35, upper := byteAt l 36,
      lower := byteAt l 37, starvation := byteAt l 38, deglitch := byteAt l 39,
      retryTime := byteAt l 40, retryLimit := byteAt l 41 })
  | 17 => some (.setPlaylist tag (byteAt l 4) (byteAt l 5) (byteAt l 6)
      ((List.range (min (byteAt l 6) 8)).map (fun i => entryAt l (7 + 6 * i))))
  | 18 => some (.playStart tag (byteAt l 4) (byteAt l 5) (byteAt l 6))
  | 19 => some (.playResume tag (byteAt l 4))
  | 20 => some (.playStop tag (byteAt l 4))
  | 21 => some (.paneClear tag (byteAt l 4))
  | 22 => some (.setMask tag (numAt l 4 2))
  | 23 => some (.clearCauses tag (numAt l 4 2))
  | 24 => some (.inspect tag (byteAt l 4) (numAt l 5 2))
  | _ => none

/-- The record in bytes 0 to 55 of an intake line by its kind code (R180, R182); none is BAD_KIND. -/
def decodeRecord (l : Line) : Option Record :=
  let desk := byteAt l 1
  match byteAt l 0 with
  | 1 => some (.sale desk (byteAt l 2) (byteAt l 3))
  | 2 => some (.refund desk (byteAt l 2) (byteAt l 3))
  | 3 => some (.block desk (byteAt l 2) (byteAt l 3))
  | 4 => some (.unblock desk (byteAt l 2) (byteAt l 3))
  | 5 => some (.hold desk (numAt l 2 2) (byteAt l 4) (byteAt l 5) (numAt l 6 2))
  | 6 => some (.confirm desk (numAt l 2 2))
  | 7 => some (.release desk (numAt l 2 2))
  | 8 => some (.showDefine (byteAt l 2) (byteAt l 3) (numAt l 4 2) (numAt l 6 2) (bytesAt l 8 24))
  | 9 => some (.showAmend (byteAt l 2) (numAt l 3 2) (bytesAt l 5 24))
  | 10 => some (.showDelay (byteAt l 2) (byteAt l 3))
  | 11 => some (.showCancel (byteAt l 2))
  | 12 => some (.showRemove (byteAt l 2))
  | 13 => some (.noticePost {
      desk := desk, notice := byteAt l 2, priority := byteAt l 3,
      screens := numAt l 4 2, timing := timingAt l 6, text := bytesAt l 15 40 })
  | 14 => some (.noticeWithdraw desk (byteAt l 2))
  | _ => none

/-- What a marker line carries: its slot, generation and LAST flag (R113, R180). -/
structure Marker where
  slot : Nat
  generation : Nat
  last : Bool
deriving DecidableEq, Repr

/-- The marker of a line; only place 0 of byte 4 is read (R180). -/
def decodeMarker (l : Line) : Marker :=
  { slot := byteAt l 0, generation := byteAt l 1, last := byteAt l 4 % 2 == 1 }

/-- The command a word of the opcode table spells: the table gives no row any bits, so none. -/
def decodeTableWord (_nbits _w : Nat) : Option Instr := none

end Sys2Proof
end

