-- ==== Sys2Proof/Config.lean ====
section
/-! DEFINITION. The sizes and limits the manual fixes for the part. Nothing in the manual is left
to an implementation as a value, so this file declares no free value; what an implementation may
order freely is left to the sender of commands (log entry 2). -/

namespace Sys2Proof.Config

/-- Entries of the show table (R1). -/
abbrev shows : Nat := 128
/-- Entries the hold list holds at most (R23). -/
abbrev holds : Nat := 256
/-- Entries the expired-hold list holds at most (R25). -/
abbrev expired : Nat := 16
/-- Board views (R39). -/
abbrev views : Nat := 4
/-- Entries of the notice table (R55). -/
abbrev notices : Nat := 64
/-- Text segments (R67). -/
abbrev segments : Nat := 64
/-- Triggers (R68). -/
abbrev triggers : Nat := 32
/-- Surfaces (R75). -/
abbrev surfaces : Nat := 12
/-- Cells (R81). -/
abbrev cells : Nat := 256
/-- Panes (R109). -/
abbrev panes : Nat := 8
/-- Slots a pane can have (R109). -/
abbrev slots : Nat := 8
/-- Playlist entries of a pane (R128). -/
abbrev entries : Nat := 16
/-- Entries of the in-flight patch table (R158). -/
abbrev inFlight : Nat := 64
/-- Records the intake queue holds at most (R145). -/
abbrev records : Nat := 32
/-- Verdicts the verdict queue holds at most (R149). -/
abbrev verdicts : Nat := 16
/-- Verdict writes issued and not answered at most (R149). -/
abbrev issued : Nat := 4
/-- Glyph reads in flight at most (R161). -/
abbrev glyphReads : Nat := 12
/-- Lines of a glyph set (R90). -/
abbrev glyphLines : Nat := 576
/-- Bytes of a glyph set (R90). -/
abbrev glyphBytes : Nat := 36864
/-- Bytes of a line (00_scope.md, Conventions). -/
abbrev lineBytes : Nat := 64
/-- One past the last address of the 40-bit space (00_scope.md, Conventions). -/
abbrev space : Nat := 1099511627776
/-- 16 MiB, the unit of the anchor straps (R163). -/
abbrev strapUnit : Nat := 16777216
/-- Bytes of the anchor page (R170). -/
abbrev anchorBytes : Nat := 4096
/-- The last business minute (R166). -/
abbrev lastMinute : Nat := 2159
/-- Where uptime stops (R164). -/
abbrev lastUptime : Nat := 4294967295
/-- Where a statistical counter stops (00_scope.md, Conventions). -/
abbrev counterTop : Nat := 65535
/-- The longest pass-through run (R162). -/
abbrev runTop : Nat := 8
/-- The idle time of a surface in milliseconds (R79). -/
abbrev idleTime : Nat := 250
/-- The first transaction number reserved for the part (R156). -/
abbrev firstReserved : Nat := 64
/-- The first transaction number of the verdict writer (R161). -/
abbrev firstVerdictTxn : Nat := 64
/-- The first transaction number of the glyph loader (R161). -/
abbrev firstGlyphTxn : Nat := 68
/-- One past the last transaction number of the part's own traffic (R161). -/
abbrev endOwnTxn : Nat := 80

end Sys2Proof.Config
end

