-- ==== Sys2Proof/Machine/State.lean ====
section
/-! DEFINITION. What the part holds, unit by unit (Figure 1 of 00_scope.md), as plain data, and the
values of power-on. Fields named `…Waiting`, `inbox`, `flagInbox` and `from…` hold events that one
unit has handed to another and that the other has not yet taken (R8, R87, R164). -/

namespace Sys2Proof.Machine

/-! ### Enumerations, each in the order its codes are numbered (R180, R182) -/

/-- Show states (R1). -/
inductive ShowState where
  | empty | listed | boarding | started | closed | cancelled
deriving DecidableEq, Repr

/-- Bands, best to worst (R9). -/
inductive Band where
  | plenty | filling | almost | soldOut
deriving DecidableEq, Repr

/-- Kinds of tally event (R8). -/
inductive TallyKind where
  | listed | boarding | started | closed | cancelled | delayed | removed | soldOut | almost | bandDown
deriving DecidableEq, Repr

/-- Outcomes of a record: NONE is DONE, any other the refusal code (R148, R182). -/
inductive Reason where
  | none | badCheck | badKind | badField | badCount | noShow | showClosed | noSeats | showExists
  | overCapacity | wrongState | duplicateHold | holdsFull | holdExpired | holdUnknown | noNotice
deriving DecidableEq, Repr

/-- Statuses of a response (R172, R182). -/
inductive Status where
  | ok | busy | badFrame | badCheck | badCode | param | wrongState
deriving DecidableEq, Repr

/-- The modes of the part (R157). -/
inductive Mode where
  | pass | enabled
deriving DecidableEq, Repr

/-- The twelve causes, in the order of R175. -/
inductive Cause where
  | loadDone | glyphBad | intakeFull | recordMissed | verdictLost | clockHeld | paneStarved
  | paneLatched | playlistStopped | latePatch | readError | triggerBlocked
deriving DecidableEq, Repr

/-- States of a surface (R75). -/
inductive SurfaceState where
  | unset | idle | active
deriving DecidableEq, Repr

/-- Justifications of a cell (R81). -/
inductive Just where
  | left | right | centre
deriving DecidableEq, Repr

/-- Fields a board or SHOW cell renders (R173). -/
inductive Field where
  | auditorium | start | title | seats | delay | status
deriving DecidableEq, Repr

/-- What a cell takes its text from (R84). -/
inductive Source where
  | fixed (segment : Nat)
  | showField (showNo : Nat) (field : Field)
  | board (view row : Nat) (field : Field)
  | notice (surface : Nat)
  | clock
deriving DecidableEq, Repr

/-- States of a glyph set (R90). -/
inductive GlyphState where
  | empty | loading | valid | bad
deriving DecidableEq, Repr

/-- States of a trigger (R68). -/
inductive TriggerState where
  | empty | armed | spent
deriving DecidableEq, Repr

/-- Display states of a pane (R109). -/
inductive Display where
  | dark | showing | fallbackWait | fallbackLatched
deriving DecidableEq, Repr

/-- Flow of a pane (R115). -/
inductive Flow where
  | go | wait
deriving DecidableEq, Repr

/-- Starvation modes (R109). -/
inductive Starvation where
  | hold | poster | retry
deriving DecidableEq, Repr

/-- Verdicts of a marker (R113). -/
inductive MarkerVerdict where
  | none | taken | badFrame | badCheck | stale | slotConflict
deriving DecidableEq, Repr

/-- Playlist states (R129). -/
inductive PlaylistState where
  | idle | active | suspended
deriving DecidableEq, Repr

/-! ### The Tally Unit -/

/-- A tally event: a show number and a kind (R8). -/
structure TallyEvent where
  showNo : Nat
  kind : TallyKind
deriving DecidableEq, Repr

/-- What the Tally Unit hands on: a tally event to the Board, Notice and Pane Units (R8), or a
delay notice to the Board Unit alone (R43). -/
inductive BoardEvent where
  | tally (event : TallyEvent)
  | delayNotice (showNo : Nat)
deriving DecidableEq, Repr

/-- An entry of the show table (R1). -/
structure Show where
  state : ShowState
  auditorium : Nat
  start : Nat
  delay : Nat
  capacity : Nat
  sold : Nat
  held : Nat
  blocked : Nat
  band : Band
  title : Text
  cancelMinute : Option Nat
deriving DecidableEq, Repr

/-- The EMPTY entry (R2). -/
def Show.vacant : Show :=
  { state := .empty, auditorium := 0, start := 0, delay := 0, capacity := 0, sold := 0, held := 0,
    blocked := 0, band := .plenty, title := [], cancelMinute := none }

/-- A hold-list entry (R23). -/
structure Hold where
  desk : Nat
  holdId : Nat
  showNo : Nat
  n : Nat
  expiry : Nat
deriving DecidableEq, Repr

/-- The tally settings (R4). -/
structure TallySettings where
  lead : Nat
  linger : Nat
  fillingPct : Nat
  almostPct : Nat
  almostAbs : Nat
deriving DecidableEq, Repr

/-- The Tally Unit: show table (R1), hold list (R23), expired-hold list (R25), settings (R4) and
the events of the seconds tick it has not taken (R164). -/
structure TallyUnit where
  shows : List Show
  holds : List Hold
  expired : List (Nat × Nat)
  settings : TallySettings
  expiryWaiting : Option Nat
  minuteWaiting : Bool
deriving DecidableEq, Repr

/-! ### The Board Unit -/

/-- A board view: settings (R39), page (R44), seconds its dwell timer has to run (R45), list (R42),
and whether a tick of its timer waits (R164). Place a − 1 of the filter stands for auditorium a. -/
structure BoardView where
  filter : BitVec 24
  horizon : Nat
  rows : Nat
  dwell : Nat
  linger : Nat
  page : Nat
  timer : Nat
  list : List Nat
  tickWaiting : Bool
deriving DecidableEq, Repr

/-- The Board Unit: views (R39), the state-word table in the order of R50, and the events not taken
(R43). -/
structure BoardUnit where
  views : List BoardView
  words : List (Option Nat)
  inbox : List BoardEvent
  minuteWaiting : Bool
deriving DecidableEq, Repr

/-! ### The Notice Unit -/

/-- Who raised a notice (R55). -/
inductive NoticeSource where
  | desk (desk : Nat)
  | trigger (trigger : Nat)
deriving DecidableEq, Repr

/-- The mode of a notice with the timing fields that belong to it; `stay` is the end action STAY
(R55). -/
inductive Timing where
  | steady
  | timed (lifetime : Nat)
  | cycle (dwell gap repeats : Nat) (stay : Bool)
deriving DecidableEq, Repr

/-- A notice (R55). `shown` is the phase SHOWN; `timer` is the seconds to run, none for STEADY. -/
structure Notice where
  source : NoticeSource
  priority : Nat
  screens : BitVec 12
  timing : Timing
  shown : Bool
  remaining : Nat
  timer : Option Nat
  text : Text
deriving DecidableEq, Repr

/-- An item of a trigger's template (R68). -/
inductive TemplateItem where
  | segment (segment : Nat)
  | field (field : Field)
deriving DecidableEq, Repr

/-- A trigger's settings; no show filter is ANY (R68). -/
structure TriggerSettings where
  event : TallyKind
  filter : Option Nat
  notice : Nat
  priority : Nat
  screens : BitVec 12
  timing : Timing
  template : List TemplateItem
deriving DecidableEq, Repr

/-- A trigger (R68). -/
structure Trigger where
  state : TriggerState
  settings : Option TriggerSettings
  blocked : Nat
deriving DecidableEq, Repr

/-- A text segment (R67). -/
structure Segment where
  isDefined : Bool
  text : Text
deriving DecidableEq, Repr

/-- The Notice Unit: notice table (R55), stacks of notice IDs (R57), triggers (R68), segments (R67)
and the events not taken (R8, R164). -/
structure NoticeUnit where
  notices : List (Option Notice)
  noticeStacks : List (List Nat)
  triggers : List Trigger
  segments : List Segment
  inbox : List TallyEvent
  tickWaiting : Bool
deriving DecidableEq, Repr

/-! ### The Patch Unit -/

/-- A cell's pending configuration (R81). -/
structure CellConfig where
  surface : Nat
  x : Nat
  y : Nat
  chars : Nat
  scale : Nat
  layer : Nat
  glyphSet : Nat
  just : Just
  fg : Colour
  plate : Colour
  alpha : Nat
  fullScreen : Bool
  twelveHour : Bool
  source : Source
deriving DecidableEq, Repr

/-- A cell in use: pending configuration and target text (R81). -/
structure Cell where
  config : CellConfig
  target : Text
deriving DecidableEq, Repr

/-- A cell's committed record (R80). -/
structure CellRecord where
  x : Nat
  y : Nat
  chars : Nat
  scale : Nat
  layer : Nat
  glyphSet : Nat
  just : Just
  fg : Colour
  plate : Colour
  alpha : Nat
  fullScreen : Bool
  text : Text
deriving DecidableEq, Repr

/-- A committed picture (R80): the records of the cells present, by rising cell number, the
full-screen flag, and for each glyph set whether it was VALID. -/
structure Picture where
  records : List (Nat × CellRecord)
  fullScreen : Bool
  valid0 : Bool
  valid1 : Bool
deriving DecidableEq, Repr

/-- The empty picture of power-on (R75). -/
def Picture.blank : Picture := { records := [], fullScreen := false, valid0 := false, valid1 := false }

/-- A surface (R75). `current` is the picture of g, `previous` that of g − 1; `idleTimer` is the
milliseconds to run. -/
structure Surface where
  state : SurfaceState
  base : Nat
  stride : Nat
  width : Nat
  height : Nat
  scan : Nat
  plate : Colour
  gen : Nat
  idleTimer : Option Nat
  current : Picture
  previous : Picture
  pendingFlag : Bool
deriving DecidableEq, Repr

/-- The UNSET entry of power-on (R75). -/
def Surface.vacant : Surface :=
  { state := .unset, base := 0, stride := 0, width := 0, height := 0, scan := 0,
    plate := { r := 0, g := 0, b := 0 }, gen := 0, idleTimer := none, current := Picture.blank,
    previous := Picture.blank, pendingFlag := false }

/-- A glyph set: its state and its bytes by offset, in canonical form (R90). -/
structure GlyphSet where
  state : GlyphState
  bytes : List Host.Cell
deriving DecidableEq, Repr

/-- A load in flight (R91, R92): `next` is the next line to read, `outstanding` the transaction
numbers in use with their lines, `failed` whether a read was answered with an error. -/
structure Load where
  set : Nat
  source : Nat
  sum : Nat
  next : Nat
  outstanding : List (Nat × Nat)
  failed : Bool
deriving DecidableEq, Repr

/-- The loader (R91, R93): draining holds the numbers still to be answered. -/
inductive Loader where
  | idle
  | busy (load : Load)
  | draining (outstanding : List Nat)
deriving DecidableEq, Repr

/-- What the Notice Unit hands the Patch Unit for one surface (R58). -/
structure TopHandOn where
  surface : Nat
  text : Text
  fullScreen : Bool
deriving DecidableEq, Repr

/-- What the rows of a view show, as the Board Unit handed it on: the list, the page and the rows per
page, all of one state of the view (R48, R53; log entry 29). -/
structure ViewPage where
  list : List Nat
  page : Nat
  rows : Nat
deriving DecidableEq, Repr

/-- The Patch Unit: surfaces (R75), cells (R81), glyph store and loader (R90, R91), the views (R53)
and the top-notice texts (R84) as last handed on, the late-patch count (R107), and the changes not
taken (R87): shows changed by the Tally Unit, views changed by the Board Unit, top notices, a change
of minute. -/
structure PatchUnit where
  surfaces : List Surface
  cells : List (Option Cell)
  sets : List GlyphSet
  loader : Loader
  viewPages : List ViewPage
  noticeText : List Text
  latePatch : Nat
  fromTally : List Nat
  fromBoard : List Nat
  fromNotice : List TopHandOn
  minuteWaiting : Bool
deriving DecidableEq, Repr

/-! ### The Pane Unit -/

/-- A pane's settings as held, after clamping; no retry limit is UNLIMITED (R109). -/
structure PaneSettings where
  surface : Nat
  px : Nat
  py : Nat
  pw : Nat
  ph : Nat
  slotBase : Nat
  slotSize : Nat
  slotCount : Nat
  marker : Nat
  cue : Nat
  scanRate : Nat
  clipRate : Nat
  upper : Nat
  lower : Nat
  starvation : Starvation
  deglitch : Nat
  retryTime : Nat
  retryLimit : Option Nat
deriving DecidableEq, Repr

/-- A queued or displayed frame: its slot and its ends-pass flag (R109). -/
structure Frame where
  slot : Nat
  endsPass : Bool
deriving DecidableEq, Repr

/-- The six counters of a pane (R125). -/
structure PaneCounters where
  taken : Nat
  refused : Nat
  shown : Nat
  skipped : Nat
  underruns : Nat
  starves : Nat
deriving DecidableEq, Repr

/-- All six counters 0 (R109). -/
def PaneCounters.zero : PaneCounters :=
  { taken := 0, refused := 0, shown := 0, skipped := 0, underruns := 0, starves := 0 }

/-- A playlist entry (R128). -/
structure PlayEntry where
  valid : Bool
  clip : Nat
  showNo : Option Nat
  repeats : Nat
  endOfList : Bool
  suspends : Bool
  loops : Bool
  skipSold : Bool
  skipStarted : Bool
deriving DecidableEq, Repr

/-- The clear entry of power-on (R128). -/
def PlayEntry.clear : PlayEntry :=
  { valid := false, clip := 0, showNo := none, repeats := 1, endOfList := false, suspends := false,
    loops := false, skipSold := false, skipStarted := false }

/-- A pane's playlist (R128, R129). -/
structure Playlist where
  entries : List PlayEntry
  state : PlaylistState
  cueEntry : Option Nat
  pass : Nat
  generation : Nat
  startRequest : Option Nat
  resumeRequest : Bool
  successor : Option Nat
deriving DecidableEq, Repr

/-- A pane (R109): settings, none when unconfigured, running state, outstanding counts (R112),
playlist, and whether a tick of its retry timer waits (R164). -/
structure Pane where
  settings : Option PaneSettings
  display : Display
  displayed : Option Frame
  queue : List Frame
  acc : Nat
  flow : Flow
  underrunRun : Nat
  retriesUsed : Nat
  retryTimer : Option Nat
  verdict : MarkerVerdict
  counters : PaneCounters
  outstanding : List Nat
  playlist : Playlist
  tickWaiting : Bool
deriving DecidableEq, Repr

/-- The pane of power-on (R109, R128, R129). -/
def Pane.vacant : Pane :=
  { settings := none, display := .dark, displayed := none, queue := [], acc := 0, flow := .go,
    underrunRun := 0, retriesUsed := 0, retryTimer := none, verdict := .none,
    counters := PaneCounters.zero, outstanding := List.replicate Config.slots 0,
    playlist := {
      entries := List.replicate Config.entries PlayEntry.clear, state := .idle, cueEntry := none,
      pass := 0, generation := 0, startRequest := none, resumeRequest := false, successor := none },
    tickWaiting := false }

/-- The Pane Unit: panes (R109), copies of the full-screen flags (R120), and the tally events and
flags not taken (R8, R58). -/
structure PaneUnit where
  panes : List Pane
  flags : List Bool
  inbox : List TallyEvent
  flagInbox : List (Nat × Bool)
deriving DecidableEq, Repr

/-! ### The Intake Unit -/

/-- A queued record: its line's address and bytes 0 to 57 of its data (R145). -/
structure QueuedRecord where
  addr : Nat
  data : List Byte
deriving DecidableEq, Repr

/-- A verdict: its line's address and its five items; the state DONE is the reason NONE (R148). -/
structure Verdict where
  addr : Nat
  reason : Reason
  left : Nat
  state : ShowState
  band : Band
deriving DecidableEq, Repr

/-- A verdict write issued and not answered (R149). -/
structure IssuedWrite where
  txn : Nat
  verdict : Verdict
  cancelled : Bool
deriving DecidableEq, Repr

/-- The intake counters (R151). -/
structure IntakeCounters where
  taken : Nat
  done : Nat
  refused : Nat
  superseded : Nat
  missed : Nat
  partials : Nat
  written : Nat
  lost : Nat
deriving DecidableEq, Repr

/-- All eight counters 0 (R152). -/
def IntakeCounters.zero : IntakeCounters :=
  { taken := 0, done := 0, refused := 0, superseded := 0, missed := 0, partials := 0, written := 0,
    lost := 0 }

/-- The Intake Unit (R140, R145, R146, R149, R151): `window` is base and length in lines, `since`
the takings since back-pressure was raised or last re-announced. -/
structure IntakeUnit where
  window : Option (Nat × Nat)
  upper : Nat
  lower : Nat
  interval : Nat
  queue : List QueuedRecord
  verdicts : List Verdict
  issued : List IssuedWrite
  raised : Bool
  since : Nat
  reannounced : Nat
  counters : IntakeCounters
deriving DecidableEq, Repr

/-! ### The Path, Clock and Command Units -/

/-- What a tracked read is, with the items of its kind (R158); a redirected scan read carries its
pane and slot. -/
inductive Tracked where
  | scan (surface gen y x0 : Nat) (redirect : Option (Nat × Nat))
  | anchor (line : Nat)
  | cue (pane : Nat)
deriving DecidableEq, Repr

/-- An entry in use of the in-flight patch table (R158). -/
structure InFlight where
  initiator : Nat
  txn : Nat
  tracked : Tracked
deriving DecidableEq, Repr

/-- The Path Unit: reset input and sampled straps (R163), mode (R157), in-flight patch table
(R158), requests waiting at the upstream port (R159), pass-through stream (R155), pass-through run
(R162), two counters (R156, R160), and what the ports have driven, in order (R154). -/
structure PathUnit where
  resetHeld : Bool
  straps : Nat
  mode : Mode
  table : List InFlight
  waiting : List Request
  stream : List Request
  run : Nat
  readErrors : Nat
  reservedCount : Nat
  upOut : List Response
  downOut : List Request
deriving DecidableEq, Repr

/-- The Clock Unit: millisecond ticks within the second and seconds ticks due (R164), uptime, the
business clock with holding (R166), the origin (R167). -/
structure ClockUnit where
  msCount : Nat
  due : Nat
  uptime : Nat
  minute : Nat
  second : Nat
  holding : Bool
  origin : Nat
deriving DecidableEq, Repr

/-- The response (R172); the result bytes not listed are 0. -/
structure CommandResponse where
  code : Nat
  tag : Nat
  status : Status
  count : Nat
  result : List Byte
deriving DecidableEq, Repr

/-- The Command Unit: response (R172), causes and mask, place by place in the order of R175, where
a place of the mask set is unmasked, and the inspect area (R178). -/
structure CommandUnit where
  response : CommandResponse
  causes : BitVec 12
  mask : BitVec 12
  copyKind : Option Nat
  copyIndex : Nat
  copyCount : Nat
  copyBytes : List Byte
deriving DecidableEq, Repr

/-! ### The whole part -/

/-- The state of the part, and the queue of commands that wait, first in, first out. -/
structure State where
  path : PathUnit
  clock : ClockUnit
  tally : TallyUnit
  board : BoardUnit
  notice : NoticeUnit
  patch : PatchUnit
  pane : PaneUnit
  intake : IntakeUnit
  command : CommandUnit
  pending : List Instr
deriving DecidableEq, Repr

/-- Where the model stops because the input breaks a rule of the link (R154); log entry 6. -/
inductive Fault where
  /-- Raised by UPSTREAM_REQUEST and ANCHOR_LINE_WRITE when the request taken carries a pair that
  still stands in the in-flight patch table: R154 allows one request in flight under a pair. Safe. -/
  | pairInFlight
  /-- Raised by DOWNSTREAM_RESPONSE and SLOT_FREE when data answers a write or an acknowledgement a
  read: R154 rules it out. Safe. -/
  | wrongReply
deriving DecidableEq, Repr

/-- Refusals. -/
inductive Refusal where
  /-- Raised by exec for a command that has no meaning yet; no arm does. Safe. -/
  | notModelled (mnemonic : String)
deriving DecidableEq, Repr

/-- The tally settings of power-on (R4). -/
def TallySettings.powerOn : TallySettings :=
  { lead := 20, linger := 10, fillingPct := 60, almostPct := 10, almostAbs := 10 }

/-- The Tally Unit of power-on (R2, R4, R24, R25). -/
def TallyUnit.powerOn : TallyUnit :=
  { shows := List.replicate Config.shows Show.vacant, holds := [], expired := [],
    settings := TallySettings.powerOn, expiryWaiting := none, minuteWaiting := false }

/-- A view of power-on: its dwell timer is started (R39). -/
def BoardView.powerOn : BoardView :=
  { filter := 0, horizon := 180, rows := 8, dwell := 10, linger := 30, page := 0, timer := 10,
    list := [], tickWaiting := false }

/-- The Board Unit of power-on (R39, R50). -/
def BoardUnit.powerOn : BoardUnit :=
  { views := List.replicate Config.views BoardView.powerOn, words := List.replicate 7 none,
    inbox := [], minuteWaiting := false }

/-- The Notice Unit of power-on (R56, R67, R68). -/
def NoticeUnit.powerOn : NoticeUnit :=
  { notices := List.replicate Config.notices none, noticeStacks := List.replicate Config.surfaces [],
    triggers := List.replicate Config.triggers { state := .empty, settings := none, blocked := 0 },
    segments := List.replicate Config.segments { isDefined := false, text := [] },
    inbox := [], tickWaiting := false }

/-- The Patch Unit of power-on (R39, R75, R81, R90, R107). -/
def PatchUnit.powerOn : PatchUnit :=
  { surfaces := List.replicate Config.surfaces Surface.vacant,
    cells := List.replicate Config.cells none,
    sets := List.replicate 2 { state := .empty, bytes := [] }, loader := .idle,
    viewPages := List.replicate Config.views { list := [], page := 0, rows := 8 },
    noticeText := List.replicate Config.surfaces [], latePatch := 0, fromTally := [],
    fromBoard := [], fromNotice := [], minuteWaiting := false }

/-- The Pane Unit of power-on (R109, R120, R128, R129). -/
def PaneUnit.powerOn : PaneUnit :=
  { panes := List.replicate Config.panes Pane.vacant,
    flags := List.replicate Config.surfaces false, inbox := [], flagInbox := [] }

/-- The Intake Unit of power-on (R140, R152). -/
def IntakeUnit.powerOn : IntakeUnit :=
  { window := none, upper := 24, lower := 8, interval := 8, queue := [], verdicts := [],
    issued := [], raised := false, since := 0, reannounced := 0, counters := IntakeCounters.zero }

/-- The Path Unit at the release of the reset input with the strap value sampled (R157, R163). -/
def PathUnit.powerOn (straps : Nat) : PathUnit :=
  { resetHeld := false, straps := straps, mode := .pass, table := [], waiting := [], stream := [],
    run := 0, readErrors := 0, reservedCount := 0, upOut := [], downOut := [] }

/-- The Clock Unit at the release of the reset input (R164, R166, R167). -/
def ClockUnit.powerOn : ClockUnit :=
  { msCount := 0, due := 0, uptime := 0, minute := 0, second := 0, holding := false, origin := 0 }

/-- The Command Unit of power-on (R172, R175, R178). -/
def CommandUnit.powerOn : CommandUnit :=
  { response := { code := 0, tag := 0, status := .ok, count := 0, result := [] }, causes := 0,
    mask := 0, copyKind := none, copyIndex := 0, copyCount := 0, copyBytes := [] }

/-- The part right after the release of the reset input with the straps at `straps` (R163). -/
def State.powerOn (straps : Nat) : State :=
  { path := PathUnit.powerOn straps, clock := ClockUnit.powerOn, tally := TallyUnit.powerOn,
    board := BoardUnit.powerOn, notice := NoticeUnit.powerOn, patch := PatchUnit.powerOn,
    pane := PaneUnit.powerOn, intake := IntakeUnit.powerOn, command := CommandUnit.powerOn,
    pending := [] }

/-- The machine right after reset. The board sets the straps and the spec names no value: DESIGN
CHOICE 0 (log entry 3). -/
def State.reset : State := State.powerOn 0

end Sys2Proof.Machine
end

