-- ==== Sys2Proof/Machine/Flags.lean ====
section
/-! DEFINITION. What the part computes as flags: the seats left, the band and its event (R9, R10),
the time state (R5), the causes and the attention output (R175). -/

namespace Sys2Proof.Machine

/-- Seats left: the capacity less the seats sold, held and blocked (00_scope.md, R3). -/
def Show.left (w : Show) : Nat := w.capacity - (w.sold + w.held + w.blocked)

/-- The effective start: start minute plus delay (R1). -/
def Show.effective (w : Show) : Nat := w.start + w.delay

/-- The band of a show under the settings: the first of the four that holds (R9). -/
def bandOf (g : TallySettings) (w : Show) : Band :=
  if w.left = 0 then .soldOut
  else if w.left * 100 ≤ w.capacity * g.almostPct ∨ w.left ≤ g.almostAbs then .almost
  else if w.capacity * g.fillingPct ≤ (w.capacity - w.left) * 100 then .filling
  else .plenty

/-- The band event of a change of band (R10). -/
def bandEvent : Band → Band → Option TallyKind
  | .soldOut, .soldOut => none
  | _, .soldOut => some .soldOut
  | .plenty, .almost => some .almost
  | .filling, .almost => some .almost
  | .soldOut, .almost => some .bandDown
  | .almost, .almost => none
  | .plenty, .filling => none
  | .filling, .filling => none
  | .almost, .filling => some .bandDown
  | .soldOut, .filling => some .bandDown
  | .plenty, .plenty => none
  | .filling, .plenty => some .bandDown
  | .almost, .plenty => some .bandDown
  | .soldOut, .plenty => some .bandDown

/-- The time state at minute `now` of a show whose effective start is `e` (R5). -/
def timeState (g : TallySettings) (now e : Nat) : ShowState :=
  if now + g.lead < e then .listed
  else if now < e then .boarding
  else if now < e + g.linger then .started
  else .closed

/-- The state a recomputation gives a show (R6). -/
def recomputed (g : TallySettings) (now : Nat) (w : Show) : ShowState :=
  match w.state with
  | .listed => timeState g now w.effective
  | .boarding => timeState g now w.effective
  | .started => timeState g now w.effective
  | .closed => .closed
  | .cancelled => .cancelled
  | .empty => .empty

/-- The state event of a show that enters a state (R8); no event reports EMPTY this way. -/
def stateEvent : ShowState → Option TallyKind
  | .empty => none
  | .listed => some .listed
  | .boarding => some .boarding
  | .started => some .started
  | .closed => some .closed
  | .cancelled => some .cancelled

/-- The place of a cause in a cause field: the order of the table of R175 (R180). -/
def Cause.place : Cause → Nat
  | .loadDone => 0
  | .glyphBad => 1
  | .intakeFull => 2
  | .recordMissed => 3
  | .verdictLost => 4
  | .clockHeld => 5
  | .paneStarved => 6
  | .paneLatched => 7
  | .playlistStopped => 8
  | .latePatch => 9
  | .readError => 10
  | .triggerBlocked => 11

/-- The cause field with one cause set. -/
def Cause.bit (c : Cause) : BitVec 12 := 1#12 <<< c.place

/-- The Command Unit with a cause set; one set again stays set (R175). -/
def CommandUnit.raise (u : CommandUnit) (c : Cause) : CommandUnit :=
  { u with causes := u.causes ||| c.bit }

/-- The Command Unit with a cause cleared. -/
def CommandUnit.lower (u : CommandUnit) (c : Cause) : CommandUnit :=
  { u with causes := u.causes &&& ~~~ c.bit }

/-- Whether a cause is set. -/
def CommandUnit.isSet (u : CommandUnit) (c : Cause) : Bool := u.causes.getLsbD c.place

/-- The attention output: active while some cause is set and unmasked, and inactive while the reset
input is asserted (R163, R175). -/
def State.attention (s : State) : Bool :=
  !s.path.resetHeld && (s.command.causes &&& s.command.mask) != 0

end Sys2Proof.Machine
end

