-- ==== Sys2Proof/Machine/Ops.lean ====
section
/-! DEFINITION. The operations every family shares: one unit of the state replaced, a counter
raised, a cause set, the response of a command, the tally events handed on, and the rule that
nothing happens while the reset input is asserted. -/

namespace Sys2Proof.Machine

/-! ### One unit replaced -/

/-- The state with another Path Unit. -/
def State.withPath (s : State) (u : PathUnit) : State := { s with path := u }
/-- The state with another Clock Unit. -/
def State.withClock (s : State) (u : ClockUnit) : State := { s with clock := u }
/-- The state with another Tally Unit. -/
def State.withTally (s : State) (u : TallyUnit) : State := { s with tally := u }
/-- The state with another Board Unit. -/
def State.withBoard (s : State) (u : BoardUnit) : State := { s with board := u }
/-- The state with another Notice Unit. -/
def State.withNotice (s : State) (u : NoticeUnit) : State := { s with notice := u }
/-- The state with another Patch Unit. -/
def State.withPatch (s : State) (u : PatchUnit) : State := { s with patch := u }
/-- The state with another Pane Unit. -/
def State.withPane (s : State) (u : PaneUnit) : State := { s with pane := u }
/-- The state with another Intake Unit. -/
def State.withIntake (s : State) (u : IntakeUnit) : State := { s with intake := u }
/-- The state with another Command Unit. -/
def State.withCommand (s : State) (u : CommandUnit) : State := { s with command := u }
/-- The state with another queue of waiting commands. -/
def State.withPending (s : State) (q : List Instr) : State := { s with pending := q }

/-! ### Counters -/

/-- A statistical counter raised by one; it stops at 65,535 (00_scope.md, Conventions). -/
def satInc (n : Nat) : Nat := if n < Config.counterTop then n + 1 else n

/-- `satInc` `k` times. -/
def satAdd : Nat → Nat → Nat
  | n, 0 => n
  | n, k + 1 => satAdd (satInc n) k

/-- A generation or sequence number raised by one; it wraps from 255 to 0 (00_scope.md). -/
def wrapInc (n : Nat) : Nat := (n + 1) % 256

/-! ### Causes and the response -/

/-- The state with a cause set at the Command Unit (R175). -/
def State.raise (s : State) (c : Cause) : State := s.withCommand (s.command.raise c)

/-- The state with each cause of a list set. -/
def State.raiseAll (s : State) : List Cause → State
  | [] => s
  | c :: cs => (s.raise c).raiseAll cs

/-- The state with the response of a command taken: the whole response is replaced and its count
rises (R172). -/
def State.respond (s : State) (code tag : Nat) (status : Status) (result : List Byte) : State :=
  s.withCommand { s.command with
    response := {
      code := code, tag := tag, status := status, count := wrapInc s.command.response.count,
      result := result } }

/-! ### Events handed on by the Tally Unit -/

/-- The tally events among what the Tally Unit hands on; a delay notice is none (R43). -/
def tallyEventsOf : List BoardEvent → List TallyEvent
  | [] => []
  | .tally e :: rest => e :: tallyEventsOf rest
  | .delayNotice _ :: rest => tallyEventsOf rest

/-- The shows whose entries differ: what the Patch Unit hears of (R87). That the shows changed by one
event are handed on by rising show number and taken one at a time is the model's choice (DESIGN CHOICE,
log entry 34). -/
def changedShows (old new : List Show) : List Nat :=
  (List.range Config.shows).filter
    (fun n => decide (old.getD n Show.vacant ≠ new.getD n Show.vacant))

/-- The state after one event at the Tally Unit: the unit is replaced whole, its events go to the
Board, Notice and Pane Units in the order emitted (R8), delay notices to the Board Unit (R43), and
every changed entry to the Patch Unit (R87). -/
def State.tallyDone (s : State) (u : TallyUnit) (out : List BoardEvent) : State :=
  { s with
    tally := u
    board := { s.board with inbox := s.board.inbox ++ out }
    notice := { s.notice with inbox := s.notice.inbox ++ tallyEventsOf out }
    pane := { s.pane with inbox := s.pane.inbox ++ tallyEventsOf out }
    patch := { s.patch with fromTally := s.patch.fromTally ++ changedShows s.tally.shows u.shows } }

/-! ### The reset input -/

/-- A command's effect. While the reset input is asserted the part is held in reset and no event
takes place (R163). -/
def whenRunning (f : State → State) (s : State) : Host.Outcome State Fault Refusal :=
  if s.path.resetHeld then .next s else .next (f s)

end Sys2Proof.Machine
end

