-- ==== Sys2Proof/Machine/Operands.lean ====
section
/-! DEFINITION. How operands are read: clamping, the value 255, enumerations by their numbers
(R173, R180), sets, timing fields, cell sources and templates; and the address ranges of the places
the part knows, which the configuration tests keep apart (R76, R110, R141). -/

namespace Sys2Proof.Machine

/-- A value outside its range clamped to the nearer end (00_scope.md, Out-of-range values). -/
def clamp (lo hi n : Nat) : Nat := max lo (min n hi)

/-- The value 255 stands for none or ANY (R173). -/
def orNone (n : Nat) : Option Nat := if n = 255 then none else some n

/-- A byte of a single flag: 0 or 1 (R173). -/
def isFlag (n : Nat) : Bool := n ≤ 1

/-- A set of surfaces: places 12 and above are dropped (R59, R69, R180). -/
def screensOf (n : Nat) : BitVec 12 := BitVec.ofNat 12 n

/-- The shaped timing of a notice, clamped (R59); none for an unknown mode or, for CYCLE, an unknown
end action. -/
def timingOf (p : TimingParams) : Option Timing :=
  match p.mode with
  | 0 => some .steady
  | 1 => some (.timed (clamp 5 3600 p.lifetime))
  | 2 =>
    if p.endAction ≤ 1 then
      some (.cycle (clamp 1 600 p.dwell) (clamp 1 600 p.gap) (clamp 1 20 p.repeats)
        (p.endAction == 1))
    else none
  | _ => none

/-- The event kinds a trigger can name, numbered in the order of R68. -/
def triggerKindOf : Nat → Option TallyKind
  | 0 => some .soldOut
  | 1 => some .almost
  | 2 => some .boarding
  | 3 => some .started
  | 4 => some .delayed
  | 5 => some .cancelled
  | _ => none

/-- The justifications, numbered in the order of R81. -/
def justOf : Nat → Option Just
  | 0 => some .left
  | 1 => some .right
  | 2 => some .centre
  | _ => none

/-- The fields, numbered as R173 gives. -/
def fieldOf : Nat → Option Field
  | 0 => some .auditorium
  | 1 => some .start
  | 2 => some .title
  | 3 => some .seats
  | 4 => some .delay
  | 5 => some .status
  | _ => none

/-- The source of a cell by its kind and parameters; none where R82 refuses it. -/
def sourceOf (kind p1 p2 p3 : Nat) : Option Source :=
  match kind with
  | 0 => if p1 < Config.segments then some (.fixed p1) else none
  | 1 => if p1 < Config.shows then (fieldOf p2).map (Source.showField p1) else none
  | 2 => if p1 < Config.views ∧ p2 < 16 then (fieldOf p3).map (Source.board p1 p2) else none
  | 3 => if p1 < Config.surfaces then some (.notice p1) else none
  | 4 => some .clock
  | _ => none

/-- A template item: a segment 0..63, or 64 plus a field's number, STATUS excluded (R173). -/
def itemOf (n : Nat) : Option TemplateItem :=
  if n < Config.segments then some (.segment n)
  else if n < 69 then (fieldOf (n - 64)).map TemplateItem.field
  else none

/-- The items of a template, none if one of them is no item. -/
def itemsOf : List Nat → Option (List TemplateItem)
  | [] => some []
  | n :: rest =>
    match itemOf n, itemsOf rest with
    | some i, some is => some (i :: is)
    | _, _ => none

/-- A template of 1 to 6 items; the items beyond the count are not read (R69, R173). -/
def templateOf (count : Nat) (items : List Nat) : Option (List TemplateItem) :=
  if 1 ≤ count ∧ count ≤ 6 then itemsOf (items.take count) else none

/-- The starvation modes, numbered in the order of R109. -/
def starvationOf : Nat → Option Starvation
  | 0 => some .hold
  | 1 => some .poster
  | 2 => some .retry
  | _ => none

/-- A retry time: one of the six of R109. -/
def isRetryTime (n : Nat) : Bool := [1, 2, 5, 10, 30, 60].contains n

/-- A retry limit: one of the six of R109, 0 standing for UNLIMITED (R173). -/
def isRetryLimit (n : Nat) : Bool := [0, 1, 2, 3, 5, 10].contains n

/-- The modes, numbered as R174 gives. -/
def modeOf : Nat → Option Mode
  | 0 => some .pass
  | 1 => some .enabled
  | _ => none

/-! ### Places in the address space -/

/-- A range of addresses. -/
structure Span where
  base : Nat
  size : Nat
deriving DecidableEq, Repr

/-- Whether an address lies in a range. -/
def Span.holds (r : Span) (a : Nat) : Bool := r.base ≤ a && a < r.base + r.size

/-- Whether two ranges share an address. -/
def Span.meets (a b : Span) : Bool :=
  a.base < b.base + b.size && b.base < a.base + a.size && 0 < a.size && 0 < b.size

/-- Whether a range lies within the 40-bit address space. -/
def Span.inSpace (a : Span) : Bool := a.base + a.size ≤ Config.space

/-- The line at an address. -/
def lineSpan (a : Nat) : Span := { base := a, size := Config.lineBytes }

/-- The anchor page: 4 KiB at S × 16 MiB (R163). -/
def State.anchorSpan (s : State) : Span :=
  { base := s.path.straps * Config.strapUnit, size := Config.anchorBytes }

/-- The intake window, where there is one (R140). -/
def IntakeUnit.spans (u : IntakeUnit) : List Span :=
  match u.window with
  | none => []
  | some (base, length) => [{ base := base, size := 64 * length }]

/-- The region of a surface (R75). -/
def Surface.span (f : Surface) : Span := { base := f.base, size := f.stride * f.height }

/-- The regions of the surfaces that are not UNSET, but for surface `k`. -/
def PatchUnit.regionsBut (u : PatchUnit) (k : Nat) : List Span :=
  ((u.surfaces.zipIdx).filter (fun x => x.1.state != .unset && x.2 != k)).map (fun x => x.1.span)

/-- The slot region of a pane (R110). -/
def PaneSettings.slotSpan (g : PaneSettings) : Span :=
  { base := g.slotBase, size := g.slotCount * g.slotSize }

/-- The settings of the configured panes with their numbers. -/
def PaneUnit.configured (u : PaneUnit) : List (Nat × PaneSettings) :=
  (u.panes.zipIdx).filterMap (fun x => x.1.settings.map (fun g => (x.2, g)))

/-- The settings of the configured panes but for pane `k`. -/
def PaneUnit.configuredBut (u : PaneUnit) (k : Nat) : List PaneSettings :=
  (u.configured.filter (fun x => x.1 != k)).map (fun x => x.2)

/-- The slot region, marker line and cue line of each pane of a list. -/
def paneSpans : List PaneSettings → List Span
  | [] => []
  | g :: rest => g.slotSpan :: lineSpan g.marker :: lineSpan g.cue :: paneSpans rest

/-- A surface number that stands for none. -/
def noSurface : Nat := Config.surfaces

/-- A pane number that stands for none. -/
def noPane : Nat := Config.panes

/-- Whether a range shares an address with one of a list. -/
def meetsAny (r : Span) (l : List Span) : Bool := l.any r.meets

end Sys2Proof.Machine
end

