-- ==== Sys2Proof/Machine/Tally.lean ====
section
/-! DEFINITION. The Tally Unit: recomputing states and bands (R4 to R10), the hold list and the
expired-hold list (R23 to R37), the twelve record kinds it applies (R12 to R21, R26 to R31), the
clock events (R22), and the commands CHANGE_OF_MINUTE and HOLD_EXPIRY. -/

namespace Sys2Proof.Machine

/-! ### Entries and events -/

/-- The entry of a show number; numbers past the table read as EMPTY. -/
def TallyUnit.entry (t : TallyUnit) (n : Nat) : Show := t.shows.getD n Show.vacant

/-- The unit with one entry replaced. -/
def TallyUnit.put (t : TallyUnit) (n : Nat) (w : Show) : TallyUnit :=
  { t with shows := t.shows.set n w }

/-- What an event at the Tally Unit leaves: the unit, and the events emitted, in order. -/
structure TallyResult where
  unit : TallyUnit
  out : List BoardEvent
deriving DecidableEq, Repr

/-- The event of a kind for a show, as a list of one, or none. -/
def eventList (n : Nat) : Option TallyKind → List BoardEvent
  | none => []
  | some k => [.tally { showNo := n, kind := k }]

/-- The band of a show recomputed, with the band event of R10 if it changed (R9). -/
def TallyUnit.reband (t : TallyUnit) (n : Nat) : TallyResult :=
  { unit := t.put n { t.entry n with band := bandOf t.settings (t.entry n) },
    out := eventList n (bandEvent (t.entry n).band (bandOf t.settings (t.entry n))) }

/-- Several shows visited in order, each one's events before the next one's (R8). -/
def visitEach (visit : TallyUnit → Nat → TallyResult) : TallyUnit → List Nat → TallyResult
  | t, [] => { unit := t, out := [] }
  | t, n :: rest =>
    { unit := (visitEach visit (visit t n).unit rest).unit,
      out := (visit t n).out ++ (visitEach visit (visit t n).unit rest).out }

/-- The show numbers in order. -/
def showNumbers : List Nat := List.range Config.shows

/-! ### The hold list and the expired-hold list -/

/-- The pair of a hold (R23). -/
def Hold.pair (h : Hold) : Nat × Nat := (h.desk, h.holdId)

/-- A pair appended to the expired-hold list: an older copy goes first, then the oldest of sixteen
entries, then the pair joins at the end (R25). -/
def appendExpired (l : List (Nat × Nat)) (p : Nat × Nat) : List (Nat × Nat) :=
  if (l.filter (fun q => q != p)).length < Config.expired then l.filter (fun q => q != p) ++ [p]
  else (l.filter (fun q => q != p)).drop 1 ++ [p]

/-- A show's held field lowered by `n`. -/
def TallyUnit.lowerHeld (t : TallyUnit) (showNo n : Nat) : TallyUnit :=
  t.put showNo { t.entry showNo with held := (t.entry showNo).held - n }

/-- A hold that has left the hold list without an answer: its seats return and its pair is
appended (R32, R34). -/
def TallyUnit.lapse (t : TallyUnit) (h : Hold) : TallyUnit :=
  { t.lowerHeld h.showNo h.n with expired := appendExpired t.expired h.pair }

/-- Several holds lapsed in list order. -/
def TallyUnit.lapseAll : TallyUnit → List Hold → TallyUnit
  | t, [] => t
  | t, h :: rest => (t.lapse h).lapseAll rest

/-- Every hold of a show removed, in hold-list order (R34). -/
def TallyUnit.releaseShow (t : TallyUnit) (n : Nat) : TallyUnit :=
  { t with holds := t.holds.filter (fun h => h.showNo != n) }.lapseAll
    (t.holds.filter (fun h => h.showNo == n))

/-- A hold inserted after every entry that expires no later and before every later one (R27). -/
def insertHold (new : Hold) : List Hold → List Hold
  | [] => [new]
  | h :: rest => if h.expiry ≤ new.expiry then h :: insertHold new rest else new :: h :: rest

/-! ### Visits -/

/-- The visit of a show at a change of minute or clock command: the state recomputed; on a change
the holds of a closing show released and its band recomputed; the state event, then the band event
(R7, R22). -/
def TallyUnit.visitClock (now : Nat) (t : TallyUnit) (n : Nat) : TallyResult :=
  if recomputed t.settings now (t.entry n) = (t.entry n).state then { unit := t, out := [] }
  else if recomputed t.settings now (t.entry n) = .closed then
    let r := ((t.put n { t.entry n with state := .closed }).releaseShow n).reband n
    { unit := r.unit, out := eventList n (stateEvent .closed) ++ r.out }
  else
    { unit := t.put n { t.entry n with state := recomputed t.settings now (t.entry n) },
      out := eventList n (stateEvent (recomputed t.settings now (t.entry n))) }

/-- The visit of a non-EMPTY show at SET_TALLY: the state recomputed, holds released if it closes,
then the band recomputed (R4). The band of a show that closes is recomputed by `visitClock` already,
and once more without effect. -/
def TallyUnit.visitSettings (now : Nat) (t : TallyUnit) (n : Nat) : TallyResult :=
  if (t.entry n).state = .empty then { unit := t, out := [] }
  else
    { unit := ((t.visitClock now n).unit.reband n).unit,
      out := (t.visitClock now n).out ++ ((t.visitClock now n).unit.reband n).out }

/-- The visit of a show by the purge of DAY_START: a CLOSED or CANCELLED entry is emptied (R22). -/
def TallyUnit.visitPurge (t : TallyUnit) (n : Nat) : TallyResult :=
  if (t.entry n).state = .closed ∨ (t.entry n).state = .cancelled then
    { unit := t.put n Show.vacant, out := eventList n (some .removed) }
  else { unit := t, out := [] }

/-- The change of business minute, and the recomputation after SET_CLOCK (R7, R22). -/
def TallyUnit.recomputeAll (t : TallyUnit) (now : Nat) : TallyResult :=
  visitEach (fun u n => u.visitClock now n) t showNumbers

/-- DAY_START at the Tally Unit: the purge, the expired-hold list emptied, the states recomputed
(R22). -/
def TallyUnit.dayStart (t : TallyUnit) (now : Nat) : TallyResult :=
  let purged := visitEach (fun u n => u.visitPurge n) t showNumbers
  let r := { purged.unit with expired := [] }.recomputeAll now
  { unit := r.unit, out := purged.out ++ r.out }

/-- SET_TALLY at the Tally Unit: the settings stored, every non-EMPTY show visited (R4). -/
def TallyUnit.setSettings (t : TallyUnit) (now : Nat) (g : TallySettings) : TallyResult :=
  visitEach (fun u n => u.visitSettings now n) { t with settings := g } showNumbers

/-- The expiry event carrying an uptime value: the due holds at the front lapse in list order
(R32), then the bands of the shows that lost one are recomputed in show-number order (R33). -/
def TallyUnit.expire (t : TallyUnit) (value : Nat) : TallyResult :=
  let gone := t.holds.takeWhile (fun h => h.expiry ≤ value)
  visitEach (fun u n => u.reband n)
    ({ t with holds := t.holds.dropWhile (fun h => h.expiry ≤ value) }.lapseAll gone)
    (showNumbers.filter (fun n => gone.any (fun h => h.showNo == n)))

/-! ### Records -/

/-- What the Tally Unit hands back for a record: the unit, the events, the outcome, and the show
whose seats left, state and band are reported, if one is (R12, R31). -/
structure TallyAnswer where
  unit : TallyUnit
  out : List BoardEvent
  reason : Reason
  subject : Option Nat
deriving DecidableEq, Repr

/-- A refused record changes nothing and emits nothing (R12). -/
def TallyUnit.refuse (t : TallyUnit) (reason : Reason) (subject : Option Nat) : TallyAnswer :=
  { unit := t, out := [], reason := reason, subject := subject }

/-- A record applied. -/
def TallyResult.done (r : TallyResult) (subject : Nat) : TallyAnswer :=
  { unit := r.unit, out := r.out, reason := .none, subject := some subject }

/-- Whether a show is CLOSED or CANCELLED. -/
def Show.over (w : Show) : Bool := w.state == .closed || w.state == .cancelled

/-- The seat count test of the seat records: n outside 1..64 (R13). -/
def badCount (n : Nat) : Bool := n == 0 || 64 < n

/-- SALE (R13). -/
def TallyUnit.sale (t : TallyUnit) (desk m n : Nat) : TallyAnswer :=
  if Config.shows ≤ m then t.refuse .badField (some m)
  else if 63 < desk then t.refuse .badField (some m)
  else if badCount n then t.refuse .badCount (some m)
  else if (t.entry m).state = .empty then t.refuse .noShow (some m)
  else if (t.entry m).over then t.refuse .showClosed (some m)
  else if (t.entry m).left < n then t.refuse .noSeats (some m)
  else ((t.put m { t.entry m with sold := (t.entry m).sold + n }).reband m).done m

/-- REFUND (R14). -/
def TallyUnit.refund (t : TallyUnit) (desk m n : Nat) : TallyAnswer :=
  if Config.shows ≤ m then t.refuse .badField (some m)
  else if 63 < desk then t.refuse .badField (some m)
  else if badCount n then t.refuse .badCount (some m)
  else if (t.entry m).state = .empty then t.refuse .noShow (some m)
  else if (t.entry m).sold < n then t.refuse .badCount (some m)
  else ((t.put m { t.entry m with sold := (t.entry m).sold - n }).reband m).done m

/-- BLOCK (R15). -/
def TallyUnit.block (t : TallyUnit) (desk m n : Nat) : TallyAnswer :=
  if Config.shows ≤ m then t.refuse .badField (some m)
  else if 63 < desk then t.refuse .badField (some m)
  else if badCount n then t.refuse .badCount (some m)
  else if (t.entry m).state = .empty then t.refuse .noShow (some m)
  else if (t.entry m).over then t.refuse .showClosed (some m)
  else if (t.entry m).left < n then t.refuse .noSeats (some m)
  else ((t.put m { t.entry m with blocked := (t.entry m).blocked + n }).reband m).done m

/-- UNBLOCK (R16). -/
def TallyUnit.unblock (t : TallyUnit) (desk m n : Nat) : TallyAnswer :=
  if Config.shows ≤ m then t.refuse .badField (some m)
  else if 63 < desk then t.refuse .badField (some m)
  else if badCount n then t.refuse .badCount (some m)
  else if (t.entry m).state = .empty then t.refuse .noShow (some m)
  else if (t.entry m).blocked < n then t.refuse .badCount (some m)
  else ((t.put m { t.entry m with blocked := (t.entry m).blocked - n }).reband m).done m

/-- The entry SHOW_DEFINE makes: the state from the time state, the band without an event (R17). -/
def definedShow (g : TallySettings) (now auditorium start capacity : Nat) (title : Text) : Show :=
  let w : Show :=
    { Show.vacant with
      state := timeState g now start, auditorium := auditorium, start := start,
      capacity := capacity, title := title }
  { w with band := bandOf g w }

/-- SHOW_DEFINE (R17). -/
def TallyUnit.define (t : TallyUnit) (now m auditorium start capacity : Nat) (title : List Byte) :
    TallyAnswer :=
  if Config.shows ≤ m then t.refuse .badField (some m)
  else if (t.entry m).state ≠ .empty then t.refuse .showExists (some m)
  else if auditorium = 0 ∨ 24 < auditorium ∨ Config.lastMinute < start ∨ capacity = 0 ∨
      4000 < capacity then t.refuse .badField (some m)
  else
    { unit := t.put m (definedShow t.settings now auditorium start capacity (takeText 24 title)),
      out := eventList m (stateEvent (timeState t.settings now start)), reason := .none,
      subject := some m }

/-- SHOW_AMEND (R18). -/
def TallyUnit.amend (t : TallyUnit) (m capacity : Nat) (title : List Byte) : TallyAnswer :=
  if Config.shows ≤ m then t.refuse .badField (some m)
  else if (t.entry m).state = .empty then t.refuse .noShow (some m)
  else if (t.entry m).over then t.refuse .wrongState (some m)
  else if 4000 < capacity then t.refuse .badField (some m)
  else if capacity ≠ 0 ∧ capacity < (t.entry m).sold + (t.entry m).held + (t.entry m).blocked then
    t.refuse .overCapacity (some m)
  else
    ((t.put m { t.entry m with
        capacity := if capacity = 0 then (t.entry m).capacity else capacity
        title := if takeText 24 title = [] then (t.entry m).title
          else takeText 24 title }).reband m).done m

/-- SHOW_DELAY: the delay replaced, DELAYED if it is above 0, a delay notice if it changed to 0,
then the state recomputed as at a change of minute (R19, R43). A delay of 0 on a show at delay 0
changes nothing, the state included (log entry 16). -/
def TallyUnit.delayShow (t : TallyUnit) (now m minutes : Nat) : TallyAnswer :=
  if Config.shows ≤ m then t.refuse .badField (some m)
  else if (t.entry m).state = .empty then t.refuse .noShow (some m)
  else if (t.entry m).state ≠ .listed ∧ (t.entry m).state ≠ .boarding then
    t.refuse .wrongState (some m)
  else
    let d := clamp 0 240 minutes
    if d = 0 ∧ (t.entry m).delay = 0 then
      { unit := t, out := [], reason := .none, subject := some m }
    else
      let r := (t.put m { t.entry m with delay := d }).visitClock now m
      { unit := r.unit,
        out := (if 0 < d then eventList m (some .delayed) else [.delayNotice m]) ++ r.out,
        reason := .none, subject := some m }

/-- SHOW_CANCEL (R20). -/
def TallyUnit.cancel (t : TallyUnit) (now m : Nat) : TallyAnswer :=
  if Config.shows ≤ m then t.refuse .badField (some m)
  else if (t.entry m).state = .empty then t.refuse .noShow (some m)
  else if (t.entry m).over then t.refuse .wrongState (some m)
  else
    let r := ((t.put m { t.entry m with
      state := .cancelled, cancelMinute := some now }).releaseShow m).reband m
    { unit := r.unit, out := eventList m (some .cancelled) ++ r.out, reason := .none,
      subject := some m }

/-- Whether SHOW_REMOVE may empty the entry (R21). -/
def Show.removable (w : Show) : Bool :=
  w.over || (w.state == .listed && w.sold == 0 && w.held == 0 && w.blocked == 0)

/-- SHOW_REMOVE (R21). -/
def TallyUnit.remove (t : TallyUnit) (m : Nat) : TallyAnswer :=
  if Config.shows ≤ m then t.refuse .badField (some m)
  else if (t.entry m).state = .empty then t.refuse .noShow (some m)
  else if !(t.entry m).removable then t.refuse .wrongState (some m)
  else
    { unit := t.put m Show.vacant, out := eventList m (some .removed), reason := .none,
      subject := some m }

/-- Whether a pair stands in the hold list. -/
def TallyUnit.hasHold (t : TallyUnit) (p : Nat × Nat) : Bool := t.holds.any (fun h => h.pair == p)

/-- HOLD: the lifetime clamped to 10..900, the tests of R26 in their order, then the entry inserted,
the held field raised, the band recomputed and the pair removed from the expired-hold list
(R27, R28). -/
def TallyUnit.hold (t : TallyUnit) (uptime desk holdId m n lifetime : Nat) : TallyAnswer :=
  if Config.shows ≤ m then t.refuse .badField (some m)
  else if 63 < desk then t.refuse .badField (some m)
  else if holdId = 0 then t.refuse .badField (some m)
  else if badCount n then t.refuse .badCount (some m)
  else if (t.entry m).state = .empty then t.refuse .noShow (some m)
  else if (t.entry m).over then t.refuse .showClosed (some m)
  else if t.hasHold (desk, holdId) then t.refuse .duplicateHold (some m)
  else if Config.holds ≤ t.holds.length then t.refuse .holdsFull (some m)
  else if (t.entry m).left < n then t.refuse .noSeats (some m)
  else
    let h : Hold :=
      { desk := desk, holdId := holdId, showNo := m, n := n,
        expiry := uptime + clamp 10 900 lifetime }
    (({ t with
        holds := insertHold h t.holds
        expired := t.expired.filter (fun q => q != (desk, holdId)) }.put m
      { t.entry m with held := (t.entry m).held + n }).reband m).done m

/-- A pair that stands in no hold: HOLD_EXPIRED, consuming its entry of the expired-hold list, or
HOLD_UNKNOWN (R29, R30). -/
def TallyUnit.lateAnswer (t : TallyUnit) (p : Nat × Nat) : TallyAnswer :=
  if t.expired.contains p then
    { t with expired := t.expired.filter (fun q => q != p) }.refuse .holdExpired none
  else t.refuse .holdUnknown none

/-- CONFIRM: the hold becomes a sale (R29). -/
def TallyUnit.confirm (t : TallyUnit) (desk holdId : Nat) : TallyAnswer :=
  if 63 < desk then t.refuse .badField none
  else if holdId = 0 then t.refuse .badField none
  else
    match t.holds.find? (fun h => h.pair == (desk, holdId)) with
    | some h =>
      (({ t with holds := t.holds.filter (fun q => q.pair != (desk, holdId)) }.put h.showNo
        { t.entry h.showNo with
          held := (t.entry h.showNo).held - h.n
          sold := (t.entry h.showNo).sold + h.n }).reband h.showNo).done h.showNo
    | none => t.lateAnswer (desk, holdId)

/-- RELEASE: the hold's seats return (R30). -/
def TallyUnit.release (t : TallyUnit) (desk holdId : Nat) : TallyAnswer :=
  if 63 < desk then t.refuse .badField none
  else if holdId = 0 then t.refuse .badField none
  else
    match t.holds.find? (fun h => h.pair == (desk, holdId)) with
    | some h =>
      (({ t with holds := t.holds.filter (fun q => q.pair != (desk, holdId)) }.lowerHeld
        h.showNo h.n).reband h.showNo).done h.showNo
    | none => t.lateAnswer (desk, holdId)

/-- The record a Tally Unit record kind asks for; a notice record is none of its kinds. -/
def TallyUnit.apply (t : TallyUnit) (now uptime : Nat) : Record → TallyAnswer
  | .sale desk m n => t.sale desk m n
  | .refund desk m n => t.refund desk m n
  | .block desk m n => t.block desk m n
  | .unblock desk m n => t.unblock desk m n
  | .hold desk holdId m n lifetime => t.hold uptime desk holdId m n lifetime
  | .confirm desk holdId => t.confirm desk holdId
  | .release desk holdId => t.release desk holdId
  | .showDefine m auditorium start capacity title => t.define now m auditorium start capacity title
  | .showAmend m capacity title => t.amend m capacity title
  | .showDelay m minutes => t.delayShow now m minutes
  | .showCancel m => t.cancel now m
  | .showRemove m => t.remove m
  | .noticePost _ => t.refuse .badKind none
  | .noticeWithdraw _ _ => t.refuse .badKind none

/-- The entry whose seats left, state and band a result reports: the EMPTY entry where the record
names no show (R12, R31). -/
def TallyAnswer.reported (a : TallyAnswer) : Show :=
  match a.subject with
  | some m => a.unit.entry m
  | none => Show.vacant

/-! ### Events taken -/

/-- The Tally Unit takes the change of minute that waits, if one does (R7). -/
def takeMinute (s : State) : State :=
  if s.tally.minuteWaiting then
    let r := { s.tally with minuteWaiting := false }.recomputeAll s.clock.minute
    s.tallyDone r.unit r.out
  else s

/-- The Tally Unit takes the expiry event that waits, if one does (R32). -/
def takeExpiry (s : State) : State :=
  match s.tally.expiryWaiting with
  | some v =>
    let r := { s.tally with expiryWaiting := none }.expire v
    s.tallyDone r.unit r.out
  | none => s

/-- CHANGE_OF_MINUTE (R7). -/
def execChangeOfMinute (s : State) : Host.Outcome State Fault Refusal := whenRunning takeMinute s

/-- HOLD_EXPIRY (R32). -/
def execHoldExpiry (s : State) : Host.Outcome State Fault Refusal := whenRunning takeExpiry s

end Sys2Proof.Machine
end

