-- ==== Sys2Proof/Machine/Render.lean ====
section
/-! DEFINITION. Texts the part composes: decimal numbers, the seats rendering (R52), the time of day
(R167), the fields of a show (R49, R51, R85), and the fitting of a text to a cell (R86). -/

namespace Sys2Proof.Machine

/-- The decimal digits of `n`, at most `fuel` of them, without leading zeros. -/
def digitsUpTo : Nat → Nat → Text
  | 0, _ => []
  | fuel + 1, n => if n < 10 then [48 + n] else digitsUpTo fuel (n / 10) ++ [48 + n % 10]

/-- A number in decimal, without leading zeros; the numbers rendered have at most ten digits. -/
def decimal (n : Nat) : Text := digitsUpTo 10 n

/-- A number 0..99 in two digits. -/
def twoDigits (n : Nat) : Text := [48 + n / 10, 48 + n % 10]

/-- The seats rendering of `left` in `w` characters (R52); code 43 is the plus sign. -/
def seatsText (left w : Nat) : Text :=
  if left < 10 ^ w then decimal left
  else if 2 ≤ w then decimal (10 ^ (w - 1) - 1) ++ [43]
  else [43]

/-- The time of day a business minute stands for (R167). -/
def timeOfDay (origin m : Nat) : Nat := (origin + m) % 1440

/-- The hour of the 12-hour form: 1..12 (R167). -/
def hour12 (h : Nat) : Nat := if h % 12 = 0 then 12 else h % 12

/-- A time of day in the 24-hour or the 12-hour form (R167); 58 is the colon, 97 and 112 are the
letters a and p. -/
def timeText (twelveHour : Bool) (t : Nat) : Text :=
  if twelveHour then
    decimal (hour12 (t / 60)) ++ [58] ++ twoDigits (t % 60) ++ [if t / 60 < 12 then 97 else 112]
  else twoDigits (t / 60) ++ [58] ++ twoDigits (t % 60)

/-- The delay field: a plus sign and the minutes, blank for 0 (R49). -/
def delayText (d : Nat) : Text := if d = 0 then [] else 43 :: decimal d

/-- Whether SEATS is blank for a show: CANCELLED, CLOSED or EMPTY (R52). -/
def Show.seatsBlank (w : Show) : Bool := w.over || w.state == .empty

/-- The place in the state-word table of the first condition of R51 that holds; none for a CLOSED
or EMPTY entry. -/
def Show.wordPlace (w : Show) : Option Nat :=
  match w.state with
  | .empty => none
  | .closed => none
  | .cancelled => some 0
  | .started => if w.band = .soldOut then some 1 else some 2
  | .boarding => if w.band = .soldOut then some 1 else some 3
  | .listed =>
    match w.band with
    | .soldOut => some 1
    | .almost => some 4
    | .filling => some 5
    | .plenty => some 6

/-- The text of a segment; one never set holds the empty text (R67). -/
def NoticeUnit.segmentText (u : NoticeUnit) (k : Nat) : Text :=
  (u.segments.getD k { isDefined := false, text := [] }).text

/-- The STATUS text of a show: the word of its condition's entry, blank where the entry is none
(R50, R51). -/
def statusText (words : List (Option Nat)) (u : NoticeUnit) (w : Show) : Text :=
  match w.wordPlace with
  | none => []
  | some p =>
    match words.getD p none with
    | none => []
    | some k => u.segmentText k

/-- One field of a show as the board, a SHOW cell or a template renders it, with the blank cases of
R85; `width` serves SEATS alone (R49, R51, R52). -/
def fieldText (words : List (Option Nat)) (u : NoticeUnit) (origin : Nat) (twelveHour : Bool)
    (width : Nat) (w : Show) : Field → Text
  | .auditorium => if w.state = .empty then [] else decimal w.auditorium
  | .start => if w.state = .empty then [] else timeText twelveHour (timeOfDay origin w.effective)
  | .title => if w.state = .empty then [] else w.title
  | .seats => if w.seatsBlank then [] else seatsText w.left width
  | .delay => if w.state = .empty then [] else delayText w.delay
  | .status => statusText words u w

/-- A text cut to `chars` characters (R86). -/
def cutText (chars : Nat) (t : Text) : Text := t.take chars

/-- The spaces on the left that a justification asks for (R86). -/
def leftPad (j : Just) (chars len : Nat) : Nat :=
  match j with
  | .left => 0
  | .right => chars - len
  | .centre => (chars - len) / 2

/-- The target text: the source text cut and padded with spaces to exactly `chars` characters
(R86). -/
def fitText (j : Just) (chars : Nat) (t : Text) : Text :=
  List.replicate (leftPad j chars (cutText chars t).length) 32 ++ cutText chars t ++
    List.replicate (chars - (cutText chars t).length - leftPad j chars (cutText chars t).length) 32

/-- A template item's contribution for a show: a segment's text, or a field in the 24-hour form and
with SEATS in four characters (R72). -/
def itemText (words : List (Option Nat)) (u : NoticeUnit) (origin : Nat) (w : Show) :
    TemplateItem → Text
  | .segment k => u.segmentText k
  | .field f => fieldText words u origin false 4 w f

/-- The text of a notice built from a template: the items in order, cut at 40 characters (R72). -/
def templateText (words : List (Option Nat)) (u : NoticeUnit) (origin : Nat) (w : Show)
    (items : List TemplateItem) : Text :=
  cutText 40 ((items.map (itemText words u origin w)).flatten)

end Sys2Proof.Machine
end

