-- ==== Sys2Proof/Machine/Patch.lean ====
section
/-! DEFINITION. The Patch Unit's texts and pictures: source texts (R84, R85), target texts derived
afresh (R87), commit (R88, R89), frame starts and idle timers (R78, R79), the cells (R83), and the
commands PATCH_SOURCE_CHANGE, CLOCK_CELL_UPDATE and IDLE_TIMER_EXPIRY. -/

namespace Sys2Proof.Machine

/-! ### Source texts -/

/-- What the rows of a view show as it stands (R48). -/
def BoardView.shown (v : BoardView) : ViewPage := { list := v.list, page := v.page, rows := v.rows }

/-- The show at list position p × R + r, for a row r below the rows per page (R48). -/
def ViewPage.showAt (w : ViewPage) (row : Nat) : Option Nat :=
  if w.rows ≤ row then none else w.list[w.page * w.rows + row]?

/-- The show in a row of a view as last handed on: every cell bound to the view reads the same list,
page and rows per page (R48, R53; log entry 29). -/
def PatchUnit.showAt (p : PatchUnit) (v row : Nat) : Option Nat :=
  match p.viewPages[v]? with
  | none => none
  | some w => w.showAt row

/-- A view as it stands handed to the Patch Unit (R53). -/
def PatchUnit.takeView (p : PatchUnit) (v : Nat) (w : BoardView) : PatchUnit :=
  { p with viewPages := p.viewPages.set v w.shown }

/-- View `v` of the Board Unit handed to the Patch Unit as it stands (R53). -/
def State.handView (s : State) (v : Nat) : State :=
  match s.board.views[v]? with
  | none => s
  | some w => s.withPatch (s.patch.takeView v w)

/-- The text of a cell's source as it stands (R84, R85, R48). -/
def State.sourceText (s : State) (c : CellConfig) : Text :=
  match c.source with
  | .fixed k => s.notice.segmentText k
  | .showField n f =>
    fieldText s.board.words s.notice s.clock.origin c.twelveHour c.chars (s.tally.entry n) f
  | .board v row f =>
    match s.patch.showAt v row with
    | none => []
    | some n =>
      fieldText s.board.words s.notice s.clock.origin c.twelveHour c.chars (s.tally.entry n) f
  | .notice k => s.patch.noticeText.getD k []
  | .clock => timeText c.twelveHour (timeOfDay s.clock.origin s.clock.minute)

/-- The target text of a configuration: exactly chars characters (R86). -/
def State.targetText (s : State) (c : CellConfig) : Text := fitText c.just c.chars (s.sourceText c)

/-! ### Pictures -/

/-- A cell's committed record: its pending configuration and target text (R80, R88). -/
def Cell.record (c : Cell) : CellRecord :=
  { x := c.config.x, y := c.config.y, chars := c.config.chars, scale := c.config.scale,
    layer := c.config.layer, glyphSet := c.config.glyphSet, just := c.config.just,
    fg := c.config.fg, plate := c.config.plate, alpha := c.config.alpha,
    fullScreen := c.config.fullScreen, text := c.target }

/-- The records of the cells in use on surface `k`, by rising cell number from `i` on (R88). -/
def recordsOn (k : Nat) : Nat → List (Option Cell) → List (Nat × CellRecord)
  | _, [] => []
  | i, none :: rest => recordsOn k (i + 1) rest
  | i, some c :: rest =>
    if c.config.surface = k then (i, c.record) :: recordsOn k (i + 1) rest
    else recordsOn k (i + 1) rest

/-- The state of a glyph set; numbers past the store read as EMPTY. -/
def PatchUnit.setState (p : PatchUnit) (k : Nat) : GlyphState :=
  match p.sets[k]? with
  | none => .empty
  | some g => g.state

/-- A new committed picture of surface `k` (step 3 of R88). -/
def PatchUnit.newPicture (p : PatchUnit) (k : Nat) (f : Surface) : Picture :=
  { records := recordsOn k 0 p.cells, fullScreen := f.pendingFlag,
    valid0 := p.setState 0 == .valid, valid1 := p.setState 1 == .valid }

/-- A surface by number; numbers past the table read as UNSET. -/
def PatchUnit.surface (p : PatchUnit) (k : Nat) : Surface := p.surfaces.getD k Surface.vacant

/-- The unit with one surface replaced. -/
def PatchUnit.putSurface (p : PatchUnit) (k : Nat) (f : Surface) : PatchUnit :=
  { p with surfaces := p.surfaces.set k f }

/-- A change committed at once where the surface is IDLE: step 3 of R88 on the picture of g alone
(R89). -/
def PatchUnit.commitIdle (p : PatchUnit) (k : Nat) : PatchUnit :=
  if (p.surface k).state = .idle then
    p.putSurface k { p.surface k with current := p.newPicture k (p.surface k) }
  else p

/-- `commitIdle` on each surface of a list. -/
def PatchUnit.commitIdleEach : PatchUnit → List Nat → PatchUnit
  | p, [] => p
  | p, k :: rest => (p.commitIdle k).commitIdleEach rest

/-- The surface numbers in order. -/
def surfaceNumbers : List Nat := List.range Config.surfaces

/-! ### Deriving afresh -/

/-- A cell of a reached source derived afresh (R87). -/
def State.derivedCell (s : State) (reached : Source → Bool) : Option Cell → Option Cell
  | none => none
  | some c =>
    if reached c.config.source then some { c with target := s.targetText c.config } else some c

/-- Whether a cell on surface `k` differs between two tables. -/
def touches (k : Nat) : List (Option Cell) → List (Option Cell) → Bool
  | some a :: l, some b :: m => (b.config.surface == k && a.target != b.target) || touches k l m
  | _ :: l, _ :: m => touches k l m
  | _, _ => false

/-- Every cell of a reached source derived afresh in one event; a cell whose text changed on an
IDLE surface commits at once (R87, R89). -/
def State.derive (s : State) (reached : Source → Bool) : State :=
  s.withPatch
    ({ s.patch with cells := s.patch.cells.map (s.derivedCell reached) }.commitIdleEach
      (surfaceNumbers.filter
        (fun k => touches k s.patch.cells (s.patch.cells.map (s.derivedCell reached)))))

/-- The sources that read show `n`: its SHOW cells, and the BOARD cells whose row shows it in the view
as last handed on (R53, R87; log entry 29). -/
def State.readsShow (s : State) (n : Nat) : Source → Bool
  | .showField m _ => m == n
  | .board v row _ => s.patch.showAt v row == some n
  | _ => false

/-- The sources bound to view `v` (R53). -/
def readsView (v : Nat) : Source → Bool
  | .board w _ _ => w == v
  | _ => false

/-- The sources that read the state-word table (R50, R53, R85; log entry 11). -/
def readsWords : Source → Bool
  | .board _ _ .status => true
  | .showField _ .status => true
  | _ => false

/-- The sources a change of segment `k`'s text reaches (R67, R53). -/
def readsSegment (words : List (Option Nat)) (k : Nat) (src : Source) : Bool :=
  src == .fixed k || (words.contains (some k) && readsWords src)

/-- The CLOCK source (R87). -/
def readsClock : Source → Bool
  | .clock => true
  | _ => false

/-- The sources that render a time of day: CLOCK and the START fields (R87, R169). -/
def readsOrigin : Source → Bool
  | .clock => true
  | .board _ _ .start => true
  | .showField _ .start => true
  | _ => false

/-- The NOTICE source of surface `k` (R87). -/
def readsNotice (k : Nat) (src : Source) : Bool := src == .notice k

/-- The Patch Unit takes what the Notice Unit hands it for one surface: the top-notice text and the
pending full-screen flag; a changed flag commits at once on an IDLE surface (R58, R84, R89). -/
def State.applyTop (s : State) (h : TopHandOn) : State :=
  (s.withPatch
    ({ s.patch with noticeText := s.patch.noticeText.set h.surface h.text }.putSurface h.surface
      { s.patch.surface h.surface with pendingFlag := h.fullScreen }
      |>.commitIdle h.surface)).derive (readsNotice h.surface)

/-! ### Frame starts and the idle timer -/

/-- A frame start of surface `k` at the Patch Unit (R79, R88). -/
def PatchUnit.frameStart (p : PatchUnit) (k : Nat) : PatchUnit :=
  p.putSurface k
    { p.surface k with
      state := .active, gen := wrapInc (p.surface k).gen, idleTimer := some Config.idleTime,
      previous := (p.surface k).current, current := p.newPicture k (p.surface k) }

/-- The expiry of surface `k`'s idle timer: ACTIVE becomes IDLE and what waited commits at once
(R79, R89). -/
def PatchUnit.idleExpiry (p : PatchUnit) (k : Nat) : PatchUnit :=
  if (p.surface k).state = .active ∧ (p.surface k).idleTimer = some 0 then
    (p.putSurface k { p.surface k with state := .idle, idleTimer := none }).commitIdle k
  else p

/-- `idleExpiry` on each surface of a list. -/
def PatchUnit.idleExpiryEach : PatchUnit → List Nat → PatchUnit
  | p, [] => p
  | p, k :: rest => (p.idleExpiry k).idleExpiryEach rest

/-- A surface's idle timer counted down by one tick (R79). -/
def Surface.countDown (f : Surface) : Surface :=
  match f.idleTimer with
  | some (n + 1) => { f with idleTimer := some n }
  | _ => f

/-- A millisecond tick at the Patch Unit: an expiry left over from the tick before is taken first,
then every idle timer counts down (R164, R79; log entry 4). -/
def PatchUnit.millisecond (p : PatchUnit) : PatchUnit :=
  { p.idleExpiryEach surfaceNumbers with
    surfaces := (p.idleExpiryEach surfaceNumbers).surfaces.map Surface.countDown }

/-! ### Cells -/

/-- A cell by number. -/
def PatchUnit.cell (p : PatchUnit) (n : Nat) : Option Cell := (p.cells[n]?).join

/-- The surface a cell in use names. -/
def cellSurface : Option Cell → Nat
  | none => noSurface
  | some c => c.config.surface

/-- A cell set or cleared: the table changes, and the surface it leaves and the one it names commit
by their own rules (R83). -/
def PatchUnit.putCell (p : PatchUnit) (n : Nat) (c : Option Cell) : PatchUnit :=
  ({ p with cells := p.cells.set n c }.commitIdle (cellSurface (p.cell n))).commitIdle
    (cellSurface c)

/-- Whether a cell of the given place and size lies within a surface (R82). -/
def fitsSurface (x y chars scale width height : Nat) : Bool :=
  x + chars * 16 * scale ≤ width && y + 24 * scale ≤ height

/-! ### Changes taken -/

/-- The Patch Unit takes the oldest change of a show the Tally Unit handed on, if one waits. -/
def takeFromTally (s : State) : State :=
  match s.patch.fromTally with
  | n :: rest => (s.withPatch { s.patch with fromTally := rest }).derive (s.readsShow n)
  | [] => s

/-- The Patch Unit takes the oldest change of a view the Board Unit handed on, if one waits: the view
as it stands, and with it every cell bound to it, in one event (R53; log entry 29). -/
def takeFromBoard (s : State) : State :=
  match s.patch.fromBoard with
  | v :: rest =>
    ((s.withPatch { s.patch with fromBoard := rest }).handView v).derive (readsView v)
  | [] => s

/-- The Patch Unit takes the oldest hand-on of the Notice Unit, if one waits. -/
def takeFromNotice (s : State) : State :=
  match s.patch.fromNotice with
  | h :: rest => (s.withPatch { s.patch with fromNotice := rest }).applyTop h
  | [] => s

/-- The Patch Unit takes the change of minute that waits, if one does (R87, R164). -/
def takeClockCells (s : State) : State :=
  if s.patch.minuteWaiting then
    (s.withPatch { s.patch with minuteWaiting := false }).derive readsClock
  else s

/-- PATCH_SOURCE_CHANGE (R87). -/
def execPatchSourceChange (source : PatchSource) (s : State) : Host.Outcome State Fault Refusal :=
  whenRunning
    (match source with
     | .tally => takeFromTally
     | .board => takeFromBoard
     | .notice => takeFromNotice) s

/-- CLOCK_CELL_UPDATE (R87). -/
def execClockCellUpdate (s : State) : Host.Outcome State Fault Refusal :=
  whenRunning takeClockCells s

/-- IDLE_TIMER_EXPIRY (R79). -/
def execIdleTimerExpiry (surface : Nat) (s : State) : Host.Outcome State Fault Refusal :=
  whenRunning (fun u => u.withPatch (u.patch.idleExpiry surface)) s

end Sys2Proof.Machine
end

