-- ==== Sys2Proof/Machine/Board.lean ====
section
/-! DEFINITION. The Board Unit: membership and order (R41, R42), recomputation (R43, R46), paging
(R45), and the commands BOARD_TALLY_EVENT, BOARD_MINUTE_RECOMPUTE and DWELL_EXPIRY. -/

namespace Sys2Proof.Machine

/-- Whether a show is a member of a view at minute `now` (R41). -/
def BoardView.member (v : BoardView) (now : Nat) (w : Show) : Bool :=
  w.state != .empty && (w.auditorium != 0 && v.filter.getLsbD (w.auditorium - 1)) &&
    (match w.state with
     | .listed => w.effective ≤ now + v.horizon
     | .boarding => true
     | .started => true
     | .cancelled => now < w.cancelMinute.getD 0 + v.linger
     | .closed => false
     | .empty => false)

/-- Whether show `m` stands before show `n` in a list: by effective start, then auditorium, then
show number (R42). -/
def standsBefore (t : TallyUnit) (m n : Nat) : Bool :=
  (t.entry m).effective < (t.entry n).effective ||
    ((t.entry m).effective == (t.entry n).effective &&
      ((t.entry m).auditorium < (t.entry n).auditorium ||
        ((t.entry m).auditorium == (t.entry n).auditorium && m < n)))

/-- A show put in its place in an ordered list (R42). -/
def insertShow (t : TallyUnit) (m : Nat) : List Nat → List Nat
  | [] => [m]
  | n :: rest => if standsBefore t m n then m :: n :: rest else n :: insertShow t m rest

/-- Shows put in order (R42). -/
def orderShows (t : TallyUnit) : List Nat → List Nat
  | [] => []
  | m :: rest => insertShow t m (orderShows t rest)

/-- The list of a view for a show table and a minute (R42). -/
def BoardView.listFor (v : BoardView) (t : TallyUnit) (now : Nat) : List Nat :=
  orderShows t (showNumbers.filter (fun n => v.member now (t.entry n)))

/-- A view recomputed: the list replaced; a page left beyond its end becomes 0 with the dwell timer
restarted (R42, R46). -/
def BoardView.recompute (v : BoardView) (t : TallyUnit) (now : Nat) : BoardView :=
  if v.page ≠ 0 ∧ (v.listFor t now).length ≤ v.page * v.rows then
    { v with list := v.listFor t now, page := 0, timer := v.dwell }
  else { v with list := v.listFor t now }

/-- The views whose list or page differs: whose cells are recomputed (R45, R46, R53). That the views
changed by one event are handed on by rising view number and taken one at a time is the model's choice
(DESIGN CHOICE, log entry 34). -/
def changedViews : Nat → List BoardView → List BoardView → List Nat
  | i, a :: l, b :: m =>
    if a.list = b.list ∧ a.page = b.page then changedViews (i + 1) l m
    else i :: changedViews (i + 1) l m
  | _, _, _ => []

/-- The state after an event at the Board Unit that leaves these views: the changed ones are handed
to the Patch Unit (R53). -/
def State.boardDone (s : State) (views : List BoardView) : State :=
  { s with
    board := { s.board with views := views }
    patch := { s.patch with fromBoard := s.patch.fromBoard ++ changedViews 0 s.board.views views } }

/-- The lists of all four views recomputed (R43). -/
def boardRecompute (s : State) : State :=
  s.boardDone (s.board.views.map (fun v => v.recompute s.tally s.clock.minute))

/-- The Board Unit takes the oldest tally event or delay notice, if one waits (R43). -/
def takeBoardEvent (s : State) : State :=
  match s.board.inbox with
  | _ :: rest => boardRecompute (s.withBoard { s.board with inbox := rest })
  | [] => s

/-- The Board Unit takes the change of minute that waits, if one does (R43). -/
def takeBoardMinute (s : State) : State :=
  if s.board.minuteWaiting then boardRecompute (s.withBoard { s.board with minuteWaiting := false })
  else s

/-- The expiry of a dwell timer: the page advances or wraps, the timer restarts (R45). -/
def BoardView.turn (v : BoardView) : BoardView :=
  { v with
    page := if v.list.length ≤ (v.page + 1) * v.rows then 0 else v.page + 1
    timer := v.dwell }

/-- One tick of a view's dwell timer (R45, R165). -/
def BoardView.tick (v : BoardView) : BoardView :=
  if v.timer ≤ 1 then v.turn else { v with timer := v.timer - 1 }

/-- The Board Unit takes the tick of view `k`'s dwell timer, if one waits (R45). -/
def takeDwell (k : Nat) (s : State) : State :=
  match s.board.views[k]? with
  | none => s
  | some v =>
    if v.tickWaiting then
      s.boardDone (s.board.views.set k { v with tickWaiting := false }.tick)
    else s

/-- BOARD_TALLY_EVENT (R43). -/
def execBoardTallyEvent (s : State) : Host.Outcome State Fault Refusal :=
  whenRunning takeBoardEvent s

/-- BOARD_MINUTE_RECOMPUTE (R43). -/
def execBoardMinuteRecompute (s : State) : Host.Outcome State Fault Refusal :=
  whenRunning takeBoardMinute s

/-- DWELL_EXPIRY (R45). -/
def execDwellExpiry (view : Nat) (s : State) : Host.Outcome State Fault Refusal :=
  whenRunning (takeDwell view) s

end Sys2Proof.Machine
end

