-- ==== Sys2Proof/Machine/Notice.lean ====
section
/-! DEFINITION. The Notice Unit: stacks and top notices (R57, R58), posting and withdrawing (R59 to
R62), timers (R63 to R65), triggers (R68 to R73), and the commands NOTICE_TALLY_EVENT,
TIMED_NOTICE_EXPIRY, CYCLE_PHASE_EXPIRY and PANE_FULLSCREEN_FLAG. -/

namespace Sys2Proof.Machine

/-! ### Notices entering and leaving -/

/-- The notice an ID holds; numbers past the table read as free. -/
def NoticeUnit.at? (u : NoticeUnit) (n : Nat) : Option Notice := (u.notices[n]?).join

/-- The priority of the notice an ID holds. -/
def NoticeUnit.priorityOf (u : NoticeUnit) (n : Nat) : Nat :=
  match u.at? n with
  | some x => x.priority
  | none => 0

/-- A notice put in a stack after every one of equal or higher priority (R57). -/
def insertStack (u : NoticeUnit) (n priority : Nat) : List Nat → List Nat
  | [] => [n]
  | m :: rest =>
    if priority ≤ u.priorityOf m then m :: insertStack u n priority rest else n :: m :: rest

/-- The stacks from surface `k` on, with a notice put in those of its screens (R57). -/
def insertStacks (u : NoticeUnit) (n priority : Nat) (screens : BitVec 12) :
    Nat → List (List Nat) → List (List Nat)
  | _, [] => []
  | k, st :: rest =>
    (if screens.getLsbD k then insertStack u n priority st else st) ::
      insertStacks u n priority screens (k + 1) rest

/-- A notice enters the table at a free ID and its screens' stacks (R57). -/
def NoticeUnit.enter (u : NoticeUnit) (n : Nat) (x : Notice) : NoticeUnit :=
  { u with
    noticeStacks := insertStacks u n x.priority x.screens 0 u.noticeStacks
    notices := u.notices.set n (some x) }

/-- A trigger by number; numbers past the table read as EMPTY. -/
def NoticeUnit.trigger (u : NoticeUnit) (t : Nat) : Trigger :=
  u.triggers.getD t { state := .empty, settings := none, blocked := 0 }

/-- The unit with one trigger replaced. -/
def NoticeUnit.putTrigger (u : NoticeUnit) (t : Nat) (x : Trigger) : NoticeUnit :=
  { u with triggers := u.triggers.set t x }

/-- A notice's source re-armed when it is a trigger (R55, R73). -/
def NoticeUnit.rearm (u : NoticeUnit) : NoticeSource → NoticeUnit
  | .desk _ => u
  | .trigger t => u.putTrigger t { u.trigger t with state := .armed }

/-- A notice leaves the table: out of every stack, its trigger re-armed (R55). -/
def NoticeUnit.leave (u : NoticeUnit) (n : Nat) : NoticeUnit :=
  match u.at? n with
  | none => u
  | some x =>
    { u with
      notices := u.notices.set n none
      noticeStacks := u.noticeStacks.map (fun (st : List Nat) => st.filter (fun m => m != n)) }.rearm x.source

/-- The timer a notice starts on: the lifetime, the dwell, or none (R60). -/
def Timing.first : Timing → Option Nat
  | .steady => none
  | .timed lifetime => some lifetime
  | .cycle dwell _ _ _ => some dwell

/-- The repeats of a CYCLE, 0 otherwise (R60). -/
def Timing.repeats : Timing → Nat
  | .cycle _ _ r _ => r
  | _ => 0

/-- The notice raised from its settings: SHOWN, its timer started (steps 2 to 4 of R60). -/
def raisedNotice (source : NoticeSource) (priority : Nat) (screens : BitVec 12) (timing : Timing)
    (text : Text) : Notice :=
  { source := source, priority := priority, screens := screens, timing := timing, shown := true,
    remaining := timing.repeats, timer := timing.first, text := text }

/-! ### Top notices -/

/-- The first SHOWN notice of a stack (R58). -/
def NoticeUnit.topOf (u : NoticeUnit) : List Nat → Option Nat
  | [] => none
  | n :: rest =>
    match u.at? n with
    | some x => if x.shown then some n else u.topOf rest
    | none => u.topOf rest

/-- The top notice of a surface (R58). -/
def NoticeUnit.top (u : NoticeUnit) (k : Nat) : Option Nat := u.topOf (u.noticeStacks.getD k [])

/-- The text of a surface's top notice, empty without one (R58). -/
def NoticeUnit.topText (u : NoticeUnit) (k : Nat) : Text :=
  match u.top k with
  | none => []
  | some n =>
    match u.at? n with
    | some x => x.text
    | none => []

/-- Whether a surface is in full-screen mode: its top notice has priority 7 (R58). -/
def NoticeUnit.isFull (u : NoticeUnit) (k : Nat) : Bool :=
  match u.top k with
  | none => false
  | some n => u.priorityOf n == 7

/-- Whether a surface's top notice, its text or its full-screen flag differs (R58). -/
def topDiffers (old new : NoticeUnit) (k : Nat) : Bool :=
  old.top k != new.top k || old.topText k != new.topText k || old.isFull k != new.isFull k

/-- What is handed on for the surfaces whose top differs (R58); that the hand-ons of one event stand
by rising surface number and are taken one at a time is the model's choice (log entry 31). -/
def handOns (old new : NoticeUnit) : List TopHandOn :=
  (surfaceNumbers.filter (topDiffers old new)).map
    (fun k => { surface := k, text := new.topText k, fullScreen := new.isFull k })

/-- The state after one event at the Notice Unit: the unit is replaced, and at the end of the event
each changed top is handed to the Patch Unit and its flag to the Pane Unit (R58). -/
def State.noticeDone (s : State) (u : NoticeUnit) : State :=
  { s with
    notice := u
    patch := { s.patch with fromNotice := s.patch.fromNotice ++ handOns s.notice u }
    pane := { s.pane with
      flagInbox := s.pane.flagInbox ++
        (handOns s.notice u).map (fun h => (h.surface, h.fullScreen)) } }

/-! ### Hand-ons taken -/

/-- The Pane Unit takes one full-screen flag: its copy of the surface's flag (R120). -/
def PaneUnit.takeFlag (p : PaneUnit) (f : Nat × Bool) : PaneUnit :=
  { p with flags := p.flags.set f.1 f.2 }

/-- The Pane Unit takes the oldest full-screen flag handed on, if one waits (R120). -/
def takeFlagHandOn (s : State) : State :=
  match s.pane.flagInbox with
  | f :: rest => s.withPane ({ s.pane with flagInbox := rest }.takeFlag f)
  | [] => s

/-- The Patch Unit takes each of a list of hand-ons in order. -/
def State.applyTops : State → List TopHandOn → State
  | s, [] => s
  | s, h :: rest => (s.applyTop h).applyTops rest

/-- The Pane Unit takes each of a list of flags in order. -/
def PaneUnit.takeFlags : PaneUnit → List (Nat × Bool) → PaneUnit
  | p, [] => p
  | p, f :: rest => (p.takeFlag f).takeFlags rest

/-- Every hand-on of the Notice Unit that waits is taken, oldest first: what a command hands to
other units is taken within the command's own event (R171). R171 speaks only of what the command
itself hands on; that hand-ons of earlier events which still wait are taken in the same event, before
the command's own, is the model's choice (DESIGN CHOICE, log entry 36). -/
def settleTops (s : State) : State :=
  ((s.withPatch { s.patch with fromNotice := [] }).applyTops s.patch.fromNotice).withPane
    ({ s.pane with flagInbox := [] }.takeFlags s.pane.flagInbox)

/-! ### Records -/

/-- What the Notice Unit hands back for a record (R62). -/
structure NoticeAnswer where
  unit : NoticeUnit
  reason : Reason
deriving DecidableEq, Repr

/-- NOTICE_POST (R59, R60). -/
def NoticeUnit.post (u : NoticeUnit) (p : PostParams) : NoticeAnswer :=
  if 63 < p.desk ∨ Config.notices ≤ p.notice ∨ 7 < p.priority then
    { unit := u, reason := .badField }
  else
    match timingOf p.timing with
    | none => { unit := u, reason := .badField }
    | some timing =>
      { unit := (u.leave p.notice).enter p.notice
          (raisedNotice (.desk p.desk) p.priority (screensOf p.screens) timing
            (takeText 40 p.text)),
        reason := .none }

/-- NOTICE_WITHDRAW (R61). -/
def NoticeUnit.withdraw (u : NoticeUnit) (desk n : Nat) : NoticeAnswer :=
  if 63 < desk ∨ Config.notices ≤ n then { unit := u, reason := .badField }
  else if (u.at? n).isNone then { unit := u, reason := .noNotice }
  else { unit := u.leave n, reason := .none }

/-! ### The tick event -/

/-- A notice's timer counted down by one tick (R63). -/
def Notice.countDown (x : Notice) : Notice :=
  match x.timer with
  | some t => { x with timer := some (t - 1) }
  | none => x

/-- The move of a CYCLE notice at its timer's expiry; none when it leaves the table (R65). -/
def Notice.cycleMove (x : Notice) (dwell gap : Nat) (stay : Bool) : Option Notice :=
  if x.shown then some { x with shown := false, timer := some gap }
  else if 1 < x.remaining then
    some { x with shown := true, timer := some dwell, remaining := x.remaining - 1 }
  else if stay then
    some { x with timing := .steady, shown := true, timer := none, remaining := 0 }
  else none

/-- The action on one notice ID after the count-down: a TIMED notice whose timer has expired leaves,
a CYCLE notice moves (R64, R65). -/
def NoticeUnit.expireAt (u : NoticeUnit) (n : Nat) : NoticeUnit :=
  match u.at? n with
  | none => u
  | some x =>
    if x.timer ≠ some 0 then u
    else
      match x.timing with
      | .steady => u
      | .timed _ => u.leave n
      | .cycle dwell gap _ stay =>
        match x.cycleMove dwell gap stay with
        | some y => { u with notices := u.notices.set n (some y) }
        | none => u.leave n

/-- `expireAt` on each ID of a list, in order. -/
def NoticeUnit.expireEach : NoticeUnit → List Nat → NoticeUnit
  | u, [] => u
  | u, n :: rest => (u.expireAt n).expireEach rest

/-- The tick event of the notice timers: every timer counts down, then each expired notice is acted
on in notice-ID order (R63). -/
def NoticeUnit.tick (u : NoticeUnit) : NoticeUnit :=
  { u with notices := u.notices.map (Option.map Notice.countDown) }.expireEach
    (List.range Config.notices)

/-- The Notice Unit takes the tick event that waits, whole, if one does (R63). -/
def takeNoticeTick (s : State) : State :=
  if s.notice.tickWaiting then s.noticeDone { s.notice with tickWaiting := false }.tick else s

/-! ### Triggers -/

/-- Whether a trigger matches a tally event (R71). -/
def Trigger.matches (t : Trigger) (e : TallyEvent) : Bool :=
  t.state == .armed &&
    (match t.settings with
     | none => false
     | some g =>
       g.event == e.kind &&
         (match g.filter with
          | none => true
          | some n => n == e.showNo))

/-- What the Notice Unit leaves after testing triggers: the unit and whether a firing was
blocked. -/
structure FireResult where
  unit : NoticeUnit
  blocked : Bool
deriving DecidableEq, Repr

/-- One trigger tested against an event: it fires, is blocked, or is passed over; `compose` gives
the text of its template (R71, R72). -/
def NoticeUnit.fire (u : NoticeUnit) (compose : List TemplateItem → Text) (e : TallyEvent)
    (t : Nat) : FireResult :=
  if (u.trigger t).matches e then
    match (u.trigger t).settings with
    | none => { unit := u, blocked := false }
    | some g =>
      if (u.at? g.notice).isNone then
        { unit := (u.putTrigger t { u.trigger t with state := .spent }).enter g.notice
            (raisedNotice (.trigger t) g.priority g.screens g.timing (compose g.template)),
          blocked := false }
      else
        { unit := u.putTrigger t { u.trigger t with blocked := satInc (u.trigger t).blocked },
          blocked := true }
  else { unit := u, blocked := false }

/-- The triggers of a list tested in order (R71). -/
def NoticeUnit.fireEach (compose : List TemplateItem → Text) (e : TallyEvent) :
    NoticeUnit → List Nat → FireResult
  | u, [] => { unit := u, blocked := false }
  | u, t :: rest =>
    let r := u.fire compose e t
    let q := NoticeUnit.fireEach compose e r.unit rest
    { unit := q.unit, blocked := r.blocked || q.blocked }

/-- The Notice Unit takes a tally event: every trigger is tested in trigger-number order; a blocked
firing sets TRIGGER_BLOCKED (R71). -/
def noticeTally (e : TallyEvent) (s : State) : State :=
  let r := s.notice.fireEach
    (templateText s.board.words s.notice s.clock.origin (s.tally.entry e.showNo)) e
    (List.range Config.triggers)
  if r.blocked then (s.noticeDone r.unit).raise .triggerBlocked else s.noticeDone r.unit

/-- The Notice Unit takes the oldest tally event, if one waits (R71). -/
def takeNoticeEvent (s : State) : State :=
  match s.notice.inbox with
  | e :: rest => noticeTally e (s.withNotice { s.notice with inbox := rest })
  | [] => s

/-- The notice of a SPENT trigger: the ID whose notice has that trigger as source (R68). -/
def NoticeUnit.raisedBy (u : NoticeUnit) (t : Nat) : Option Nat :=
  (List.range Config.notices).find? (fun n =>
    match u.at? n with
    | some x => x.source == .trigger t
    | none => false)

/-- The notice a SPENT trigger raised leaves the table; any other trigger changes nothing
(R69, R70). -/
def NoticeUnit.withdrawRaised (u : NoticeUnit) (t : Nat) : NoticeUnit :=
  if (u.trigger t).state = .spent then
    match u.raisedBy t with
    | some n => u.leave n
    | none => u
  else u

/-! ### Commands of the table -/

/-- NOTICE_TALLY_EVENT (R71). -/
def execNoticeTallyEvent (s : State) : Host.Outcome State Fault Refusal :=
  whenRunning takeNoticeEvent s

/-- TIMED_NOTICE_EXPIRY: lifetimes expire in the Notice Unit's tick event, which is taken whole
(R63, R64; log entry 12). -/
def execTimedNoticeExpiry (s : State) : Host.Outcome State Fault Refusal :=
  whenRunning takeNoticeTick s

/-- CYCLE_PHASE_EXPIRY: dwells and gaps expire in the Notice Unit's tick event, which is taken whole
(R63, R65; log entry 12). -/
def execCyclePhaseExpiry (s : State) : Host.Outcome State Fault Refusal :=
  whenRunning takeNoticeTick s

/-- PANE_FULLSCREEN_FLAG (R120). -/
def execPaneFullscreenFlag (s : State) : Host.Outcome State Fault Refusal :=
  whenRunning takeFlagHandOn s

/-- The Pane Unit takes a tally event without effect: the event leaves its inbox (R8). -/
def takePaneEvent (s : State) : State := s.withPane { s.pane with inbox := s.pane.inbox.drop 1 }

/-- PANE_TALLY_EVENT (R8). -/
def execPaneTallyEvent (s : State) : Host.Outcome State Fault Refusal :=
  whenRunning takePaneEvent s

end Sys2Proof.Machine
end

