-- ==== Sys2Proof/Machine/Glyphs.lean ====
section
/-! DEFINITION. The glyph store, its one addressed memory, and its loader (R90 to R94), with the
commands LOAD_DONE and LOADER_DRAIN_END. The bytes of a set are held by rising offset; a byte that
is not listed reads 0 (log entry 5). -/

namespace Sys2Proof.Machine

/-! ### The bytes of a glyph set -/

/-- What an offset that nothing has written reads as: DESIGN CHOICE 0 (log entry 5). -/
def unlistedByte : Byte := 0

/-- The byte at an offset. -/
def readByte : List Host.Cell → Nat → Byte
  | [], _ => unlistedByte
  | c :: rest, a => if c.1 = a then c.2 else readByte rest a

/-- A byte written in canonical form: the unlisted value removes the entry. -/
def writeByte : List Host.Cell → Nat → Byte → List Host.Cell
  | [], a, b => if b = unlistedByte then [] else [(a, b)]
  | c :: rest, a, b =>
    if c.1 < a then c :: writeByte rest a b
    else if c.1 = a then (if b = unlistedByte then rest else (a, b) :: rest)
    else if b = unlistedByte then c :: rest
    else (a, b) :: c :: rest

/-- Bytes written from an offset on. -/
def writeBytes : List Host.Cell → Nat → List Byte → List Host.Cell
  | m, _, [] => m
  | m, a, b :: rest => writeBytes (writeByte m a b) (a + 1) rest

/-- The canonical form from an offset on: offsets rising, no unlisted value listed. -/
def Memory.wfFrom : Nat → List Host.Cell → Bool
  | _, [] => true
  | lo, c :: rest => lo ≤ c.1 && c.2 != unlistedByte && Memory.wfFrom (c.1 + 1) rest

/-- The canonical form of a set's bytes. -/
def Memory.wf (m : List Host.Cell) : Bool := Memory.wfFrom 0 m

/-- Word `i` of a set, little-endian (R92). -/
def glyphWord (m : List Host.Cell) (i : Nat) : Nat :=
  (readByte m (2 * i)).toNat + 256 * (readByte m (2 * i + 1)).toNat

/-- The ones-complement sum of the first `n` words of a set (R92). -/
def glyphSum (m : List Host.Cell) : Nat → Nat
  | 0 => 0
  | n + 1 => onesAdd (glyphSum m n) (glyphWord m n)

/-! ### The loader -/

/-- A glyph set by number. -/
def PatchUnit.set (p : PatchUnit) (k : Nat) : GlyphSet :=
  p.sets.getD k { state := .empty, bytes := [] }

/-- The unit with one glyph set replaced. -/
def PatchUnit.putSet (p : PatchUnit) (k : Nat) (g : GlyphSet) : PatchUnit :=
  { p with sets := p.sets.set k g }

/-- A picture whose VALID record of a set is cleared (R91). -/
def Picture.invalidate (q : Picture) (k : Nat) : Picture :=
  { q with
    valid0 := q.valid0 && k != 0
    valid1 := q.valid1 && k != 1 }

/-- A surface whose pictures no longer record a set as VALID (R91). -/
def Surface.invalidate (f : Surface) (k : Nat) : Surface :=
  { f with current := f.current.invalidate k, previous := f.previous.invalidate k }

/-- A load begun: the set enters LOADING, both pictures of every surface drop its VALID record, the
loader is busy with 576 lines (R91). -/
def PatchUnit.beginLoad (p : PatchUnit) (k source sum : Nat) : PatchUnit :=
  { p.putSet k { p.set k with state := .loading } with
    surfaces := p.surfaces.map (fun (f : Surface) => f.invalidate k)
    loader := .busy {
      set := k, source := source, sum := sum, next := 0, outstanding := [], failed := false } }

/-- A load is complete when its 576 reads have been issued and every response has returned (R92). -/
def Load.complete (l : Load) : Bool := l.next == Config.glyphLines && l.outstanding.isEmpty

/-- Whether a complete load is good: no read failed and the sum is the expected one (R92). -/
def PatchUnit.loadGood (p : PatchUnit) (l : Load) : Bool :=
  !l.failed && glyphSum (p.set l.set).bytes (Config.glyphBytes / 2) == l.sum

/-- The completion of a load: VALID or BAD, the loader idle; IDLE surfaces commit at once (R92,
R89). -/
def PatchUnit.endLoad (p : PatchUnit) (l : Load) : PatchUnit :=
  ({ p.putSet l.set { p.set l.set with state := if p.loadGood l then .valid else .bad } with
    loader := .idle }).commitIdleEach surfaceNumbers

/-- The Patch Unit's own event when the last response of a load has returned (R92). -/
def takeLoadDone (s : State) : State :=
  match s.patch.loader with
  | .busy l =>
    if l.complete then
      if s.patch.loadGood l then (s.withPatch (s.patch.endLoad l)).raise .loadDone
      else ((s.withPatch (s.patch.endLoad l)).raise .loadDone).raise .glyphBad
    else s
  | _ => s

/-- The draining loader becomes idle once nothing is outstanding (R93). -/
def takeDrainEnd (s : State) : State :=
  match s.patch.loader with
  | .draining [] => s.withPatch { s.patch with loader := .idle }
  | _ => s

/-- A load in flight aborted by a WARM_RESET: its set EMPTY, the reads already issued drained; with
none outstanding the loader is idle at once (R93). -/
def PatchUnit.abortLoad (p : PatchUnit) : PatchUnit :=
  match p.loader with
  | .busy l =>
    { p.putSet l.set { p.set l.set with state := .empty } with
      loader := if l.outstanding.isEmpty then .idle
        else .draining (l.outstanding.map (fun x => x.1)) }
  | _ => p

/-- The response to a glyph read: a returned line is written at its place in the set, an error
marks the load; while draining, and on a number not in use, the response is discarded (R92, R93,
R161). None when an acknowledgement answers a read in use. -/
def PatchUnit.glyphResponse (p : PatchUnit) (txn : Nat) (reply : Reply) : Option PatchUnit :=
  match p.loader with
  | .idle => some p
  | .draining l =>
    if l.contains txn && reply == .ack then none
    else some { p with loader := .draining (l.filter (fun x => x != txn)) }
  | .busy l =>
    match l.outstanding.find? (fun x => x.1 == txn) with
    | none => some p
    | some x =>
      match reply with
      | .ack => none
      | .error =>
        some { p with
          loader := .busy { l with
            outstanding := l.outstanding.filter (fun y => y.1 != txn), failed := true } }
      | .data line =>
        some { p.putSet l.set
            { p.set l.set with bytes := writeBytes (p.set l.set).bytes (64 * x.2) (line.take 64) } with
          loader := .busy { l with
            outstanding := l.outstanding.filter (fun y => y.1 != txn) } }

/-- LOAD_DONE (R92). -/
def execLoadDone (s : State) : Host.Outcome State Fault Refusal := whenRunning takeLoadDone s

/-- LOADER_DRAIN_END (R93). -/
def execLoaderDrainEnd (s : State) : Host.Outcome State Fault Refusal := whenRunning takeDrainEnd s

end Sys2Proof.Machine
end

