-- ==== Sys2Proof/Machine/Playlist.lean ====
section
/-! DEFINITION. Playlists: the cue advance (R131, R132), candidate evaluation (R133), and what the
playlist commands do to a playlist (R134, R136, R137). -/

namespace Sys2Proof.Machine

/-- An entry by number; numbers past the list read as clear. -/
def Playlist.entry (l : Playlist) (e : Nat) : PlayEntry := l.entries.getD e PlayEntry.clear

/-- The cue cleared: no cue entry, pass 0, no requests, no successor; the generation is kept
(R129). -/
def Playlist.clearCue (l : Playlist) : Playlist :=
  { l with
    cueEntry := none, pass := 0, startRequest := none, resumeRequest := false, successor := none }

/-- The playlist IDLE with its cue cleared (R129). -/
def Playlist.stop (l : Playlist) : Playlist := { l.clearCue with state := .idle }

/-- An entry chosen: cue entry, pass 1, a new generation, ACTIVE (R132, R133, R134). -/
def Playlist.choose (l : Playlist) (e : Nat) : Playlist :=
  { l with
    state := .active, cueEntry := some e, pass := 1, generation := wrapInc l.generation }

/-- What a playlist event leaves: the playlist, and whether PLAYLIST_STOPPED is set (R139). -/
structure PlayResult where
  list : Playlist
  stopped : Bool
deriving DecidableEq, Repr

/-- The playlist becomes IDLE by itself (R132, R133). -/
def Playlist.stopSelf (l : Playlist) : PlayResult := { list := l.stop, stopped := true }

/-- The playlist becomes SUSPENDED with a remembered successor; cue entry and pass stay
(R132, R133). -/
def Playlist.suspend (l : Playlist) (next : Nat) : PlayResult :=
  { list := { l with state := .suspended, successor := some next }, stopped := true }

/-- Whether an entry is skipped, by the show table as it stands (R133). -/
def PlayEntry.skipped (x : PlayEntry) (t : TallyUnit) : Bool :=
  match x.showNo with
  | none => false
  | some n =>
    (t.entry n).state == .empty || (t.entry n).state == .cancelled ||
      (x.skipSold && (t.entry n).band == .soldOut) ||
      (x.skipStarted && ((t.entry n).state == .started || (t.entry n).state == .closed))

/-- The entry that follows an entry in order: 0 after LOOP (R132, R133). -/
def Playlist.following (l : Playlist) (e : Nat) : Nat := if (l.entry e).loops then 0 else e + 1

/-- Candidate evaluation from candidate `c` with `left` skips to go before it suspends (R133). -/
def Playlist.evaluate (t : TallyUnit) (l : Playlist) : Nat → Nat → PlayResult
  | 0, c => l.suspend c
  | left + 1, c =>
    if Config.entries ≤ c ∨ (l.entry c).valid = false then l.stopSelf
    else if (l.entry c).skipped t then Playlist.evaluate t l left (l.following c)
    else { list := l.choose c, stopped := false }

/-- Candidate evaluation: the sixteenth skip suspends (R133). -/
def Playlist.evaluateFrom (t : TallyUnit) (l : Playlist) (c : Nat) : PlayResult :=
  l.evaluate t 16 c

/-- The resume request cleared, whatever the outcome (R132). -/
def PlayResult.spendResume (r : PlayResult) : PlayResult :=
  { r with list := { r.list with resumeRequest := false } }

/-- What follows the completion of cue entry `e` (R132). -/
def Playlist.complete (t : TallyUnit) (l : Playlist) (e : Nat) : PlayResult :=
  match l.startRequest with
  | some n =>
    (if (l.entry n).valid then { list := { l with startRequest := none }.choose n, stopped := false }
     else { l with startRequest := none }.stopSelf : PlayResult).spendResume
  | none =>
    (if (l.entry e).endOfList then l.stopSelf
     else if (l.entry e).suspends ∧ l.resumeRequest = false then l.suspend (l.following e)
     else l.evaluateFrom t (l.following e)).spendResume

/-- The cue advance of a taken LAST marker (R131). -/
def Playlist.advanceCue (t : TallyUnit) (l : Playlist) : PlayResult :=
  match l.cueEntry with
  | none => { list := l, stopped := false }
  | some e =>
    if l.pass < (l.entry e).repeats then
      { list := { l with
          pass := l.pass + 1, generation := wrapInc l.generation, resumeRequest := false },
        stopped := false }
    else l.complete t e

/-- PLAY_START at the playlist (R134). -/
def Playlist.start (l : Playlist) (e : Nat) (now : Bool) : Playlist :=
  if l.state = .active ∧ now = false then { l with startRequest := some e }
  else
    { l.choose e with startRequest := none, resumeRequest := false, successor := none }

/-- PLAY_RESUME at a playlist that is SUSPENDED: its remembered successor is evaluated (R136). -/
def Playlist.resume (t : TallyUnit) (l : Playlist) : PlayResult :=
  { l with successor := none }.evaluateFrom t (l.successor.getD Config.entries)

end Sys2Proof.Machine
end

