-- ==== Sys2Proof/Machine/Pane.lean ====
section
/-! DEFINITION. The Pane Unit: slots (R112), markers (R113, R114), flow (R115), cadence and advances
(R116 to R118), the redirect (R119), the freeze (R120), starvation and retries (R121, R122), and the
command RETRY_TIMER_EXPIRY. -/

namespace Sys2Proof.Machine

/-- A pane by number; numbers past the table read as unconfigured. -/
def PaneUnit.pane (u : PaneUnit) (k : Nat) : Pane := u.panes.getD k Pane.vacant

/-- The unit with one pane replaced. -/
def PaneUnit.put (u : PaneUnit) (k : Nat) (p : Pane) : PaneUnit :=
  { u with panes := u.panes.set k p }

/-- Whether the copy of a surface's full-screen flag is set (R120). -/
def PaneUnit.flag (u : PaneUnit) (surface : Nat) : Bool := u.flags.getD surface false

/-! ### Slots -/

/-- Whether a slot is displayed (R112). -/
def Pane.shows (p : Pane) (slot : Nat) : Bool :=
  match p.displayed with
  | none => false
  | some f => f.slot == slot

/-- Whether a slot is queued (R112). -/
def Pane.queues (p : Pane) (slot : Nat) : Bool := p.queue.any (fun f => f.slot == slot)

/-- The outstanding count of a slot (R112). -/
def Pane.outstandingOf (p : Pane) (slot : Nat) : Nat := p.outstanding.getD slot 0

/-- Whether a slot below the slot count is neither displayed nor queued nor draining (R112). -/
def Pane.isFree (p : Pane) (slot : Nat) : Bool :=
  !p.shows slot && !p.queues slot && p.outstandingOf slot == 0

/-- Whether a slot drains: released with reads outstanding (R112). -/
def Pane.drains (p : Pane) (slot : Nat) : Bool :=
  !p.shows slot && !p.queues slot && 0 < p.outstandingOf slot

/-- A redirected read of a slot issued (R112, R119). -/
def Pane.issueRead (p : Pane) (slot : Nat) : Pane :=
  { p with outstanding := p.outstanding.set slot (p.outstandingOf slot + 1) }

/-- The return of a redirected read of a slot (R112, R119). -/
def Pane.returnRead (p : Pane) (slot : Nat) : Pane :=
  { p with outstanding := p.outstanding.set slot (p.outstandingOf slot - 1) }

/-! ### Flow and flushing -/

/-- Flow becomes GO when an event leaves the depth at or below the lower mark (R115). -/
def Pane.easeFlow (p : Pane) (lower : Nat) : Pane :=
  if p.queue.length ≤ lower then { p with flow := .go } else p

/-- The queue flushed; the depth is 0, so flow becomes GO (R115). -/
def Pane.flush (p : Pane) : Pane := { p with queue := [], flow := .go }

/-! ### Markers -/

/-- The verdict on a marker; `full` tells a full-line write (R113). -/
def Pane.judge (p : Pane) (g : PaneSettings) (full : Bool) (data : Line) : MarkerVerdict :=
  if full = false then .badFrame
  else if onesSum data 32 ≠ 65535 then .badCheck
  else if p.playlist.state ≠ .active ∨ (decodeMarker data).generation ≠ p.playlist.generation then
    .stale
  else if g.slotCount ≤ (decodeMarker data).slot ∨ p.isFree (decodeMarker data).slot = false ∨
      g.slotCount - 1 ≤ p.queue.length then .slotConflict
  else .taken

/-- What a pane event leaves: the pane, and the causes it sets. -/
structure PaneResult where
  pane : Pane
  causes : List Cause
deriving DecidableEq, Repr

/-- A marker taken: its frame joins the tail, flow becomes WAIT at the upper mark, and a LAST marker
advances the cue (R114). -/
def Pane.takeMarker (p : Pane) (t : TallyUnit) (g : PaneSettings) (m : Marker) : PaneResult :=
  let joined : Pane :=
    { p with
      queue := p.queue ++ [{ slot := m.slot, endsPass := m.last }]
      flow := if g.upper ≤ p.queue.length + 1 then .wait else p.flow
      verdict := .taken
      counters := { p.counters with taken := satInc p.counters.taken } }
  if m.last then
    { pane := { joined with playlist := (joined.playlist.advanceCue t).list },
      causes := if (joined.playlist.advanceCue t).stopped then [.playlistStopped] else [] }
  else { pane := joined, causes := [] }

/-- A marker judged, and taken or refused (R113, R114). -/
def Pane.marker (p : Pane) (t : TallyUnit) (g : PaneSettings) (full : Bool) (data : Line) :
    PaneResult :=
  if p.judge g full data = .taken then p.takeMarker t g (decodeMarker data)
  else
    { pane := { p with
        verdict := p.judge g full data
        counters := { p.counters with refused := satInc p.counters.refused } },
      causes := [] }

/-! ### Cadence -/

/-- The state of the advances of one frame start: the pane, and how many found a frame. -/
structure AdvanceState where
  pane : Pane
  found : Nat
deriving DecidableEq, Repr

/-- An advance due (R117, R118). -/
def AdvanceState.advance (a : AdvanceState) : AdvanceState :=
  match a.pane.queue with
  | f :: rest =>
    { pane := { a.pane with displayed := some f, queue := rest, underrunRun := 0 },
      found := a.found + 1 }
  | [] =>
    match a.pane.playlist.state with
    | .active =>
      { a with
        pane := { a.pane with
          counters := { a.pane.counters with underruns := satInc a.pane.counters.underruns }
          underrunRun := if a.pane.display = .showing then a.pane.underrunRun + 1
            else a.pane.underrunRun } }
    | .idle =>
      if a.pane.display = .showing ∧ a.pane.displayed.any (fun f => f.endsPass) then
        { a with pane := { a.pane with displayed := none, display := .dark } }
      else a
    | .suspended => a

/-- `n` advances due, each handled before the next (R116). -/
def AdvanceState.advances : Nat → AdvanceState → AdvanceState
  | 0, a => a
  | n + 1, a => AdvanceState.advances n a.advance

/-- The frames shown and skipped counted after the advances of a frame start: every frame found but
the last is skipped, and a changed displayed slot counts one shown (R117; log entry 13). -/
def AdvanceState.count (a : AdvanceState) : Pane :=
  { a.pane with
    counters := { a.pane.counters with
      shown := if 0 < a.found ∧ a.pane.displayed.isSome then satInc a.pane.counters.shown
        else a.pane.counters.shown
      skipped := satAdd a.pane.counters.skipped (a.found - 1) } }

/-- Steps 2 and 3 of a frame start: a DARK pane takes its first frame, any other adds the clip rate
to acc and handles the advances that fall due (R116). -/
def Pane.cadence (p : Pane) (g : PaneSettings) : Pane :=
  if p.display = .dark then
    match p.queue with
    | [] => p
    | f :: rest =>
      { p with
        displayed := some f, queue := rest, acc := 0, display := .showing
        counters := { p.counters with shown := satInc p.counters.shown } }
  else
    (AdvanceState.advances ((p.acc + g.clipRate) / g.scanRate)
      { pane := { p with acc := (p.acc + g.clipRate) % g.scanRate }, found := 0 }).count

/-- The pane latched on its fallback (R121, R122). -/
def Pane.latch (p : Pane) : PaneResult :=
  { pane := { p with display := .fallbackLatched }, causes := [.paneStarved, .paneLatched] }

/-- A starved pane acts by its starvation mode (R121, R122). -/
def Pane.starve (p : Pane) (g : PaneSettings) : PaneResult :=
  let q : Pane :=
    { p with
      underrunRun := 0
      counters := { p.counters with starves := satInc p.counters.starves } }
  match g.starvation with
  | .hold => { pane := q, causes := [.paneStarved] }
  | .poster => q.latch
  | .retry =>
    match g.retryLimit with
    | none =>
      { pane := { q with display := .fallbackWait, retryTimer := some g.retryTime },
        causes := [.paneStarved] }
    | some limit =>
      if q.retriesUsed < limit then
        { pane := { q with display := .fallbackWait, retryTimer := some g.retryTime },
          causes := [.paneStarved] }
      else q.latch

/-- A frame start at one configured pane of the surface (R116). -/
def Pane.frameStart (p : Pane) (g : PaneSettings) (frozen : Bool) : PaneResult :=
  if frozen then { pane := p, causes := [] }
  else
    let q := (p.cadence g).easeFlow g.lower
    if g.deglitch ≤ q.underrunRun then q.starve g else { pane := q, causes := [] }

/-- What a frame start leaves of a list of panes: the panes and the causes set. -/
structure PanesResult where
  panes : List Pane
  causes : List Cause
deriving DecidableEq, Repr

/-- A frame start of a surface at every configured pane on it (R116). -/
def framePanes (surface : Nat) (frozen : Bool) : List Pane → PanesResult
  | [] => { panes := [], causes := [] }
  | p :: rest =>
    let r : PaneResult :=
      match p.settings with
      | none => { pane := p, causes := [] }
      | some g =>
        if g.surface = surface then p.frameStart g frozen else { pane := p, causes := [] }
    { panes := r.pane :: (framePanes surface frozen rest).panes,
      causes := r.causes ++ (framePanes surface frozen rest).causes }

/-! ### The redirect -/

/-- Whether the line of a scan read lies inside a pane's rectangle on the surface (R119). -/
def PaneSettings.inside (g : PaneSettings) (surface y x0 : Nat) : Bool :=
  g.surface == surface && g.py ≤ y && y < g.py + g.ph && g.px ≤ x0 && x0 < g.px + g.pw

/-- The address of a line in a slot (R119). -/
def PaneSettings.slotAddress (g : PaneSettings) (slot y x0 : Nat) : Nat :=
  g.slotBase + slot * g.slotSize + (y - g.py) * g.pw * 4 + (x0 - g.px) * 4

/-- A redirect: pane, slot and the new address. -/
structure Redirect where
  pane : Nat
  slot : Nat
  addr : Nat
deriving DecidableEq, Repr

/-- The redirect of a read offered to one pane: SHOWING, not frozen, a frame displayed (R119). -/
def Pane.redirect (p : Pane) (frozen : Bool) (k y x0 : Nat) (g : PaneSettings) : Option Redirect :=
  if p.display = .showing ∧ frozen = false then
    p.displayed.map (fun f => { pane := k, slot := f.slot, addr := g.slotAddress f.slot y x0 })
  else none

/-- The redirect of a scan read at row y and pixel x0, if a pane makes one (R119). -/
def PaneUnit.redirect (u : PaneUnit) (surface y x0 : Nat) : Option Redirect :=
  match u.configured.find? (fun x => x.2.inside surface y x0) with
  | none => none
  | some x => (u.pane x.1).redirect (u.flag surface) x.1 y x0 x.2

/-! ### Settings -/

/-- The running state SET_PANE and WARM_RESET leave: DARK, nothing displayed or queued, counters 0;
settings, outstanding counts and playlist entries are kept, the playlist is stopped
(R111, R129). -/
def Pane.restart (p : Pane) : Pane :=
  { p with
    display := .dark, displayed := none, queue := [], acc := 0, flow := .go, underrunRun := 0,
    retriesUsed := 0, retryTimer := none, verdict := .none, counters := PaneCounters.zero,
    playlist := p.playlist.stop }

/-- A WARM_RESET at one pane: a configured one restarts, every playlist stops (R111, R129). -/
def Pane.warmReset (p : Pane) : Pane :=
  if p.settings.isSome then p.restart else { p with playlist := p.playlist.stop }

/-- Whether a pane is in fallback (R123). -/
def Pane.inFallback (p : Pane) : Bool :=
  p.display == .fallbackWait || p.display == .fallbackLatched

/-- A pane leaves its fallback by PLAY_START (R135). -/
def Pane.leaveFallback (p : Pane) : Pane :=
  { p with
    display := if p.inFallback then (if p.displayed.isSome then .showing else .dark) else p.display
    retryTimer := if p.inFallback then none else p.retryTimer
    retriesUsed := 0, underrunRun := 0 }

/-- PANE_CLEAR (R123). -/
def Pane.clear (p : Pane) : Pane :=
  { p with
    display := if p.inFallback then .showing else p.display
    retryTimer := if p.inFallback then none else p.retryTimer
    retriesUsed := 0, underrunRun := 0, verdict := .none,
    counters := PaneCounters.zero }

/-- PLAY_STOP (R137). -/
def Pane.playStop (p : Pane) : Pane :=
  { p.flush with
    playlist := p.playlist.stop, displayed := none, display := .dark, retryTimer := none,
    retriesUsed := 0, underrunRun := 0 }

/-- PLAY_START (R134, R135). -/
def Pane.playStart (p : Pane) (e : Nat) (now : Bool) : Pane :=
  { (if now then p.flush else p).leaveFallback with playlist := p.playlist.start e now }

/-! ### The retry timer -/

/-- One tick of the retry timer; at its expiry in FALLBACK_WAIT the pane becomes SHOWING (R122). -/
def Pane.retryTick (p : Pane) : Pane :=
  match p.retryTimer with
  | none => p
  | some n =>
    if n ≤ 1 then
      if p.display = .fallbackWait then
        { p with
          display := .showing, retryTimer := none, retriesUsed := min 10 (p.retriesUsed + 1),
          underrunRun := 0 }
      else { p with retryTimer := none }
    else { p with retryTimer := some (n - 1) }

/-- The Pane Unit takes the tick of pane `k`'s retry timer, if one waits (R122). -/
def takeRetry (k : Nat) (s : State) : State :=
  if (s.pane.pane k).tickWaiting then
    s.withPane (s.pane.put k { s.pane.pane k with tickWaiting := false }.retryTick)
  else s

/-- RETRY_TIMER_EXPIRY (R122). -/
def execRetryTimerExpiry (pane : Nat) (s : State) : Host.Outcome State Fault Refusal :=
  whenRunning (takeRetry pane) s

end Sys2Proof.Machine
end

