-- ==== Sys2Proof/Machine/Pixels.lean ====
section
/-! DEFINITION. The patch computation: the place of a line (R97), the governing cell (R103), the
glyph coverage (R104, R94), the blend (R105) and the patched line (R98, R106). -/

namespace Sys2Proof.Machine

/-- The row of the line at address `a` on a surface (R97). -/
def Surface.row (f : Surface) (a : Nat) : Nat := (a - f.base) / f.stride

/-- The first pixel of the line at address `a` on a surface (R97). -/
def Surface.firstPixel (f : Surface) (a : Nat) : Nat := (a - f.base) % f.stride / 4

/-- Whether a read by an initiator at an address is a scan read of the surface: not UNSET, its scan
initiator, inside its region, and at least one pixel below the width (R96). -/
def Surface.scans (f : Surface) (initiator a : Nat) : Bool :=
  f.state != .unset && f.scan == initiator && f.span.holds a && f.firstPixel a < f.width

/-- The adjusted alpha (R105). -/
def alphaOf (alpha : Nat) : Nat := alpha + alpha / 128

/-- The blend of one channel (R105). -/
def blend (base top alpha : Nat) : Nat :=
  (top * alphaOf alpha + base * (256 - alphaOf alpha) + 128) / 256

/-- The blend of a colour, channel by channel (R106). -/
def blendColour (base top : Colour) (alpha : Nat) : Colour :=
  { r := blend base.r top.r alpha, g := blend base.g top.g alpha, b := blend base.b top.b alpha }

/-- Whether a committed record covers a pixel (R103). -/
def CellRecord.covers (c : CellRecord) (x y : Nat) : Bool :=
  c.x ≤ x && x < c.x + c.chars * 16 * c.scale && c.y ≤ y && y < c.y + 24 * c.scale

/-- Of two candidates the higher layer governs, the first one at equal layers (R103). -/
def higher : Option CellRecord → CellRecord → Option CellRecord
  | none, c => some c
  | some b, c => if b.layer < c.layer then some c else some b

/-- The governing record among those drawn in the line's mode and covering the pixel; records stand
by rising cell number (R102, R103). -/
def governing (full : Bool) (x y : Nat) : Option CellRecord → List (Nat × CellRecord) →
    Option CellRecord
  | best, [] => best
  | best, c :: rest =>
    if c.2.fullScreen = full ∧ c.2.covers x y then governing full x y (higher best c.2) rest
    else governing full x y best rest

/-- Whether a picture records a glyph set as VALID. -/
def Picture.validOf (q : Picture) (k : Nat) : Bool := if k = 0 then q.valid0 else q.valid1

/-- Whether a set is drawn: the picture records it as VALID and it is VALID now (R94). -/
def PatchUnit.drawn (p : PatchUnit) (q : Picture) (k : Nat) : Bool :=
  q.validOf k && p.setState k == .valid

/-- The coverage of a pixel in its governing cell (R104). -/
def PatchUnit.coverage (p : PatchUnit) (q : Picture) (c : CellRecord) (x y : Nat) : Nat :=
  if p.drawn q c.glyphSet then
    (readByte (p.set c.glyphSet).bytes
      ((c.text.getD ((x - c.x) / (16 * c.scale)) 32 - 32) * 384 + (y - c.y) / c.scale * 16 +
        (x - c.x) % (16 * c.scale) / c.scale)).toNat
  else 0

/-- The colour of a pixel from the memory colour: the plate stage and the text stage of its
governing cell, or the memory colour where none covers it (R106). -/
def PatchUnit.pixel (p : PatchUnit) (f : Surface) (q : Picture) (x y : Nat) (memory : Colour) :
    Colour :=
  let m := if q.fullScreen then f.plate else memory
  match governing q.fullScreen x y none q.records with
  | none => m
  | some c => blendColour (blendColour m c.plate c.alpha) c.fg (p.coverage q c x y)

/-- The four bytes of pixel `i` of a line, patched where it lies below the width; the fourth byte is
copied (R98, R106). -/
def PatchUnit.pixelBytes (p : PatchUnit) (f : Surface) (q : Picture) (y x0 : Nat) (data : Line)
    (i : Nat) : List Byte :=
  if x0 + i < f.width then
    let c := p.pixel f q (x0 + i) y (colourAt data (4 * i))
    [byte c.b, byte c.g, byte c.r, data.getD (4 * i + 3) 0]
  else bytesAt data (4 * i) 4

/-- The patched line of sixteen pixels (R98, R106). -/
def PatchUnit.patchLine (p : PatchUnit) (f : Surface) (q : Picture) (y x0 : Nat) (data : Line) :
    Line :=
  ((List.range 16).map (p.pixelBytes f q y x0 data)).flatten

/-- The generation before `g`, modulo 256 (R80). -/
def genBefore (g : Nat) : Nat := (g + 255) % 256

/-- The picture a returned line is patched with, by its generation; none is a late line (R99). -/
def Surface.pictureFor (f : Surface) (gen : Nat) : Option Picture :=
  if gen = f.gen then some f.current
  else if gen = genBefore f.gen then some f.previous
  else none

end Sys2Proof.Machine
end

