-- ==== Sys2Proof/Machine/Lines.lean ====
section
/-! DEFINITION. The codes of the enumerations (R180, R182) and the lines the part returns: the
verdict bytes, the response line, the status lines, the cue line and the inspect area (R181). -/

namespace Sys2Proof.Machine

/-! ### Codes -/

/-- R182. -/
def ShowState.code : ShowState → Nat
  | .empty => 0 | .listed => 1 | .boarding => 2 | .started => 3 | .closed => 4 | .cancelled => 5

/-- R182. -/
def Band.code : Band → Nat
  | .plenty => 0 | .filling => 1 | .almost => 2 | .soldOut => 3

/-- R182. -/
def Reason.code : Reason → Nat
  | .none => 0 | .badCheck => 1 | .badKind => 2 | .badField => 3 | .badCount => 4 | .noShow => 5
  | .showClosed => 6 | .noSeats => 7 | .showExists => 8 | .overCapacity => 9 | .wrongState => 10
  | .duplicateHold => 11 | .holdsFull => 12 | .holdExpired => 13 | .holdUnknown => 14
  | .noNotice => 15

/-- R182. -/
def Status.code : Status → Nat
  | .ok => 0 | .busy => 1 | .badFrame => 2 | .badCheck => 3 | .badCode => 4 | .param => 5
  | .wrongState => 6

/-- R182. -/
def GlyphState.code : GlyphState → Nat
  | .empty => 0 | .loading => 1 | .valid => 2 | .bad => 3

/-- R182. -/
def Display.code : Display → Nat
  | .dark => 0 | .showing => 1 | .fallbackWait => 2 | .fallbackLatched => 3

/-- R182. -/
def PlaylistState.code : PlaylistState → Nat
  | .idle => 0 | .active => 1 | .suspended => 2

/-- R182. -/
def MarkerVerdict.code : MarkerVerdict → Nat
  | .none => 0 | .taken => 1 | .badFrame => 2 | .badCheck => 3 | .stale => 4 | .slotConflict => 5

/-- R174. -/
def Mode.code : Mode → Nat
  | .pass => 0 | .enabled => 1

/-- Numbered in the order of R75 (R180). -/
def SurfaceState.code : SurfaceState → Nat
  | .unset => 0 | .idle => 1 | .active => 2

/-- Numbered in the order of R68 (R180). -/
def TriggerState.code : TriggerState → Nat
  | .empty => 0 | .armed => 1 | .spent => 2

/-- Numbered in the order of R81 (R180). -/
def Just.code : Just → Nat
  | .left => 0 | .right => 1 | .centre => 2

/-- R173. -/
def Field.code : Field → Nat
  | .auditorium => 0 | .start => 1 | .title => 2 | .seats => 3 | .delay => 4 | .status => 5

/-- Numbered in the order of R109 (R180). -/
def Flow.code : Flow → Nat
  | .go => 0 | .wait => 1

/-- Numbered in the order of R109 (R180). -/
def Starvation.code : Starvation → Nat
  | .hold => 0 | .poster => 1 | .retry => 2

/-- The event kinds of a trigger, numbered in the order of R68; no other kind is held. -/
def TallyKind.triggerCode : TallyKind → Nat
  | .soldOut => 0 | .almost => 1 | .boarding => 2 | .started => 3 | .delayed => 4 | .cancelled => 5
  | .listed => 255 | .closed => 255 | .removed => 255 | .bandDown => 255

/-- Loader idle, busy or draining (R181). -/
def Loader.code : Loader → Nat
  | .idle => 0
  | .busy _ => 1
  | .draining _ => 2

/-! ### Pieces of a line -/

/-- A number in one byte. -/
def u8 (n : Nat) : List Byte := leBytes 1 n
/-- A number in two bytes. -/
def u16 (n : Nat) : List Byte := leBytes 2 n
/-- A number in four bytes. -/
def u32 (n : Nat) : List Byte := leBytes 4 n
/-- An address in five bytes. -/
def u40 (n : Nat) : List Byte := leBytes 5 n
/-- A mark or flag in one byte. -/
def flagByte (b : Bool) : List Byte := u8 (if b then 1 else 0)
/-- `w` bytes that read 255: an absent item or a stopped timer (R181). -/
def absent (w : Nat) : List Byte := List.replicate w 255
/-- An item of `w` bytes, 255 in each where it is absent (R181). -/
def orAbsent (w : Nat) : Option Nat → List Byte
  | none => absent w
  | some n => leBytes w n
/-- A text in a field of `w` bytes, ended by zero bytes (R180). -/
def textBytes (w : Nat) (t : Text) : List Byte :=
  ((t.take w).map byte) ++ List.replicate (w - t.length) 0
/-- A colour as blue, green, red (R173). -/
def colourBytes (c : Colour) : List Byte := u8 c.b ++ u8 c.g ++ u8 c.r
/-- Bytes filled with 0 up to `w` of them, cut beyond (R181). -/
def fill (w : Nat) (l : List Byte) : List Byte := l.take w ++ List.replicate (w - l.length) 0

/-! ### The lines -/

/-- Bytes 58 to 63 of a verdict write (R148, R181). -/
def Verdict.bytes (v : Verdict) : List Byte :=
  u8 (if v.reason = .none then 2 else 3) ++ u8 v.reason.code ++ u16 v.left ++ u8 v.state.code ++
    u8 v.band.code

/-- The line of a verdict write; bytes 0 to 57 are not enabled (R149), and that they are driven 0 is
the model's choice (log entry 33). -/
def Verdict.line (v : Verdict) : Line := List.replicate 58 0 ++ v.bytes

/-- The byte enables of a verdict write: bytes 58 to 63 (R149). -/
def verdictEnables : BitVec 64 := 63#64 <<< 58

/-- Line 1 of the anchor page (R172, R181). -/
def responseLine (r : CommandResponse) : Line :=
  fill 64 (u8 r.code ++ u8 r.tag ++ u8 r.status.code ++ u8 r.count ++ r.result)

/-- Line 2 of the anchor page (R177, R181). -/
def statusLine2 (s : State) : Line :=
  fill 64
    (u8 s.path.mode.code ++ flagByte s.clock.holding ++ u8 s.patch.loader.code ++
      u8 (s.patch.setState 0).code ++ u8 (s.patch.setState 1).code ++
      u16 s.command.causes.toNat ++ u16 s.command.mask.toNat ++ u16 s.clock.minute ++
      u8 s.clock.second ++ u16 s.clock.origin ++ u32 s.clock.uptime ++ u16 s.patch.latePatch ++
      u16 s.path.readErrors ++ u16 s.path.reservedCount)

/-- Line 3 of the anchor page (R177, R181). -/
def statusLine3 (u : IntakeUnit) : Line :=
  fill 64
    (u8 u.queue.length ++ flagByte u.raised ++ u8 u.verdicts.length ++ u8 u.issued.length ++
      u16 u.reannounced ++ u16 u.counters.taken ++ u16 u.counters.done ++ u16 u.counters.refused ++
      u16 u.counters.superseded ++ u16 u.counters.missed ++ u16 u.counters.partials ++
      u16 u.counters.written ++ u16 u.counters.lost)

/-- The 256 bytes of the inspect area (R178, R181). -/
def inspectArea (u : CommandUnit) : List Byte :=
  fill 256 (u8 (u.copyKind.getD 255) ++ u16 u.copyIndex ++ u8 u.copyCount ++ u.copyBytes)

/-- The contents of anchor line `k`, 1 to 7 (R170, R181). -/
def anchorLine (s : State) (k : Nat) : Line :=
  if k = 1 then responseLine s.command.response
  else if k = 2 then statusLine2 s
  else if k = 3 then statusLine3 s.intake
  else bytesAt (inspectArea s.command) (64 * (k - 4)) 64

/-- The free slots as a set, place s for slot s (R181). -/
def Pane.freePlaces (p : Pane) (slotCount : Nat) : Nat → Nat
  | 0 => 0
  | n + 1 =>
    p.freePlaces slotCount n + (if n < slotCount ∧ p.isFree n = true then 2 ^ n else 0)

/-- The clip ID of the cue entry, 0 without one (R139). -/
def Playlist.clip (l : Playlist) : Nat :=
  match l.cueEntry with
  | none => 0
  | some e => (l.entry e).clip

/-- The pass as the cue line reports it, 0 without a cue entry (R139). -/
def Playlist.passShown (l : Playlist) : Nat := if l.cueEntry.isNone then 0 else l.pass

/-- The six counters, two bytes each (R125, R181). -/
def PaneCounters.bytes (c : PaneCounters) : List Byte :=
  u16 c.taken ++ u16 c.refused ++ u16 c.shown ++ u16 c.skipped ++ u16 c.underruns ++ u16 c.starves

/-- The cue line of a configured pane (R124, R181). -/
def Pane.cueLine (p : Pane) (g : PaneSettings) : Line :=
  fill 64
    (u8 p.display.code ++ u8 p.playlist.state.code ++ orAbsent 1 p.playlist.cueEntry ++
      u16 p.playlist.clip ++ u8 p.playlist.passShown ++ u8 p.playlist.generation ++
      orAbsent 1 (p.displayed.map (fun f => f.slot)) ++ u8 (p.freePlaces g.slotCount Config.slots) ++
      u8 p.flow.code ++ u8 p.queue.length ++ u8 p.verdict.code ++ u8 p.retriesUsed ++
      p.counters.bytes)

end Sys2Proof.Machine
end

