-- ==== Sys2Proof/Machine/Intake.lean ====
section
/-! DEFINITION. The Intake Unit: intake writes taken, missed or counted (R142 to R146), the
processing step (R147, R148), the verdict writer (R149), its warm reset (R152), and the command
PROCESSING_STEP. -/

namespace Sys2Proof.Machine

/-! ### Intake writes -/

/-- Whether an address lies in an intake line (R140). -/
def IntakeUnit.covers (u : IntakeUnit) (addr : Nat) : Bool := u.spans.any (fun r => r.holds addr)

/-- Whether the intake queue holds a record of a line. -/
def IntakeUnit.holdsLine (u : IntakeUnit) (addr : Nat) : Bool :=
  u.queue.any (fun r => r.addr == addr)

/-- What an event at the Intake Unit leaves: the unit, and the causes it sets. -/
structure IntakeResult where
  unit : IntakeUnit
  causes : List Cause
deriving DecidableEq, Repr

/-- A verdict write of a line marked cancelled (R143). -/
def IntakeUnit.cancelWrite (addr : Nat) (w : IssuedWrite) : IssuedWrite :=
  if w.verdict.addr = addr then { w with cancelled := true } else w

/-- How many verdicts a write of a line removes or cancels (R143, R144). -/
def IntakeUnit.lostBy (u : IntakeUnit) (addr : Nat) : Nat :=
  (u.verdicts.filter (fun v => v.addr == addr)).length +
    (u.issued.filter (fun w => w.verdict.addr == addr && !w.cancelled)).length

/-- A line's verdicts lost to a write of it: the queued one removed, the issued ones cancelled, each
counted LOST and setting VERDICT_LOST (steps 2 and 3 of R143, R144). -/
def IntakeUnit.loseVerdicts (u : IntakeUnit) (addr : Nat) : IntakeResult :=
  { unit := { u with
      verdicts := u.verdicts.filter (fun v => v.addr != addr)
      issued := u.issued.map (IntakeUnit.cancelWrite addr)
      counters := { u.counters with lost := satAdd u.counters.lost (u.lostBy addr) } },
    causes := if 0 < u.lostBy addr then [.verdictLost] else [] }

/-- A queued record of the line removed and counted SUPERSEDED (step 1 of R143). -/
def IntakeUnit.supersede (u : IntakeUnit) (addr : Nat) : IntakeUnit :=
  if u.holdsLine addr then
    { u with
      queue := u.queue.filter (fun r => r.addr != addr)
      counters := { u.counters with superseded := satInc u.counters.superseded } }
  else u

/-- The record at the tail, counted TAKEN (step 4 of R143). -/
def IntakeUnit.append (u : IntakeUnit) (addr : Nat) (data : Line) : IntakeUnit :=
  { u with
    queue := u.queue ++ [{ addr := addr, data := data.take 58 }]
    counters := { u.counters with taken := satInc u.counters.taken } }

/-- Back-pressure and re-announce judged after a taking, by the marks as they stand: after a
SET_INTAKE a superseding taking, which leaves the depth as it was, is judged by the new marks as any
taking is (R141, R145, R146; DESIGN CHOICE, log entry 32). -/
def IntakeUnit.judgeTaking (u : IntakeUnit) : IntakeResult :=
  if u.raised then
    if u.interval ≤ u.since + 1 then
      { unit := { u with since := 0, reannounced := satInc u.reannounced },
        causes := [.intakeFull] }
    else { unit := { u with since := u.since + 1 }, causes := [] }
  else if u.upper ≤ u.queue.length then
    { unit := { u with raised := true, since := 0 }, causes := [.intakeFull] }
  else { unit := u, causes := [] }

/-- A write taken (R143). -/
def IntakeUnit.take (u : IntakeUnit) (addr : Nat) (data : Line) : IntakeResult :=
  let r := (u.supersede addr).loseVerdicts addr
  let q := (r.unit.append addr data).judgeTaking
  { unit := q.unit, causes := r.causes ++ q.causes }

/-- A write missed (R144). -/
def IntakeUnit.miss (u : IntakeUnit) (addr : Nat) : IntakeResult :=
  let r := u.loseVerdicts addr
  { unit := { r.unit with
      counters := { r.unit.counters with missed := satInc r.unit.counters.missed } },
    causes := .recordMissed :: r.causes }

/-- The state byte of POSTED (R180). -/
def posted : Nat := 1

/-- A write to an intake line sorted (R142); `full` tells a full-line write. Which of a write that is
not taken and a verdict queued for its line reaches memory first is the arbiter's (log entry 38). -/
def IntakeUnit.write (u : IntakeUnit) (addr : Nat) (full : Bool) (data : Line) : IntakeResult :=
  if full = false then
    { unit := { u with counters := { u.counters with partials := satInc u.counters.partials } },
      causes := [] }
  else if byteAt data 58 ≠ posted then { unit := u, causes := [] }
  else if u.queue.length < Config.records ∨ u.holdsLine addr then u.take addr data
  else u.miss addr

/-! ### The processing step -/

/-- The outcome of a record: what its owning unit hands back (R148). -/
structure Outcome where
  reason : Reason
  left : Nat
  state : ShowState
  band : Band
deriving DecidableEq, Repr

/-- An outcome that names no show: seats left 0, EMPTY, PLENTY (R62, R148). -/
def Outcome.plain (reason : Reason) : Outcome :=
  { reason := reason, left := 0, state := .empty, band := .plenty }

/-- What handing a record to its unit leaves: the state and the outcome. -/
structure RecordResult where
  state : State
  outcome : Outcome
deriving DecidableEq, Repr

/-- A record handed to the Tally Unit (R12, R31, R147). -/
def tallyRecord (r : Record) (s : State) : RecordResult :=
  let a := s.tally.apply s.clock.minute s.clock.uptime r
  { state := s.tallyDone a.unit a.out,
    outcome := {
      reason := a.reason, left := a.reported.left, state := a.reported.state,
      band := a.reported.band } }

/-- A record's answer of the Notice Unit (R62, R147). -/
def noticeRecord (a : NoticeAnswer) (s : State) : RecordResult :=
  { state := s.noticeDone a.unit, outcome := Outcome.plain a.reason }

/-- A decoded record handed to its owning unit (step 3 of R147). -/
def ownRecord (r : Record) (s : State) : RecordResult :=
  match r with
  | .noticePost p => noticeRecord (s.notice.post p) s
  | .noticeWithdraw desk n => noticeRecord (s.notice.withdraw desk n) s
  | .sale _ _ _ => tallyRecord r s
  | .refund _ _ _ => tallyRecord r s
  | .block _ _ _ => tallyRecord r s
  | .unblock _ _ _ => tallyRecord r s
  | .hold _ _ _ _ _ => tallyRecord r s
  | .confirm _ _ => tallyRecord r s
  | .release _ _ => tallyRecord r s
  | .showDefine _ _ _ _ _ => tallyRecord r s
  | .showAmend _ _ _ => tallyRecord r s
  | .showDelay _ _ => tallyRecord r s
  | .showCancel _ => tallyRecord r s
  | .showRemove _ => tallyRecord r s

/-- A copied record checked, decoded and handed on (steps 1 to 3 of R147). -/
def applyRecord (data : List Byte) (s : State) : RecordResult :=
  if onesSum data 29 ≠ 65535 then { state := s, outcome := Outcome.plain .badCheck }
  else
    match decodeRecord data with
    | none => { state := s, outcome := Outcome.plain .badKind }
    | some r => ownRecord r s

/-- The verdict of an outcome for a line (R148). -/
def Outcome.verdict (o : Outcome) (addr : Nat) : Verdict :=
  { addr := addr, reason := o.reason, left := o.left, state := o.state, band := o.band }

/-- Back-pressure judged after a processing step (R145). -/
def IntakeUnit.judgeStep (u : IntakeUnit) : IntakeUnit :=
  if u.raised ∧ u.queue.length ≤ u.lower then { u with raised := false, since := 0 } else u

/-- The counters after a record is applied or refused (R151). -/
def IntakeCounters.answered (c : IntakeCounters) (reason : Reason) : IntakeCounters :=
  if reason = .none then { c with done := satInc c.done } else { c with refused := satInc c.refused }

/-- The head record left, its verdict queued, DONE or REFUSED raised, back-pressure judged (step 4
of R147). -/
def IntakeUnit.answer (u : IntakeUnit) (v : Verdict) : IntakeUnit :=
  { u with
    queue := u.queue.drop 1
    verdicts := u.verdicts ++ [v]
    counters := u.counters.answered v.reason }.judgeStep

/-- A processing step, where the intake queue holds a record and the verdict queue has room
(R147). -/
def processStep (s : State) : State :=
  match s.intake.queue with
  | [] => s
  | r :: _ =>
    if s.intake.verdicts.length < Config.verdicts then
      (applyRecord r.data s).state.withIntake
        (s.intake.answer ((applyRecord r.data s).outcome.verdict r.addr))
    else s

/-! ### The verdict writer -/

/-- Whether the verdict writer requests the downstream port (R149). -/
def IntakeUnit.requests (u : IntakeUnit) : Bool :=
  !u.verdicts.isEmpty && u.issued.length < Config.issued

/-- A verdict write answered by an acknowledgement or an error: it leaves the issued list; one that
is not in the list is discarded (R149, R161). -/
def IntakeUnit.writeAnswered (u : IntakeUnit) (txn : Nat) (error : Bool) : IntakeResult :=
  match u.issued.find? (fun w => w.txn == txn) with
  | none => { unit := u, causes := [] }
  | some w =>
    let v : IntakeUnit := { u with issued := u.issued.filter (fun x => x.txn != txn) }
    if w.cancelled then { unit := v, causes := [] }
    else if error then
      { unit := { v with counters := { u.counters with lost := satInc u.counters.lost } },
        causes := [.verdictLost] }
    else
      { unit := { v with counters := { u.counters with written := satInc u.counters.written } },
        causes := [] }

/-- A number of the verdict writer that is in use. -/
def IntakeUnit.uses (u : IntakeUnit) (txn : Nat) : Bool := u.issued.any (fun w => w.txn == txn)

/-! ### Warm reset -/

/-- A WARM_RESET at the Intake Unit (R152). -/
def IntakeUnit.warmReset (u : IntakeUnit) : IntakeUnit :=
  { u with
    queue := [], verdicts := [],
    issued := u.issued.map (fun (w : IssuedWrite) => { w with cancelled := true }),
    raised := false, since := 0, reannounced := 0, counters := IntakeCounters.zero }

/-! ### The command of the table -/

/-- PROCESSING_STEP (R147). -/
def execProcessingStep (s : State) : Host.Outcome State Fault Refusal := whenRunning processStep s

end Sys2Proof.Machine
end

