-- ==== Sys2Proof/Machine/Inspect.lean ====
section
/-! DEFINITION. The seven copies of INSPECT (R178) in the packing of R181: SHOW (R1), HOLDS (R38),
NOTICE and TRIGGER (R74), CELL (R95), PANE (R126, R139) and VIEW (R54). A list carries its length in
a byte before it, a timer's seconds take 2 bytes, and an item that is absent reads 255 in every byte;
what R181 leaves open is log entry 10. -/

namespace Sys2Proof.Machine

/-- An item of a value that may be missing, at `w` bytes. -/
def packed {α : Type} (w : Nat) (f : α → List Byte) : Option α → List Byte
  | none => absent w
  | some x => f x

/-- A list preceded by its length in 1 byte (R181). -/
def counted {α : Type} (f : α → List Byte) (l : List α) : List Byte :=
  u8 l.length ++ (l.map f).flatten

/-- The SHOW copy: every field of R1. -/
def showCopy (w : Show) : List Byte :=
  u8 w.state.code ++ u8 w.auditorium ++ u16 w.start ++ u8 w.delay ++ u16 w.capacity ++ u16 w.sold ++
    u16 w.held ++ u16 w.blocked ++ u8 w.band.code ++ textBytes 24 w.title ++
    orAbsent 2 w.cancelMinute

/-- One position of the hold list, 9 bytes (R38). -/
def holdCopy (h : Hold) : List Byte :=
  u8 h.desk ++ u16 h.holdId ++ u8 h.showNo ++ u8 h.n ++ u32 h.expiry

/-- The HOLDS copy from position `i`: the two lengths, and a list of sixteen positions (R38). -/
def holdsCopy (t : TallyUnit) (i : Nat) : List Byte :=
  u16 t.holds.length ++ u8 t.expired.length ++
    counted (packed 9 holdCopy) ((List.range 16).map (fun k => t.holds[i + k]?))

/-- A mode and its timing fields; those of other modes are absent (R55, R181). -/
def timingCopy : Timing → List Byte
  | .steady => u8 0 ++ absent 8
  | .timed lifetime => u8 1 ++ u16 lifetime ++ absent 6
  | .cycle dwell gap repeats stay =>
    u8 2 ++ absent 2 ++ u16 dwell ++ u16 gap ++ u8 repeats ++ flagByte stay

/-- The source of a notice: DESK 0 or TRIGGER 1, and its number (R55). -/
def noticeSourceCopy : NoticeSource → List Byte
  | .desk d => u8 0 ++ u8 d
  | .trigger t => u8 1 ++ u8 t

/-- The remaining repeats, CYCLE only (R55). -/
def Notice.remainingCopy (x : Notice) : List Byte :=
  match x.timing with
  | .cycle _ _ _ _ => u8 x.remaining
  | _ => absent 1

/-- A notice in use, 58 bytes after its mark; the phase is SHOWN 0 or HIDDEN 1 (R74). -/
def noticeCopy (x : Notice) : List Byte :=
  noticeSourceCopy x.source ++ u8 x.priority ++ u16 x.screens.toNat ++ timingCopy x.timing ++
    u8 (if x.shown then 0 else 1) ++ x.remainingCopy ++ orAbsent 2 x.timer ++ textBytes 40 x.text

/-- The NOTICE copy: the entry, and the top notice and full-screen flag of each surface (R74). -/
def noticeEntryCopy (u : NoticeUnit) (n : Nat) : List Byte :=
  flagByte (u.at? n).isSome ++ packed 58 noticeCopy (u.at? n) ++
    (surfaceNumbers.map (fun k => orAbsent 1 (u.top k) ++ flagByte (u.isFull k))).flatten

/-- A template item as SET_TRIGGER carries it (R173). -/
def itemCopy : TemplateItem → List Byte
  | .segment k => u8 k
  | .field f => u8 (64 + f.code)

/-- A trigger's settings, 22 bytes, at the widths and in the order of SET_TRIGGER (R74, R173). -/
def triggerSettingsCopy (g : TriggerSettings) : List Byte :=
  u8 g.event.triggerCode ++ orAbsent 1 g.filter ++ u8 g.notice ++ u8 g.priority ++
    u16 g.screens.toNat ++ timingCopy g.timing ++ u8 g.template.length ++
    ((List.range 6).map (fun i => packed 1 itemCopy g.template[i]?)).flatten

/-- The TRIGGER copy (R74). -/
def triggerCopy (t : Trigger) : List Byte :=
  u8 t.state.code ++ packed 22 triggerSettingsCopy t.settings ++ u16 t.blocked

/-- A cell's source: its kind and three parameters; one the kind does not use is absent (R173). -/
def sourceCopy : Source → List Byte
  | .fixed k => u8 0 ++ u8 k ++ absent 2
  | .showField n f => u8 1 ++ u8 n ++ u8 f.code ++ absent 1
  | .board v r f => u8 2 ++ u8 v ++ u8 r ++ u8 f.code
  | .notice k => u8 3 ++ u8 k ++ absent 2
  | .clock => u8 4 ++ absent 3

/-- A pending configuration and target text, 63 bytes (R95). -/
def cellCopy (c : Cell) : List Byte :=
  u8 c.config.surface ++ u16 c.config.x ++ u16 c.config.y ++ u8 c.config.chars ++
    u8 c.config.scale ++ u8 c.config.layer ++ u8 c.config.glyphSet ++ u8 c.config.just.code ++
    colourBytes c.config.fg ++ colourBytes c.config.plate ++ u8 c.config.alpha ++
    flagByte c.config.fullScreen ++ flagByte c.config.twelveHour ++ sourceCopy c.config.source ++
    textBytes 40 c.target

/-- A committed record, 57 bytes (R80, R95). -/
def recordCopy (c : CellRecord) : List Byte :=
  u16 c.x ++ u16 c.y ++ u8 c.chars ++ u8 c.scale ++ u8 c.layer ++ u8 c.glyphSet ++ u8 c.just.code ++
    colourBytes c.fg ++ colourBytes c.plate ++ u8 c.alpha ++ flagByte c.fullScreen ++
    textBytes 40 c.text

/-- A cell's record in a picture, if it is present. -/
def Picture.recordOf (q : Picture) (n : Nat) : Option CellRecord :=
  (q.records.find? (fun x => x.1 == n)).map (fun x => x.2)

/-- What is copied of the surface a cell names: state, g, and the cell's record in both pictures
(R95). -/
def cellSurfaceCopy (f : Surface) (n : Nat) : List Byte :=
  u8 f.state.code ++ u8 f.gen ++ packed 57 recordCopy (f.current.recordOf n) ++
    packed 57 recordCopy (f.previous.recordOf n)

/-- The CELL copy (R95). -/
def cellEntryCopy (p : PatchUnit) (n : Nat) : List Byte :=
  match p.cell n with
  | none => flagByte false ++ absent 179
  | some c => flagByte true ++ cellCopy c ++ cellSurfaceCopy (p.surface c.config.surface) n

/-- A pane's settings, 37 bytes, at the widths and in the order of SET_PANE (R126, R173). -/
def paneSettingsCopy (g : PaneSettings) : List Byte :=
  u8 g.surface ++ u16 g.px ++ u16 g.py ++ u16 g.pw ++ u16 g.ph ++ u40 g.slotBase ++ u32 g.slotSize ++
    u8 g.slotCount ++ u40 g.marker ++ u40 g.cue ++ u8 g.scanRate ++ u8 g.clipRate ++ u8 g.upper ++
    u8 g.lower ++ u8 g.starvation.code ++ u8 g.deglitch ++ u8 g.retryTime ++
    u8 (g.retryLimit.getD 0)

/-- A frame: its slot and its ends-pass flag (R126). -/
def frameCopy (f : Frame) : List Byte := u8 f.slot ++ flagByte f.endsPass

/-- The cue: its entry, pass and generation (R109, R126, R139). -/
def cueCopy (l : Playlist) : List Byte := orAbsent 1 l.cueEntry ++ u8 l.pass ++ u8 l.generation

/-- A configured pane after its mark, the cue at its end (R126). R139 lists the cue too, and that the
PANE copy holds it once for each rule is the model's choice (DESIGN CHOICE, log entry 35). -/
def paneCopy (p : Pane) (flag : Bool) (g : PaneSettings) : List Byte :=
  paneSettingsCopy g ++ u8 p.display.code ++ packed 2 frameCopy p.displayed ++
    counted frameCopy p.queue ++ u8 p.acc ++ u8 p.flow.code ++ u8 p.underrunRun ++
    u8 p.retriesUsed ++ orAbsent 2 p.retryTimer ++ u8 p.verdict.code ++ p.counters.bytes ++
    (p.outstanding.map u8).flatten ++ flagByte flag ++ cueCopy p.playlist

/-- A playlist entry at the widths of SET_PLAYLIST (R128, R139, R180). -/
def entryCopy (x : PlayEntry) : List Byte :=
  flagByte x.valid ++ u16 x.clip ++ orAbsent 1 x.showNo ++ u8 x.repeats ++
    u8 ((if x.endOfList then 1 else 0) + (if x.suspends then 2 else 0) +
      (if x.loops then 4 else 0) + (if x.skipSold then 8 else 0) +
      (if x.skipStarted then 16 else 0))

/-- The playlist: sixteen entries, state, cue, requests and remembered successor (R139). Of a configured
pane the cue stands here a second time (DESIGN CHOICE, log entry 35). -/
def playlistCopy (l : Playlist) : List Byte :=
  counted entryCopy l.entries ++ u8 l.state.code ++ cueCopy l ++ orAbsent 1 l.startRequest ++
    flagByte l.resumeRequest ++ orAbsent 1 l.successor

/-- The PANE copy; of an unconfigured pane every item of R126 is absent and its queue empty (R126,
R139). -/
def paneEntryCopy (u : PaneUnit) (k : Nat) : List Byte :=
  match (u.pane k).settings with
  | none => flagByte false ++ absent 40 ++ u8 0 ++ absent 31 ++ playlistCopy (u.pane k).playlist
  | some g =>
    flagByte true ++ paneCopy (u.pane k) (u.flag g.surface) g ++ playlistCopy (u.pane k).playlist

/-- The VIEW copy (R54). -/
def viewCopy (v : BoardView) : List Byte :=
  leBytes 3 v.filter.toNat ++ u16 v.horizon ++ u8 v.rows ++ u8 v.dwell ++ u8 v.linger ++ u8 v.page ++
    u16 v.timer ++ counted u8 v.list

/-- The copy of a kind and index, none for a kind or an index out of range (R178). -/
def inspectCopy (s : State) (kind index : Nat) : Option (List Byte) :=
  match kind with
  | 0 => if index < Config.shows then some (showCopy (s.tally.entry index)) else none
  | 1 => if index < Config.holds then some (holdsCopy s.tally index) else none
  | 2 => if index < Config.notices then some (noticeEntryCopy s.notice index) else none
  | 3 => if index < Config.triggers then some (triggerCopy (s.notice.trigger index)) else none
  | 4 => if index < Config.cells then some (cellEntryCopy s.patch index) else none
  | 5 => if index < Config.panes then some (paneEntryCopy s.pane index) else none
  | 6 => (s.board.views[index]?).map viewCopy
  | _ => none

end Sys2Proof.Machine
end

