-- ==== Sys2Proof/Machine/Clock.lean ====
section
/-! DEFINITION. The Clock Unit: the two ticks and what they hand on (R164), the business clock
(R166), and the commands MILLISECOND_TICK and SECONDS_TICK. A SECONDS_TICK takes a seconds tick that
a 1000th millisecond tick has made due (log entry 4). -/

namespace Sys2Proof.Machine

/-- A millisecond tick at the Clock Unit: every 1000th is also a seconds tick (R164). -/
def ClockUnit.millisecond (c : ClockUnit) : ClockUnit :=
  if c.msCount + 1 < 1000 then { c with msCount := c.msCount + 1 }
  else { c with msCount := 0, due := c.due + 1 }

/-- MILLISECOND_TICK: the Clock Unit counts, and the Patch Unit counts down the idle timers
(R164). -/
def millisecondTick (s : State) : State :=
  (s.withClock s.clock.millisecond).withPatch s.patch.millisecond

/-- What an advance of the business clock leaves: the unit, whether it makes a change of minute, and
whether it sets CLOCK_HELD (R166). -/
structure ClockAdvance where
  unit : ClockUnit
  minuteChange : Bool
  held : Bool
deriving DecidableEq, Repr

/-- The business clock at a seconds tick (R166). -/
def ClockUnit.advance (c : ClockUnit) : ClockAdvance :=
  if c.holding then { unit := c, minuteChange := false, held := false }
  else if c.second < 59 then
    { unit := { c with second := c.second + 1 }, minuteChange := false, held := false }
  else if c.minute < Config.lastMinute then
    { unit := { c with minute := c.minute + 1, second := 0 }, minuteChange := true, held := false }
  else { unit := { c with holding := true }, minuteChange := false, held := true }

/-- A seconds tick at the Clock Unit: uptime first, then the business clock (R164). -/
def ClockUnit.second? (c : ClockUnit) : ClockAdvance :=
  { c with
    due := c.due - 1
    uptime := if c.uptime < Config.lastUptime then c.uptime + 1 else c.uptime }.advance

/-- Every view's tick handed on (R164). -/
def BoardUnit.handTick (b : BoardUnit) : BoardUnit :=
  { b with views := b.views.map (fun (v : BoardView) => { v with tickWaiting := true }) }

/-- Every pane's tick handed on (R164). -/
def PaneUnit.handTick (u : PaneUnit) : PaneUnit :=
  { u with panes := u.panes.map (fun (p : Pane) => { p with tickWaiting := true }) }

/-- The events of one seconds tick handed on, each to its own unit (R164). -/
def State.handTick (s : State) : State :=
  { s with
    tally := { s.tally with expiryWaiting := some s.clock.uptime }
    notice := { s.notice with tickWaiting := true }
    board := s.board.handTick
    pane := s.pane.handTick }

/-- A change of minute handed to the Tally, Board and Patch Units (R164, R166). -/
def State.handMinute (s : State) : State :=
  { s with
    tally := { s.tally with minuteWaiting := true }
    board := { s.board with minuteWaiting := true }
    patch := { s.patch with minuteWaiting := true } }

/-- Every pane's tick that still waits taken, panes from `n` − 1 down to 0. -/
def settleRetries : Nat → State → State
  | 0, s => s
  | n + 1, s => settleRetries n (takeRetry n s)

/-- Every view's tick that still waits taken, views from `n` − 1 down to 0. -/
def settleDwells : Nat → State → State
  | 0, s => s
  | n + 1, s => settleDwells n (takeDwell n s)

/-- The events of the seconds tick before that still wait are taken before a new one hands on its
own; an event never waits for a whole second (log entry 4). -/
def settleTick (s : State) : State :=
  takeClockCells (settleRetries Config.panes (takeNoticeTick (takeBoardMinute
    (settleDwells Config.views (takeMinute (takeExpiry s))))))

/-- A seconds tick: uptime rises, the clock advances, CLOCK_HELD is set where it would pass its end,
and the events are handed on (R164, R166). -/
def takeSecond (s : State) : State :=
  let a := s.clock.second?
  let t := (s.withClock a.unit).handTick
  let u := if a.minuteChange then t.handMinute else t
  if a.held then u.raise .clockHeld else u

/-- SECONDS_TICK, when one is due (R164). -/
def secondsTick (s : State) : State :=
  if s.clock.due = 0 then s else takeSecond (settleTick s)

/-- MILLISECOND_TICK (R164). -/
def execMillisecondTick (s : State) : Host.Outcome State Fault Refusal :=
  whenRunning millisecondTick s

/-- SECONDS_TICK (R164). -/
def execSecondsTick (s : State) : Host.Outcome State Fault Refusal := whenRunning secondsTick s

end Sys2Proof.Machine
end

