-- ==== Sys2Proof/Machine/Settings.lean ====
section
/-! DEFINITION. The commands of the Path, Clock, Tally, Board, Notice, Intake and Command Units but
WARM_RESET. What a command hands directly to another unit is taken within the command's own event
(R171); the events those units emit in turn wait as usual (log entry 9). -/

namespace Sys2Proof.Machine

/-- A command refused: no state changes beyond the response (R171). -/
def State.refuse (s : State) (code tag : Nat) (status : Status) : State := s.respond code tag status []

/-- A command answered OK with its result bytes (R172). -/
def State.answer (s : State) (code tag : Nat) (result : List Byte) : State :=
  s.respond code tag .ok result

/-! ### SET_MODE, SET_CLOCK, DAY_START -/

/-- SET_MODE (R174). -/
def cmdSetMode (tag mode : Nat) (s : State) : State :=
  match modeOf mode with
  | none => s.refuse 1 tag .param
  | some m => (s.withPath { s.path with mode := m }).answer 1 tag (u8 s.path.mode.code)

/-- The cause CLOCK_HELD cleared at the Command Unit (R168, R169). -/
def State.releaseClock (s : State) : State := s.withCommand (s.command.lower .clockHeld)

/-- What the Tally Unit does on the clock change of SET_CLOCK (R22). The shows are recomputed at the
clock's minute even where the minute is the one already held and a change of minute still waits
(DESIGN CHOICE, log entry 30). -/
def tallyClock (s : State) : State :=
  s.tallyDone (s.tally.recomputeAll s.clock.minute).unit (s.tally.recomputeAll s.clock.minute).out

/-- What the Tally Unit does on the day start (R22). -/
def tallyDay (s : State) : State :=
  s.tallyDone (s.tally.dayStart s.clock.minute).unit (s.tally.dayStart s.clock.minute).out

/-- SET_CLOCK (R168). -/
def cmdSetClock (tag minute second : Nat) (s : State) : State :=
  if Config.lastMinute < minute ∨ 59 < second then s.refuse 3 tag .param
  else
    ((boardRecompute (tallyClock ((s.withClock
      { s.clock with minute := minute, second := second, holding := false }).releaseClock))).derive
      readsClock).answer 3 tag (u32 s.clock.uptime)

/-- DAY_START (R169). -/
def cmdDayStart (tag minute origin : Nat) (s : State) : State :=
  if Config.lastMinute < minute ∨ 1439 < origin then s.refuse 4 tag .param
  else
    ((boardRecompute (tallyDay ((s.withClock
      { s.clock with minute := minute, second := 0, holding := false,
                     origin := origin }).releaseClock))).derive readsOrigin).answer 4 tag
      (u32 s.clock.uptime)

/-! ### SET_INTAKE -/

/-- Whether N is one of the four of R140. -/
def isInterval (n : Nat) : Bool := [1, 4, 8, 16].contains n

/-- The places a new intake window keeps apart from (test 4 of R141). -/
def State.intakeObstacles (s : State) : List Span :=
  s.anchorSpan :: s.patch.regionsBut noSurface ++ paneSpans (s.pane.configuredBut noPane)

/-- The window SET_INTAKE asks for. -/
def windowSpan (p : IntakeParams) : Span := { base := p.base, size := 64 * p.length }

/-- The window and settings replaced, everything else kept (R141). -/
def IntakeUnit.configure (u : IntakeUnit) (p : IntakeParams) : IntakeUnit :=
  { u with
    window := some (p.base, p.length), upper := clamp 4 32 p.upper,
    lower := clamp 0 (clamp 4 32 p.upper - 1) p.lower, interval := p.interval }

/-- SET_INTAKE (R141). -/
def cmdSetIntake (tag : Nat) (p : IntakeParams) (s : State) : State :=
  if s.path.mode = .enabled then s.refuse 5 tag .wrongState
  else if p.base % 64 ≠ 0 ∨ p.length < 8 ∨ 1024 < p.length ∨ isInterval p.interval = false then
    s.refuse 5 tag .param
  else if (windowSpan p).inSpace = false then s.refuse 5 tag .param
  else if meetsAny (windowSpan p) s.intakeObstacles then s.refuse 5 tag .param
  else (s.withIntake (s.intake.configure p)).answer 5 tag []

/-! ### SET_TALLY -/

/-- The settings SET_TALLY stores, each clamped (R4). -/
def tallySettingsOf (p : TallyParams) : TallySettings :=
  { lead := clamp 0 60 p.lead, linger := clamp 0 30 p.linger,
    fillingPct := clamp 10 95 p.fillingPct, almostPct := clamp 1 50 p.almostPct,
    almostAbs := clamp 0 99 p.almostAbs }

/-- SET_TALLY (R4). The shows are recomputed at the clock's minute even where the settings are those
already held and a change of minute still waits; the events of that recomputation are emitted then
(DESIGN CHOICE, log entry 30). -/
def cmdSetTally (tag : Nat) (p : TallyParams) (s : State) : State :=
  let r := s.tally.setSettings s.clock.minute (tallySettingsOf p)
  (s.tallyDone r.unit r.out).answer 6 tag []

/-! ### SET_WORDS, SET_VIEW -/

/-- Whether a byte names a segment or none (R50). -/
def isWord (n : Nat) : Bool := n < Config.segments || n == 255

/-- SET_WORDS (R50): the seven entries replaced, the cells that show a word derived afresh (R53,
log entry 11). -/
def cmdSetWords (tag : Nat) (words : List Nat) (s : State) : State :=
  if (words.take 7).all isWord then
    ((s.withBoard { s.board with words := (words.take 7).map orNone }).derive readsWords).answer
      7 tag []
  else s.refuse 7 tag .param

/-- The view SET_VIEW leaves: settings clamped and replaced, page 0, timer restarted, list
recomputed (steps 1 to 4 of R40). -/
def viewOf (p : ViewParams) (v : BoardView) (t : TallyUnit) (now : Nat) : BoardView :=
  let w : BoardView :=
    { v with
      filter := BitVec.ofNat 24 p.filter, horizon := clamp 30 720 p.horizon, rows := p.rows,
      dwell := clamp 5 60 p.dwell, linger := clamp 0 120 p.linger, page := 0,
      timer := clamp 5 60 p.dwell }
  { w with list := w.listFor t now }

/-- SET_VIEW (R40); the view is handed on within the command's own event (step 5 of R40, R171). -/
def cmdSetView (tag : Nat) (p : ViewParams) (s : State) : State :=
  match s.board.views[p.view]? with
  | none => s.refuse 8 tag .param
  | some v =>
    if p.rows = 0 ∨ 16 < p.rows then s.refuse 8 tag .param
    else
      (((s.withBoard { s.board with
          views := s.board.views.set p.view (viewOf p v s.tally s.clock.minute) }).handView
            p.view).derive (readsView p.view)).answer 8 tag []

/-! ### SET_SEGMENT, SET_TRIGGER, CLEAR_TRIGGER -/

/-- The store with one segment written: defined, with its text (R67). -/
def NoticeUnit.putSegment (u : NoticeUnit) (k : Nat) (text : Text) : NoticeUnit :=
  { u with segments := u.segments.set k { isDefined := true, text := text } }

/-- SET_SEGMENT (R67); a changed text reaches the cells that show it (R50, R53, R87). -/
def cmdSetSegment (tag segment : Nat) (text : List Byte) (s : State) : State :=
  if Config.segments ≤ segment then s.refuse 13 tag .param
  else if takeText 24 text = s.notice.segmentText segment then
    (s.withNotice (s.notice.putSegment segment (takeText 24 text))).answer 13 tag []
  else
    ((s.withNotice (s.notice.putSegment segment (takeText 24 text))).derive
      (readsSegment s.board.words segment)).answer 13 tag []

/-- Whether a template item is a segment that was never set (test 8 of R69). -/
def NoticeUnit.undefinedItem (u : NoticeUnit) : TemplateItem → Bool
  | .segment k => !(u.segments.getD k { isDefined := false, text := [] }).isDefined
  | .field _ => false

/-- The settings of a trigger, none where a test of R69 fails. -/
def triggerSettingsOf (p : TriggerParams) (u : NoticeUnit) : Option TriggerSettings :=
  if Config.triggers ≤ p.trigger then none
  else
    match triggerKindOf p.event with
    | none => none
    | some event =>
      if Config.shows ≤ p.filter ∧ p.filter ≠ 255 then none
      else if Config.notices ≤ p.notice then none
      else if 7 < p.priority then none
      else
        match timingOf p.timing, templateOf p.count p.items with
        | some timing, some template =>
          if template.any u.undefinedItem then none
          else
            some {
              event := event, filter := orNone p.filter, notice := p.notice,
              priority := p.priority, screens := screensOf p.screens, timing := timing,
              template := template }
        | _, _ => none

/-- SET_TRIGGER (R69): all its refusals are PARAM, so their order does not show. The hand-ons of
earlier events that still wait are taken with the command's own (DESIGN CHOICE, log entry 36). -/
def cmdSetTrigger (tag : Nat) (p : TriggerParams) (s : State) : State :=
  match triggerSettingsOf p s.notice with
  | none => s.refuse 14 tag .param
  | some g =>
    (settleTops (s.noticeDone ((s.notice.withdrawRaised p.trigger).putTrigger p.trigger
      { state := .armed, settings := some g, blocked := 0 }))).answer 14 tag []

/-- CLEAR_TRIGGER (R70). The hand-ons of earlier events that still wait are taken with the command's
own (DESIGN CHOICE, log entry 36). -/
def cmdClearTrigger (tag trigger : Nat) (s : State) : State :=
  if Config.triggers ≤ trigger then s.refuse 15 tag .param
  else
    (settleTops (s.noticeDone ((s.notice.withdrawRaised trigger).putTrigger trigger
      { state := .empty, settings := none, blocked := 0 }))).answer 15 tag []

/-! ### SET_MASK, CLEAR_CAUSES, INSPECT -/

/-- SET_MASK (R176). -/
def cmdSetMask (tag mask : Nat) (s : State) : State :=
  (s.withCommand { s.command with mask := BitVec.ofNat 12 mask }).answer 22 tag []

/-- CLEAR_CAUSES (R176). -/
def cmdClearCauses (tag mask : Nat) (s : State) : State :=
  if BitVec.ofNat 12 mask = 0 then s.refuse 23 tag .param
  else
    (s.withCommand { s.command with
      causes := s.command.causes &&& ~~~ (BitVec.ofNat 12 mask) }).answer 23 tag
      (u16 s.command.causes.toNat)

/-- The inspect area with a new copy (R178). -/
def CommandUnit.copied (u : CommandUnit) (kind index : Nat) (bytes : List Byte) : CommandUnit :=
  { u with
    copyKind := some kind, copyIndex := index, copyCount := wrapInc u.copyCount, copyBytes := bytes }

/-- INSPECT (R178). -/
def cmdInspect (tag kind index : Nat) (s : State) : State :=
  match inspectCopy s kind index with
  | none => s.refuse 24 tag .param
  | some bytes =>
    (s.withCommand (s.command.copied kind index bytes)).answer 24 tag
      (u8 (wrapInc s.command.copyCount))

/-! ### The commands of the table -/

/-- SET_MODE (R174). -/
def execSetMode (tag mode : Nat) (s : State) : Host.Outcome State Fault Refusal :=
  whenRunning (cmdSetMode tag mode) s
/-- SET_CLOCK (R168). -/
def execSetClock (tag minute second : Nat) (s : State) : Host.Outcome State Fault Refusal :=
  whenRunning (cmdSetClock tag minute second) s
/-- DAY_START (R169). -/
def execDayStart (tag minute origin : Nat) (s : State) : Host.Outcome State Fault Refusal :=
  whenRunning (cmdDayStart tag minute origin) s
/-- SET_INTAKE (R141). -/
def execSetIntake (tag : Nat) (params : IntakeParams) (s : State) :
    Host.Outcome State Fault Refusal := whenRunning (cmdSetIntake tag params) s
/-- SET_TALLY (R4). -/
def execSetTally (tag : Nat) (params : TallyParams) (s : State) :
    Host.Outcome State Fault Refusal := whenRunning (cmdSetTally tag params) s
/-- SET_WORDS (R50). -/
def execSetWords (tag : Nat) (words : List Nat) (s : State) : Host.Outcome State Fault Refusal :=
  whenRunning (cmdSetWords tag words) s
/-- SET_VIEW (R40). -/
def execSetView (tag : Nat) (params : ViewParams) (s : State) :
    Host.Outcome State Fault Refusal := whenRunning (cmdSetView tag params) s
/-- SET_SEGMENT (R67). -/
def execSetSegment (tag segment : Nat) (text : List Byte) (s : State) :
    Host.Outcome State Fault Refusal := whenRunning (cmdSetSegment tag segment text) s
/-- SET_TRIGGER (R69). -/
def execSetTrigger (tag : Nat) (params : TriggerParams) (s : State) :
    Host.Outcome State Fault Refusal := whenRunning (cmdSetTrigger tag params) s
/-- CLEAR_TRIGGER (R70). -/
def execClearTrigger (tag trigger : Nat) (s : State) : Host.Outcome State Fault Refusal :=
  whenRunning (cmdClearTrigger tag trigger) s
/-- SET_MASK (R176). -/
def execSetMask (tag mask : Nat) (s : State) : Host.Outcome State Fault Refusal :=
  whenRunning (cmdSetMask tag mask) s
/-- CLEAR_CAUSES (R176). -/
def execClearCauses (tag mask : Nat) (s : State) : Host.Outcome State Fault Refusal :=
  whenRunning (cmdClearCauses tag mask) s
/-- INSPECT (R178). -/
def execInspect (tag kind index : Nat) (s : State) : Host.Outcome State Fault Refusal :=
  whenRunning (cmdInspect tag kind index) s

end Sys2Proof.Machine
end

