-- ==== Sys2Proof/Machine/Screens.lean ====
section
/-! DEFINITION. The commands of the Patch and Pane Units: SET_SURFACE (R76, R77), SET_CELL and
CLEAR_CELL (R82, R83), LOAD_GLYPHS (R91), SET_PANE (R110, R111), SET_PLAYLIST (R130), PLAY_START
(R134, R135), PLAY_RESUME (R136), PLAY_STOP (R137) and PANE_CLEAR (R123). -/

namespace Sys2Proof.Machine

/-! ### SET_SURFACE -/

/-- The region SET_SURFACE asks for. -/
def regionOf (p : SurfaceParams) : Span := { base := p.base, size := p.stride * p.height }

/-- Test 3 of R76. -/
def badSurface (p : SurfaceParams) : Bool :=
  p.base % 64 != 0 || p.width < 16 || 3840 < p.width || p.height < 16 || 2160 < p.height ||
    p.stride % 64 != 0 || p.stride < p.width * 4 || 65536 < p.stride || 15 < p.scan

/-- The places a new region keeps apart from (test 5 of R76). -/
def State.surfaceObstacles (s : State) (k : Nat) : List Span :=
  s.anchorSpan :: s.intake.spans ++ s.patch.regionsBut k ++ paneSpans (s.pane.configuredBut noPane)

/-- Whether a cell in use on surface `k` would no longer lie within it (test 6 of R76). -/
def strandsCell (k width height : Nat) : Option Cell → Bool
  | none => false
  | some c =>
    c.config.surface == k &&
      !fitsSurface c.config.x c.config.y c.config.chars c.config.scale width height

/-- Whether a configured pane on surface `k` would no longer lie inside it (test 6 of R76). -/
def strandsPane (k width height : Nat) (g : PaneSettings) : Bool :=
  g.surface == k && (width < g.px + g.pw || height < g.py + g.ph)

/-- Test 6 of R76. -/
def State.strands (s : State) (p : SurfaceParams) : Bool :=
  (s.patch.surface p.surface).state != .unset &&
    (s.patch.cells.any (strandsCell p.surface p.width p.height) ||
      (s.pane.configuredBut noPane).any (strandsPane p.surface p.width p.height))

/-- The surface SET_SURFACE leaves: the fields stored, g advanced, IDLE, both pictures built from
what is pending (R77). -/
def PatchUnit.configured (u : PatchUnit) (p : SurfaceParams) : Surface :=
  let f := u.surface p.surface
  { f with
    state := .idle, base := p.base, stride := p.stride, width := p.width, height := p.height,
    scan := p.scan, plate := p.plate,
    gen := if f.state = .unset then 0 else (f.gen + 2) % 256, idleTimer := none,
    current := u.newPicture p.surface f, previous := u.newPicture p.surface f }

/-- SET_SURFACE (R76, R77). -/
def cmdSetSurface (tag : Nat) (p : SurfaceParams) (s : State) : State :=
  if Config.surfaces ≤ p.surface then s.refuse 9 tag .param
  else if s.path.mode = .enabled then s.refuse 9 tag .wrongState
  else if badSurface p then s.refuse 9 tag .param
  else if (regionOf p).inSpace = false then s.refuse 9 tag .param
  else if meetsAny (regionOf p) (s.surfaceObstacles p.surface) then s.refuse 9 tag .param
  else if s.strands p then s.refuse 9 tag .param
  else
    (s.withPatch (s.patch.putSurface p.surface (s.patch.configured p))).answer 9 tag []

/-! ### SET_CELL, CLEAR_CELL -/

/-- Whether the numbers of a SET_CELL are within the ranges of R82, its surface set and the cell
within it. -/
def PatchUnit.goodCell (u : PatchUnit) (p : CellParams) : Bool :=
  p.cell < Config.cells && p.surface < Config.surfaces &&
    (u.surface p.surface).state != .unset && 1 ≤ p.chars && p.chars ≤ 40 && 1 ≤ p.scale &&
    p.scale ≤ 4 && p.layer ≤ 7 && p.glyphSet ≤ 1 && isFlag p.fullScreen && isFlag p.twelveHour &&
    fitsSurface p.x p.y p.chars p.scale (u.surface p.surface).width (u.surface p.surface).height

/-- The pending configuration a SET_CELL asks for, none where R82 refuses it. -/
def PatchUnit.cellConfig (u : PatchUnit) (p : CellParams) : Option CellConfig :=
  if u.goodCell p then
    match justOf p.just, sourceOf p.kind p.param1 p.param2 p.param3 with
    | some just, some source =>
      some {
        surface := p.surface, x := p.x, y := p.y, chars := p.chars, scale := p.scale,
        layer := p.layer, glyphSet := p.glyphSet, just := just, fg := p.fg, plate := p.plate,
        alpha := p.alpha, fullScreen := p.fullScreen == 1, twelveHour := p.twelveHour == 1,
        source := source }
    | _, _ => none
  else none

/-- SET_CELL (R82, R83). -/
def cmdSetCell (tag : Nat) (p : CellParams) (s : State) : State :=
  match s.patch.cellConfig p with
  | none => s.refuse 10 tag .param
  | some c =>
    (s.withPatch (s.patch.putCell p.cell (some { config := c, target := s.targetText c }))).answer
      10 tag []

/-- CLEAR_CELL (R83). -/
def cmdClearCell (tag cell : Nat) (s : State) : State :=
  if Config.cells ≤ cell then s.refuse 11 tag .param
  else (s.withPatch (s.patch.putCell cell none)).answer 11 tag []

/-! ### LOAD_GLYPHS -/

/-- LOAD_GLYPHS (R91). -/
def cmdLoadGlyphs (tag set source sum : Nat) (s : State) : State :=
  if 1 < set ∨ source % 64 ≠ 0 ∨ Config.space < source + Config.glyphBytes then
    s.refuse 12 tag .param
  else if s.patch.loader ≠ .idle then s.refuse 12 tag .busy
  else (s.withPatch (s.patch.beginLoad set source sum)).answer 12 tag []

/-! ### SET_PANE -/

/-- The slot region SET_PANE asks for. -/
def slotSpanOf (p : PaneParams) : Span := { base := p.slotBase, size := p.slotCount * p.slotSize }

/-- Whether the rectangle shares a pixel with that of another pane on its surface (test 4 of
R110). -/
def overlapsPane (p : PaneParams) (g : PaneSettings) : Bool :=
  g.surface == p.surface && p.px < g.px + g.pw && g.px < p.px + p.pw && p.py < g.py + g.ph &&
    g.py < p.py + p.ph

/-- Test 4 of R110. -/
def State.badRectangle (s : State) (p : PaneParams) : Bool :=
  p.px % 16 != 0 || p.pw % 16 != 0 || p.pw < 16 || p.ph == 0 ||
    (s.patch.surface p.surface).width < p.px + p.pw ||
    (s.patch.surface p.surface).height < p.py + p.ph ||
    (s.pane.configuredBut p.pane).any (overlapsPane p)

/-- Test 5 of R110. -/
def badSlots (p : PaneParams) : Bool :=
  p.slotBase % 64 != 0 || p.slotSize % 64 != 0 || p.slotSize < p.pw * p.ph * 4 ||
    p.slotCount < 2 || 8 < p.slotCount

/-- The anchor page, the intake window and the regions of the surfaces. -/
def State.fixedSpans (s : State) : List Span :=
  s.anchorSpan :: s.intake.spans ++ s.patch.regionsBut noSurface

/-- Test 6 of R110: the slot region asked for against the other configured panes; the old slot region
and lines of the pane being set are left out. -/
def State.badSlotRegion (s : State) (p : PaneParams) : Bool :=
  !(slotSpanOf p).inSpace ||
    meetsAny (slotSpanOf p) (s.fixedSpans ++ paneSpans (s.pane.configuredBut p.pane))

/-- Whether a marker or cue line lies where it may not (test 7 of R110). For a pane that is
configured already, the slot region of 'this one' is the one the command asks for; that its old slot
region does not count is the model's choice (DESIGN CHOICE, log entry 37). -/
def State.badLine (s : State) (p : PaneParams) (a : Nat) : Bool :=
  a % 64 != 0 ||
    meetsAny (lineSpan a)
      (slotSpanOf p :: s.fixedSpans ++ paneSpans (s.pane.configuredBut p.pane))

/-- The settings as held, after clamping; none for an unknown starvation mode, retry time or retry
limit (R109, R111, test 8 of R110). -/
def paneSettingsOf (p : PaneParams) : Option PaneSettings :=
  match starvationOf p.starvation with
  | none => none
  | some starvation =>
    if isRetryTime p.retryTime ∧ isRetryLimit p.retryLimit then
      some {
        surface := p.surface, px := p.px, py := p.py, pw := p.pw, ph := p.ph,
        slotBase := p.slotBase, slotSize := p.slotSize, slotCount := p.slotCount,
        marker := p.marker, cue := p.cue, scanRate := clamp 24 120 p.scanRate,
        clipRate := clamp 1 120 p.clipRate, upper := clamp 1 (p.slotCount - 1) p.upper,
        lower := clamp 0 (clamp 1 (p.slotCount - 1) p.upper - 1) p.lower,
        starvation := starvation, deglitch := clamp 1 32 p.deglitch, retryTime := p.retryTime,
        retryLimit := if p.retryLimit = 0 then none else some p.retryLimit }
    else none

/-- SET_PANE (R110, R111). -/
def cmdSetPane (tag : Nat) (p : PaneParams) (s : State) : State :=
  if Config.panes ≤ p.pane then s.refuse 16 tag .param
  else if s.path.mode = .enabled then s.refuse 16 tag .wrongState
  else if Config.surfaces ≤ p.surface ∨ (s.patch.surface p.surface).state = .unset then
    s.refuse 16 tag .param
  else if s.badRectangle p then s.refuse 16 tag .param
  else if badSlots p then s.refuse 16 tag .param
  else if s.badSlotRegion p then s.refuse 16 tag .param
  else if s.badLine p p.marker ∨ s.badLine p p.cue ∨ p.marker = p.cue then s.refuse 16 tag .param
  else
    match paneSettingsOf p with
    | none => s.refuse 16 tag .param
    | some g =>
      (s.withPane (s.pane.put p.pane
        { (s.pane.pane p.pane).restart with settings := some g })).answer 16 tag []

/-! ### SET_PLAYLIST -/

/-- A playlist entry as stored: repeats clamped, the flags in the places of R180 (R130). -/
def playEntryOf (e : EntryParams) : PlayEntry :=
  { valid := e.valid == 1, clip := e.clip, showNo := orNone e.showNo,
    repeats := clamp 1 15 e.repeats, endOfList := e.flags.testBit 0, suspends := e.flags.testBit 1,
    loops := e.flags.testBit 2, skipSold := e.flags.testBit 3, skipStarted := e.flags.testBit 4 }

/-- Whether an entry may be stored (test 2 of R130, and the flag bytes of R173). -/
def goodEntry (e : EntryParams) : Bool :=
  (e.showNo < Config.shows || e.showNo == 255) && isFlag e.valid && e.flags < 32

/-- Consecutive entries replaced from an index on. -/
def putEntries : List PlayEntry → Nat → List EntryParams → List PlayEntry
  | l, _, [] => l
  | l, i, e :: rest => putEntries (l.set i (playEntryOf e)) (i + 1) rest

/-- Whether the cue entry of an ACTIVE playlist lies in a range (test 3 of R130). -/
def Playlist.playsWithin (l : Playlist) (first count : Nat) : Bool :=
  l.state == .active && l.cueEntry.any (fun e => first ≤ e && e < first + count)

/-- SET_PLAYLIST (R130). -/
def cmdSetPlaylist (tag pane first count : Nat) (entries : List EntryParams) (s : State) : State :=
  if Config.panes ≤ pane ∨ count = 0 ∨ 8 < count ∨ 16 < first + count then s.refuse 17 tag .param
  else if (entries.take count).all goodEntry = false then s.refuse 17 tag .param
  else if (s.pane.pane pane).playlist.playsWithin first count then s.refuse 17 tag .busy
  else
    (s.withPane (s.pane.put pane { s.pane.pane pane with
      playlist := { (s.pane.pane pane).playlist with
        entries := putEntries (s.pane.pane pane).playlist.entries first
          (entries.take count) } })).answer 17 tag []

/-! ### PLAY_START, PLAY_RESUME, PLAY_STOP, PANE_CLEAR -/

/-- The pane tests of chapter 8.3 and R123: a number above 7 is PARAM, an unconfigured pane
WRONG_STATE; none when both pass. -/
def PaneUnit.test (u : PaneUnit) (pane : Nat) : Option Status :=
  if Config.panes ≤ pane then some .param
  else if (u.pane pane).settings.isNone then some .wrongState
  else none

/-- PLAY_START (R134, R135). -/
def cmdPlayStart (tag pane entry now : Nat) (s : State) : State :=
  match s.pane.test pane with
  | some status => s.refuse 18 tag status
  | none =>
    if Config.entries ≤ entry ∨ ((s.pane.pane pane).playlist.entry entry).valid = false ∨
        isFlag now = false then s.refuse 18 tag .param
    else
      (s.withPane (s.pane.put pane ((s.pane.pane pane).playStart entry (now == 1)))).answer 18 tag []

/-- The state with a pane's playlist replaced by what a resume leaves, PLAYLIST_STOPPED set if it
stopped by itself (R136, R139). -/
def State.resumed (s : State) (pane : Nat) (r : PlayResult) : State :=
  let t := s.withPane (s.pane.put pane { s.pane.pane pane with playlist := r.list })
  if r.stopped then t.raise .playlistStopped else t

/-- PLAY_RESUME (R136). -/
def cmdPlayResume (tag pane : Nat) (s : State) : State :=
  match s.pane.test pane with
  | some status => s.refuse 19 tag status
  | none =>
    match (s.pane.pane pane).playlist.state with
    | .idle => s.refuse 19 tag .wrongState
    | .active =>
      (s.withPane (s.pane.put pane { s.pane.pane pane with
        playlist := { (s.pane.pane pane).playlist with resumeRequest := true } })).answer 19 tag []
    | .suspended =>
      (s.resumed pane ((s.pane.pane pane).playlist.resume s.tally)).answer 19 tag []

/-- PLAY_STOP (R137). -/
def cmdPlayStop (tag pane : Nat) (s : State) : State :=
  match s.pane.test pane with
  | some status => s.refuse 20 tag status
  | none => (s.withPane (s.pane.put pane (s.pane.pane pane).playStop)).answer 20 tag []

/-- PANE_CLEAR (R123). -/
def cmdPaneClear (tag pane : Nat) (s : State) : State :=
  match s.pane.test pane with
  | some status => s.refuse 21 tag status
  | none => (s.withPane (s.pane.put pane (s.pane.pane pane).clear)).answer 21 tag []

/-! ### The commands of the table -/

/-- SET_SURFACE (R76, R77). -/
def execSetSurface (tag : Nat) (params : SurfaceParams) (s : State) :
    Host.Outcome State Fault Refusal := whenRunning (cmdSetSurface tag params) s
/-- SET_CELL (R82, R83). -/
def execSetCell (tag : Nat) (params : CellParams) (s : State) :
    Host.Outcome State Fault Refusal := whenRunning (cmdSetCell tag params) s
/-- CLEAR_CELL (R83). -/
def execClearCell (tag cell : Nat) (s : State) : Host.Outcome State Fault Refusal :=
  whenRunning (cmdClearCell tag cell) s
/-- LOAD_GLYPHS (R91). -/
def execLoadGlyphs (tag set source sum : Nat) (s : State) : Host.Outcome State Fault Refusal :=
  whenRunning (cmdLoadGlyphs tag set source sum) s
/-- SET_PANE (R110, R111). -/
def execSetPane (tag : Nat) (params : PaneParams) (s : State) :
    Host.Outcome State Fault Refusal := whenRunning (cmdSetPane tag params) s
/-- SET_PLAYLIST (R130). -/
def execSetPlaylist (tag pane first count : Nat) (entries : List EntryParams) (s : State) :
    Host.Outcome State Fault Refusal := whenRunning (cmdSetPlaylist tag pane first count entries) s
/-- PLAY_START (R134, R135). -/
def execPlayStart (tag pane entry now : Nat) (s : State) : Host.Outcome State Fault Refusal :=
  whenRunning (cmdPlayStart tag pane entry now) s
/-- PLAY_RESUME (R136). -/
def execPlayResume (tag pane : Nat) (s : State) : Host.Outcome State Fault Refusal :=
  whenRunning (cmdPlayResume tag pane) s
/-- PLAY_STOP (R137). -/
def execPlayStop (tag pane : Nat) (s : State) : Host.Outcome State Fault Refusal :=
  whenRunning (cmdPlayStop tag pane) s
/-- PANE_CLEAR (R123). -/
def execPaneClear (tag pane : Nat) (s : State) : Host.Outcome State Fault Refusal :=
  whenRunning (cmdPaneClear tag pane) s

end Sys2Proof.Machine
end

