-- ==== Sys2Proof/Machine/Commands.lean ====
section
/-! DEFINITION. WARM_RESET (R179), and the taking of a command line: its frame tests and the command
it decodes to (R171, R172). -/

namespace Sys2Proof.Machine

/-! ### WARM_RESET -/

/-- WARM_RESET at the Tally Unit (R2, R24, R25); events that wait stay (log entry 8). -/
def TallyUnit.warmReset (t : TallyUnit) : TallyUnit :=
  { t with shows := List.replicate Config.shows Show.vacant, holds := [], expired := [] }

/-- WARM_RESET at one view (R47). -/
def BoardView.warmReset (v : BoardView) : BoardView :=
  { v with list := [], page := 0, timer := v.dwell }

/-- WARM_RESET at the Board Unit (R47). -/
def BoardUnit.warmReset (b : BoardUnit) : BoardUnit :=
  { b with views := b.views.map BoardView.warmReset }

/-- WARM_RESET at one trigger (R68). -/
def Trigger.warmReset (t : Trigger) : Trigger :=
  { t with state := if t.state = .empty then .empty else .armed, blocked := 0 }

/-- WARM_RESET at the Notice Unit (R56, R68). -/
def NoticeUnit.warmReset (u : NoticeUnit) : NoticeUnit :=
  { u with
    notices := List.replicate Config.notices none
    noticeStacks := List.replicate Config.surfaces []
    triggers := u.triggers.map Trigger.warmReset }

/-- WARM_RESET at the Patch Unit: a load aborted, and what the resets of the Board and Notice Units
hand on taken (R47, R56, R75, R93). -/
def PatchUnit.warmReset (p : PatchUnit) (views : List BoardView) : PatchUnit :=
  { p.abortLoad with
    viewPages := views.map BoardView.shown
    surfaces := p.surfaces.map (fun (f : Surface) => { f with pendingFlag := false })
    noticeText := List.replicate Config.surfaces []
    fromNotice := [] }

/-- WARM_RESET at the Pane Unit (R111, R120, R129). -/
def PaneUnit.warmReset (u : PaneUnit) : PaneUnit :=
  { u with
    panes := u.panes.map Pane.warmReset
    flags := List.replicate Config.surfaces false
    flagInbox := [] }

/-- Each unit's own reset, before the cells follow (R179). -/
def State.resetUnits (s : State) : State :=
  { s with
    path := { s.path with run := 0 }
    tally := s.tally.warmReset
    board := s.board.warmReset
    notice := s.notice.warmReset
    patch := s.patch.warmReset s.board.warmReset.views
    pane := s.pane.warmReset
    intake := s.intake.warmReset
    command := { s.command with causes := 0 } }

/-- Every IDLE surface committed. -/
def State.commitAll (s : State) : State := s.withPatch (s.patch.commitIdleEach surfaceNumbers)

/-- WARM_RESET: the units reset, every cell follows its sources, the surfaces commit by their own
rules, the response is replaced (R179). That CLOCK cells are derived afresh with the others, so that one
shows the new minute even where a change of minute still waits at the Patch Unit, which R87 and R167 do
not name, is the model's choice (DESIGN CHOICE, log entry 39). -/
def cmdWarmReset (tag : Nat) (s : State) : State :=
  ((s.resetUnits.derive (fun _ => true)).commitAll).answer 2 tag []

/-- WARM_RESET (R179). -/
def execWarmReset (tag : Nat) (s : State) : Host.Outcome State Fault Refusal :=
  whenRunning (cmdWarmReset tag) s

/-! ### A command line taken -/

/-- The effect of a decoded command; any other constructor stands for no command line. -/
def runCommand : Instr → State → State
  | .setMode tag mode => cmdSetMode tag mode
  | .warmReset tag => cmdWarmReset tag
  | .setClock tag minute second => cmdSetClock tag minute second
  | .dayStart tag minute origin => cmdDayStart tag minute origin
  | .setIntake tag params => cmdSetIntake tag params
  | .setTally tag params => cmdSetTally tag params
  | .setWords tag words => cmdSetWords tag words
  | .setView tag params => cmdSetView tag params
  | .setSurface tag params => cmdSetSurface tag params
  | .setCell tag params => cmdSetCell tag params
  | .clearCell tag cell => cmdClearCell tag cell
  | .loadGlyphs tag set source sum => cmdLoadGlyphs tag set source sum
  | .setSegment tag segment text => cmdSetSegment tag segment text
  | .setTrigger tag params => cmdSetTrigger tag params
  | .clearTrigger tag trigger => cmdClearTrigger tag trigger
  | .setPane tag params => cmdSetPane tag params
  | .setPlaylist tag pane first count entries => cmdSetPlaylist tag pane first count entries
  | .playStart tag pane entry now => cmdPlayStart tag pane entry now
  | .playResume tag pane => cmdPlayResume tag pane
  | .playStop tag pane => cmdPlayStop tag pane
  | .paneClear tag pane => cmdPaneClear tag pane
  | .setMask tag mask => cmdSetMask tag mask
  | .clearCauses tag mask => cmdClearCauses tag mask
  | .inspect tag kind index => cmdInspect tag kind index
  | .resetRelease _ => id
  | .resetAssert => id
  | .millisecondTick => id
  | .secondsTick => id
  | .changeOfMinute => id
  | .boardMinuteRecompute => id
  | .clockCellUpdate => id
  | .holdExpiry => id
  | .dwellExpiry _ => id
  | .timedNoticeExpiry => id
  | .cyclePhaseExpiry => id
  | .retryTimerExpiry _ => id
  | .idleTimerExpiry _ => id
  | .boardTallyEvent => id
  | .noticeTallyEvent => id
  | .paneTallyEvent => id
  | .patchSourceChange _ => id
  | .paneFullscreenFlag => id
  | .upstreamRequest _ => id
  | .downstreamResponse _ => id
  | .loadDone => id
  | .loaderDrainEnd => id
  | .slotFree _ => id
  | .downstreamGrant _ => id
  | .processingStep => id
  | .anchorLineWrite _ _ _ _ _ => id

/-- A write to the command line taken: the frame tests in order, then the command's own (R171,
R172); `full` tells a full-line write. -/
def takeCommand (full : Bool) (data : Line) (s : State) : State :=
  if full = false then s.refuse 0 0 .badFrame
  else if onesSum data 32 ≠ 65535 then s.refuse (byteAt data 0) (byteAt data 1) .badCheck
  else
    match decodeCommand data with
    | none => s.refuse (byteAt data 0) (byteAt data 1) .badCode
    | some c => runCommand c s

end Sys2Proof.Machine
end

