-- ==== Sys2Proof/Machine/Path.lean ====
section
/-! DEFINITION. The Path Unit: requests taken and recognised (R155 to R159), responses routed (R155,
R158, R160), the arbiter's grants (R161, R162), and the commands UPSTREAM_REQUEST,
DOWNSTREAM_RESPONSE, SLOT_FREE, DOWNSTREAM_GRANT and ANCHOR_LINE_WRITE. `stream`, `upOut` and
`downOut` grow at their end (log entry 14). -/

namespace Sys2Proof.Machine

/-- As `whenRunning`, for an effect that may stop (R163). -/
def unlessReset (f : State → Host.Outcome State Fault Refusal) (s : State) :
    Host.Outcome State Fault Refusal :=
  if s.path.resetHeld then .next s else f s

/-! ### What the Path Unit drives and keeps -/

/-- A request placed in the pass-through stream (R155). -/
def State.forward (s : State) (r : Request) : State :=
  s.withPath { s.path with stream := s.path.stream ++ [r] }

/-- A response driven on the upstream port (R154). -/
def State.sendUp (s : State) (r : Response) : State :=
  s.withPath { s.path with upOut := s.path.upOut ++ [r] }

/-- A request driven on the downstream port (R154). -/
def State.sendDown (s : State) (r : Request) : State :=
  s.withPath { s.path with downOut := s.path.downOut ++ [r] }

/-- An entry made in the in-flight patch table for a read (R158). -/
def State.track (s : State) (r : Request) (k : Tracked) : State :=
  s.withPath { s.path with
    table := s.path.table ++ [{ initiator := r.initiator, txn := r.txn, tracked := k }] }

/-- Whether an entry is that of a pair. -/
def InFlight.hasPair (e : InFlight) (initiator txn : Nat) : Bool :=
  e.initiator == initiator && e.txn == txn

/-- The entry of a pair (R158). -/
def PathUnit.entry (p : PathUnit) (initiator txn : Nat) : Option InFlight :=
  p.table.find? (fun e => e.hasPair initiator txn)

/-- A pair's entry becomes free (R158). -/
def State.untrack (s : State) (initiator txn : Nat) : State :=
  s.withPath { s.path with table := s.path.table.filter (fun e => !e.hasPair initiator txn) }

/-! ### Recognition -/

/-- All 64 byte enables: a full-line write (R154). -/
def allEnables : BitVec 64 := BitVec.allOnes 64

/-- The surface a read is a scan read of (R96, R157). -/
def PatchUnit.scanned (p : PatchUnit) (initiator a : Nat) : Option Nat :=
  surfaceNumbers.find? (fun k => (p.surface k).scans initiator a)

/-- The configured pane whose marker line an address is (R113, R157). -/
def PaneUnit.markerAt (u : PaneUnit) (a : Nat) : Option (Nat × PaneSettings) :=
  u.configured.find? (fun x => x.2.marker == a)

/-- The configured pane whose cue line an address is (R124, R157). -/
def PaneUnit.cueAt (u : PaneUnit) (a : Nat) : Option (Nat × PaneSettings) :=
  u.configured.find? (fun x => x.2.cue == a)

/-- A frame start of surface `k`, taken by the Patch Unit and the Pane Unit (R78, R88, R116). -/
def frameStart (k : Nat) (s : State) : State :=
  let r := framePanes k (s.pane.flag k) s.pane.panes
  ((s.withPatch (s.patch.frameStart k)).withPane { s.pane with panes := r.panes }).raiseAll r.causes

/-- A scan read tagged with its surface's g, offered to the panes, tracked and forwarded (R96, R97,
R119, R158). -/
def scanRead (k : Nat) (r : Request) (s : State) : State :=
  let f := s.patch.surface k
  let y := f.row r.addr
  let x0 := f.firstPixel r.addr
  match s.pane.redirect k y x0 with
  | none => (s.track r (.scan k f.gen y x0 none)).forward r
  | some d =>
    (((s.withPane (s.pane.put d.pane ((s.pane.pane d.pane).issueRead d.slot))).track r
      (.scan k f.gen y x0 (some (d.pane, d.slot)))).forward { r with addr := d.addr })

/-- A read outside the anchor page in ENABLED mode (R157). -/
def takeRead (r : Request) (s : State) : State :=
  match s.pane.cueAt r.addr with
  | some x => (s.track r (.cue x.1)).forward r
  | none =>
    match s.patch.scanned r.initiator r.addr with
    | none => s.forward r
    | some k =>
      if r.addr = (s.patch.surface k).base then scanRead k r (frameStart k s) else scanRead k r s

/-- A marker handed to the Pane Unit (R113, R114). -/
def takeMarker (k : Nat) (g : PaneSettings) (full : Bool) (data : Line) (s : State) : State :=
  let r := (s.pane.pane k).marker s.tally g full data
  (s.withPane (s.pane.put k r.pane)).raiseAll r.causes

/-- An intake write handed to the Intake Unit (R142). -/
def takeIntake (a : Nat) (full : Bool) (data : Line) (s : State) : State :=
  let r := s.intake.write a full data
  (s.withIntake r.unit).raiseAll r.causes

/-- A write outside the anchor page in ENABLED mode, before it is forwarded (R157). -/
def takeWrite (a : Nat) (full : Bool) (data : Line) (s : State) : State :=
  if s.intake.covers a then takeIntake a full data s
  else
    match s.pane.markerAt a with
    | some x => takeMarker x.1 x.2 full data s
    | none => s

/-- The anchor line of an address in the anchor page (R170). -/
def State.anchorLineOf (s : State) (a : Nat) : Nat := (a - s.anchorSpan.base) / Config.lineBytes

/-- A request to the anchor page, in every mode (R157, R170). -/
def takeAnchor (r : Request) (s : State) : State :=
  match r.access with
  | .write enables data =>
    if s.anchorLineOf r.addr = 0 then (takeCommand (enables == allEnables) data s).forward r
    else s.forward r
  | .read =>
    if 1 ≤ s.anchorLineOf r.addr ∧ s.anchorLineOf r.addr ≤ 7 then
      (s.track r (.anchor (s.anchorLineOf r.addr))).forward r
    else s.forward r

/-- A request recognised, handed to the units concerned, tracked if it must be, and forwarded
(R155, R157). -/
def recognise (r : Request) (s : State) : State :=
  if s.anchorSpan.holds r.addr then takeAnchor r s
  else if s.path.mode = .pass then s.forward r
  else
    match r.access with
    | .read => takeRead r s
    | .write enables data => (takeWrite r.addr (enables == allEnables) data s).forward r

/-- A request under a reserved number: answered with an error, counted, neither recognised nor
forwarded (R156). -/
def rejectReserved (r : Request) (s : State) : State :=
  (s.withPath { s.path with reservedCount := satInc s.path.reservedCount }).sendUp
    { initiator := r.initiator, txn := r.txn, reply := .error }

/-- A request taken (R155, R156). -/
def takeRequest (r : Request) (s : State) : Host.Outcome State Fault Refusal :=
  if Config.firstReserved ≤ r.txn then .next (rejectReserved r s)
  else if (s.path.entry r.initiator r.txn).isSome then .fault .pairInFlight
  else .next (recognise r s)

/-- The oldest waiting request taken, unless the table is full (R155, R159). -/
def takeOldest (s : State) : Host.Outcome State Fault Refusal :=
  if Config.inFlight ≤ s.path.table.length then .next s
  else
    match s.path.waiting with
    | [] => .next s
    | r :: rest => takeRequest r (s.withPath { s.path with waiting := rest })

/-- The requests waiting at the upstream port, with one offered by the player (R159). -/
def offerRequest (offer : Option Request) (s : State) : State :=
  s.withPath { s.path with waiting := s.path.waiting ++ offer.toList }

/-- UPSTREAM_REQUEST (R155, R159). -/
def execUpstreamRequest (offer : Option Request) (s : State) : Host.Outcome State Fault Refusal :=
  unlessReset (fun t => takeOldest (offerRequest offer t)) s

/-- ANCHOR_LINE_WRITE: a write to one of the lines 1 to 7 offered at the upstream port and the
oldest request taken; the write changes no part state (R170). A line outside 1..7 stands for no such
write. -/
def execAnchorLineWrite (line initiator txn : Nat) (enables : BitVec 64) (data : Line)
    (s : State) : Host.Outcome State Fault Refusal :=
  unlessReset (fun t =>
    if 1 ≤ line ∧ line ≤ 7 then
      takeOldest (offerRequest (some {
        addr := t.anchorSpan.base + Config.lineBytes * line, initiator := initiator, txn := txn,
        access := .write enables data }) t)
    else .next t) s

/-! ### Responses -/

/-- The return of a redirected read handed to the Pane Unit (R119, R160). -/
def State.returnRead (s : State) : Tracked → State
  | .scan _ _ _ _ (some (k, slot)) => s.withPane (s.pane.put k ((s.pane.pane k).returnRead slot))
  | .scan _ _ _ _ none => s
  | .anchor _ => s
  | .cue _ => s

/-- The line a tracked read returns: patched, or replaced by the part's own contents (R99, R124,
R158, R170). -/
def State.reshape (s : State) (data : Line) : Tracked → Line
  | .scan k gen y x0 _ =>
    match (s.patch.surface k).pictureFor gen with
    | none => data
    | some q => s.patch.patchLine (s.patch.surface k) q y x0 data
  | .anchor line => anchorLine s line
  | .cue k =>
    match (s.pane.pane k).settings with
    | none => data
    | some g => (s.pane.pane k).cueLine g

/-- Whether a tracked read returns late: under a generation that is neither g nor g − 1 (R99). -/
def State.late (s : State) : Tracked → Bool
  | .scan k gen _ _ _ => ((s.patch.surface k).pictureFor gen).isNone
  | .anchor _ => false
  | .cue _ => false

/-- A late line counted, with its cause (R99, R107). -/
def State.countLate (s : State) (t : Tracked) : State :=
  if s.late t then
    (s.withPatch { s.patch with latePatch := satInc s.patch.latePatch }).raise .latePatch
  else s

/-- The data of a tracked read: reshaped, passed up, the entry freed (R158). -/
def returnData (e : InFlight) (data : Line) (s : State) : State :=
  (((s.countLate e.tracked).returnRead e.tracked).untrack e.initiator e.txn).sendUp
    { initiator := e.initiator, txn := e.txn, reply := .data (s.reshape data e.tracked) }

/-- An error on a tracked read: passed up unchanged, the entry freed, counted, READ_ERROR set
(R100, R160). -/
def returnError (e : InFlight) (s : State) : State :=
  ((((s.returnRead e.tracked).untrack e.initiator e.txn).withPath
    { ((s.returnRead e.tracked).untrack e.initiator e.txn).path with
      readErrors := satInc s.path.readErrors }).sendUp
    { initiator := e.initiator, txn := e.txn, reply := .error }).raise .readError

/-- A response on a number of the verdict writer (R149, R161). -/
def verdictResponse (txn : Nat) (reply : Reply) (s : State) : Host.Outcome State Fault Refusal :=
  match reply with
  | .data _ => if s.intake.uses txn then .fault .wrongReply else .next s
  | .ack =>
    .next ((s.withIntake (s.intake.writeAnswered txn false).unit).raiseAll
      (s.intake.writeAnswered txn false).causes)
  | .error =>
    .next ((s.withIntake (s.intake.writeAnswered txn true).unit).raiseAll
      (s.intake.writeAnswered txn true).causes)

/-- A response on a number of the glyph loader (R92, R93, R161). -/
def loaderResponse (txn : Nat) (reply : Reply) (s : State) : Host.Outcome State Fault Refusal :=
  match s.patch.glyphResponse txn reply with
  | none => .fault .wrongReply
  | some p => .next (s.withPatch p)

/-- A response of the player's traffic: a tracked read's, or one passed up unchanged (R155, R158,
R160). -/
def playerResponse (r : Response) (s : State) : Host.Outcome State Fault Refusal :=
  match s.path.entry r.initiator r.txn with
  | none => .next (s.sendUp r)
  | some e =>
    match r.reply with
    | .data line => .next (returnData e line s)
    | .error => .next (returnError e s)
    | .ack => .fault .wrongReply

/-- A response at the downstream port routed by its number (R155, R161). -/
def takeResponse (r : Response) (s : State) : Host.Outcome State Fault Refusal :=
  if Config.firstVerdictTxn ≤ r.txn ∧ r.txn < Config.firstGlyphTxn then
    verdictResponse r.txn r.reply s
  else if Config.firstGlyphTxn ≤ r.txn ∧ r.txn < Config.endOwnTxn then
    loaderResponse r.txn r.reply s
  else playerResponse r s

/-- DOWNSTREAM_RESPONSE (R155). -/
def execDownstreamResponse (response : Response) (s : State) : Host.Outcome State Fault Refusal :=
  unlessReset (takeResponse response) s

/-- Whether a tracked read is the last outstanding one of a draining slot (R112). -/
def State.endsDraining (s : State) : Tracked → Bool
  | .scan _ _ _ _ (some (k, slot)) =>
    (s.pane.pane k).drains slot && (s.pane.pane k).outstandingOf slot == 1
  | .scan _ _ _ _ none => false
  | .anchor _ => false
  | .cue _ => false

/-- Whether a response is the one that frees a draining slot (R112). -/
def State.freesSlot (s : State) (r : Response) : Bool :=
  r.txn < Config.firstReserved &&
    (match s.path.entry r.initiator r.txn with
     | none => false
     | some e => s.endsDraining e.tracked)

/-- SLOT_FREE: the response that ends the draining of a released slot, taken as the downstream
response it is; any other response is no such event (R112, log entry 15). -/
def execSlotFree (response : Response) (s : State) : Host.Outcome State Fault Refusal :=
  unlessReset (fun t => if t.freesSlot response then takeResponse response t else .next t) s

/-! ### The arbiter -/

/-- The number a grant uses: the one the requester names if it is one of its own and free, else its
lowest free one (R161, log entry 7). -/
def pickTxn (lo count own : Nat) (used : List Nat) : Nat :=
  if lo ≤ own ∧ own < lo + count ∧ used.contains own = false then own
  else (((List.range count).map (fun i => lo + i)).find? (fun t => !used.contains t)).getD lo

/-- Whether the glyph loader requests the port: lines to read and a number free (R92, R161). -/
def Load.requests (l : Load) : Bool :=
  l.next < Config.glyphLines && l.outstanding.length < Config.glyphReads

/-- Whether the glyph loader requests the port. -/
def Loader.requests : Loader → Bool
  | .idle => false
  | .busy l => l.requests
  | .draining _ => false

/-- Whether an own request waits (R162). -/
def State.ownWaits (s : State) : Bool := s.intake.requests || s.patch.loader.requests

/-- The head of the pass-through stream sent downstream (R155, R162). -/
def grantStream (run : Nat) (s : State) : State :=
  match s.path.stream with
  | [] => s
  | r :: rest => (s.withPath { s.path with stream := rest, run := run }).sendDown r

/-- The head verdict issued (R149, R161). -/
def grantVerdict (own : Nat) (s : State) : State :=
  match s.intake.verdicts with
  | [] => s
  | v :: rest =>
    let txn := pickTxn Config.firstVerdictTxn 4 own (s.intake.issued.map (fun w => w.txn))
    (s.withIntake { s.intake with
      verdicts := rest
      issued := s.intake.issued ++ [{ txn := txn, verdict := v, cancelled := false }] }).sendDown
      { addr := v.addr, initiator := 0, txn := txn, access := .write verdictEnables v.line }

/-- The next line of a load read (R92, R161). -/
def grantGlyph (own : Nat) (s : State) : State :=
  match s.patch.loader with
  | .busy l =>
    let txn := pickTxn Config.firstGlyphTxn 12 own (l.outstanding.map (fun x => x.1))
    (s.withPatch { s.patch with
      loader := .busy { l with
        next := l.next + 1, outstanding := l.outstanding ++ [(txn, l.next)] } }).sendDown
      { addr := l.source + 64 * l.next, initiator := 0, txn := txn, access := .read }
  | .idle => s
  | .draining _ => s

/-- An own request granted: the verdict writer's before the glyph loader's; the run returns to 0
(R162). -/
def grantOwn (own : Nat) (s : State) : State :=
  let t := s.withPath { s.path with run := 0 }
  if t.intake.requests then grantVerdict own t else grantGlyph own t

/-- One grant of the arbiter (R162); with nothing waiting there is none. R142 and R150 have a verdict
that is queued land over a rewrite of its line that was not taken, being partial or not POSTED; at a run
of 8 R162 grants the verdict while that rewrite still waits in the stream, so that the rewrite lands over
the verdict. That R162 is followed there is the model's choice (DESIGN CHOICE, log entry 38). -/
def grant (own : Nat) (s : State) : State :=
  if s.path.stream.isEmpty then
    if s.ownWaits then grantOwn own s else s
  else if s.ownWaits then
    if s.path.run < Config.runTop then grantStream (s.path.run + 1) s else grantOwn own s
  else grantStream 0 s

/-- DOWNSTREAM_GRANT (R162). -/
def execDownstreamGrant (own : Nat) (s : State) : Host.Outcome State Fault Refusal :=
  whenRunning (grant own) s

end Sys2Proof.Machine
end

