-- ==== Sys2Proof/Machine/Pins.lean ====
section
/-! DEFINITION. The reset pin (R163): the commands RESET_RELEASE and RESET_ASSERT. -/

namespace Sys2Proof.Machine

/-- RESET_RELEASE: the straps are sampled and every unit takes its power-on values (R163); the
commands that wait are no part of the hardware and stay. -/
def execResetRelease (straps : Nat) (s : State) : Host.Outcome State Fault Refusal :=
  .next ((State.powerOn straps).withPending s.pending)

/-- RESET_ASSERT: from here to the release the part is held in reset (R163). -/
def execResetAssert (s : State) : Host.Outcome State Fault Refusal :=
  .next (s.withPath { s.path with resetHeld := true })

end Sys2Proof.Machine
end

