-- ==== Sys2Proof/Machine/Dispatch.lean ====
section
/-! DEFINITION. What each command does: one arm for each row of spec/opcode_table.json. -/

namespace Sys2Proof.Machine

def exec (i : Instr) (s : State) : Host.Outcome State Fault Refusal :=
  match i with
  | .resetRelease straps => Sys2Proof.Machine.execResetRelease straps s
  | .resetAssert => Sys2Proof.Machine.execResetAssert s
  | .millisecondTick => Sys2Proof.Machine.execMillisecondTick s
  | .secondsTick => Sys2Proof.Machine.execSecondsTick s
  | .changeOfMinute => Sys2Proof.Machine.execChangeOfMinute s
  | .boardMinuteRecompute => Sys2Proof.Machine.execBoardMinuteRecompute s
  | .clockCellUpdate => Sys2Proof.Machine.execClockCellUpdate s
  | .holdExpiry => Sys2Proof.Machine.execHoldExpiry s
  | .dwellExpiry view => Sys2Proof.Machine.execDwellExpiry view s
  | .timedNoticeExpiry => Sys2Proof.Machine.execTimedNoticeExpiry s
  | .cyclePhaseExpiry => Sys2Proof.Machine.execCyclePhaseExpiry s
  | .retryTimerExpiry pane => Sys2Proof.Machine.execRetryTimerExpiry pane s
  | .idleTimerExpiry surface => Sys2Proof.Machine.execIdleTimerExpiry surface s
  | .boardTallyEvent => Sys2Proof.Machine.execBoardTallyEvent s
  | .noticeTallyEvent => Sys2Proof.Machine.execNoticeTallyEvent s
  | .paneTallyEvent => Sys2Proof.Machine.execPaneTallyEvent s
  | .patchSourceChange source => Sys2Proof.Machine.execPatchSourceChange source s
  | .paneFullscreenFlag => Sys2Proof.Machine.execPaneFullscreenFlag s
  | .upstreamRequest offer => Sys2Proof.Machine.execUpstreamRequest offer s
  | .downstreamResponse response => Sys2Proof.Machine.execDownstreamResponse response s
  | .loadDone => Sys2Proof.Machine.execLoadDone s
  | .loaderDrainEnd => Sys2Proof.Machine.execLoaderDrainEnd s
  | .slotFree response => Sys2Proof.Machine.execSlotFree response s
  | .downstreamGrant own => Sys2Proof.Machine.execDownstreamGrant own s
  | .processingStep => Sys2Proof.Machine.execProcessingStep s
  | .setMode tag mode => Sys2Proof.Machine.execSetMode tag mode s
  | .warmReset tag => Sys2Proof.Machine.execWarmReset tag s
  | .setClock tag minute second => Sys2Proof.Machine.execSetClock tag minute second s
  | .dayStart tag minute origin => Sys2Proof.Machine.execDayStart tag minute origin s
  | .setIntake tag params => Sys2Proof.Machine.execSetIntake tag params s
  | .setTally tag params => Sys2Proof.Machine.execSetTally tag params s
  | .setWords tag words => Sys2Proof.Machine.execSetWords tag words s
  | .setView tag params => Sys2Proof.Machine.execSetView tag params s
  | .setSurface tag params => Sys2Proof.Machine.execSetSurface tag params s
  | .setCell tag params => Sys2Proof.Machine.execSetCell tag params s
  | .clearCell tag cell => Sys2Proof.Machine.execClearCell tag cell s
  | .loadGlyphs tag set source sum => Sys2Proof.Machine.execLoadGlyphs tag set source sum s
  | .setSegment tag segment text => Sys2Proof.Machine.execSetSegment tag segment text s
  | .setTrigger tag params => Sys2Proof.Machine.execSetTrigger tag params s
  | .clearTrigger tag trigger => Sys2Proof.Machine.execClearTrigger tag trigger s
  | .setPane tag params => Sys2Proof.Machine.execSetPane tag params s
  | .setPlaylist tag pane first count entries => Sys2Proof.Machine.execSetPlaylist tag pane first count entries s
  | .playStart tag pane entry now => Sys2Proof.Machine.execPlayStart tag pane entry now s
  | .playResume tag pane => Sys2Proof.Machine.execPlayResume tag pane s
  | .playStop tag pane => Sys2Proof.Machine.execPlayStop tag pane s
  | .paneClear tag pane => Sys2Proof.Machine.execPaneClear tag pane s
  | .setMask tag mask => Sys2Proof.Machine.execSetMask tag mask s
  | .clearCauses tag mask => Sys2Proof.Machine.execClearCauses tag mask s
  | .inspect tag kind index => Sys2Proof.Machine.execInspect tag kind index s
  | .anchorLineWrite line initiator txn enables data => Sys2Proof.Machine.execAnchorLineWrite line initiator txn enables data s

end Sys2Proof.Machine
end

