-- ==== Sys2Proof/Safety.lean ====
section
/-! DEFINITION. What a safe state of the part is, unit by unit, in the terms the claims use: the
conditions the manual says always hold. -/

namespace Sys2Proof.Machine

/-! ### The Tally Unit -/

/-- The seats of a show that stand in a list of holds. -/
def heldBy (m : Nat) : List Hold → Nat
  | [] => 0
  | h :: rest => (if h.showNo = m then h.n else 0) + heldBy m rest

/-- The Tally Unit is sound: an EMPTY entry holds the values of R2; no show is oversold (R3); a show's
held field counts the holds that name it (R24), and none names a show that is over (R34); the stored
band is that of R9; the hold list is in order of expiry, its pairs distinct, each hold of one seat
at least, and both lists keep their bounds (R23, R25). -/
structure TallyInv (t : TallyUnit) : Prop where
  shows_length : t.shows.length = Config.shows
  vacant : ∀ m, (t.entry m).state = .empty → t.entry m = Show.vacant
  seats : ∀ m, (t.entry m).sold + (t.entry m).held + (t.entry m).blocked ≤ (t.entry m).capacity
  held : ∀ m, (t.entry m).held = heldBy m t.holds
  current : ∀ h, h ∈ t.holds → (t.entry h.showNo).over = false
  band : ∀ m, (t.entry m).state ≠ .empty → (t.entry m).band = bandOf t.settings (t.entry m)
  cancelled : ∀ m, (t.entry m).cancelMinute.isSome = ((t.entry m).state == .cancelled)
  numbers : ∀ h, h ∈ t.holds → h.showNo < Config.shows
  counts : ∀ h, h ∈ t.holds → 1 ≤ h.n
  pairs : (t.holds.map Hold.pair).Nodup
  sorted : t.holds.Pairwise (fun a b => a.expiry ≤ b.expiry)
  holds_length : t.holds.length ≤ Config.holds
  expired_length : t.expired.length ≤ Config.expired

/-! ### The Notice Unit -/

/-- The Notice Unit is sound: a stack holds exactly the notices whose screens include its surface,
each once, by falling priority (R57); a trigger is SPENT exactly when one notice has it as source,
EMPTY exactly when it has no settings, and names a notice ID in range (R68). -/
structure NoticeInv (u : NoticeUnit) : Prop where
  notices_length : u.notices.length = Config.notices
  stacks_length : u.noticeStacks.length = Config.surfaces
  triggers_length : u.triggers.length = Config.triggers
  stacked : ∀ k, k < Config.surfaces → ∀ n,
    n ∈ u.noticeStacks.getD k [] ↔ ∃ x, u.at? n = some x ∧ x.screens.getLsbD k = true
  once : ∀ k, (u.noticeStacks.getD k []).Nodup
  ranked : ∀ k, (u.noticeStacks.getD k []).Pairwise (fun a b => u.priorityOf b ≤ u.priorityOf a)
  spent : ∀ t, (u.trigger t).state = .spent ↔ ∃ n x, u.at? n = some x ∧ x.source = .trigger t
  single : ∀ t n m x y, u.at? n = some x → u.at? m = some y → x.source = .trigger t →
    y.source = .trigger t → n = m
  settled : ∀ t, (u.trigger t).state = .empty ↔ (u.trigger t).settings = none
  targets : ∀ t g, (u.trigger t).settings = some g → g.notice < Config.notices

/-! ### The Patch Unit -/

/-- A surface is sound: its idle timer runs exactly while it is ACTIVE, within 250 ms (R75, R79). -/
def Surface.sound (f : Surface) : Prop :=
  match f.state, f.idleTimer with
  | .active, some n => n ≤ Config.idleTime
  | .unset, none => True
  | .idle, none => True
  | _, _ => False

/-- A cell in use is sound: it lies within a surface that is set (R76, R82) and its target text has
exactly chars characters (R86). -/
def Cell.sound (c : Cell) (p : PatchUnit) : Prop :=
  c.config.surface < Config.surfaces ∧ (p.surface c.config.surface).state ≠ .unset ∧
    fitsSurface c.config.x c.config.y c.config.chars c.config.scale
      (p.surface c.config.surface).width (p.surface c.config.surface).height = true ∧
    c.target.length = c.config.chars

/-- The records of a picture stand by rising cell number, each cell once (R80, R103). -/
def Picture.ordered (q : Picture) : Prop := q.records.Pairwise (fun a b => a.1 < b.1)

/-- The surfaces and cells of the Patch Unit are sound, and the pictures list each cell once, by
rising cell number (R75, R76, R79, R80, R82, R86). -/
structure ScreenInv (p : PatchUnit) : Prop where
  surfaces_length : p.surfaces.length = Config.surfaces
  cells_length : p.cells.length = Config.cells
  surfaces : ∀ k, (p.surface k).sound
  pictures : ∀ k, (p.surface k).current.ordered ∧ (p.surface k).previous.ordered
  cells : ∀ n c, p.cell n = some c → c.sound p

/-- A loader is sound: its lines and numbers lie in their ranges, each number used once (R91,
R161). -/
def Loader.sound : Loader → Prop
  | .idle => True
  | .busy l =>
    l.set < 2 ∧ l.next ≤ Config.glyphLines ∧ l.outstanding.length ≤ Config.glyphReads ∧
      (∀ x, x ∈ l.outstanding → x.2 < l.next) ∧ (l.outstanding.map (fun x => x.1)).Nodup ∧
      (∀ x, x ∈ l.outstanding → Config.firstGlyphTxn ≤ x.1 ∧ x.1 < Config.endOwnTxn)
  | .draining l => l.length ≤ Config.glyphReads

/-- The glyph store is sound: the bytes of each set are in canonical form and lie within its 36,864
bytes, and the loader is sound (R90, R91, R161). -/
structure GlyphInv (p : PatchUnit) : Prop where
  sets_length : p.sets.length = 2
  canonical : ∀ k, Memory.wf (p.set k).bytes = true
  bounded : ∀ k c, c ∈ (p.set k).bytes → c.1 < Config.glyphBytes
  loader : p.loader.sound

/-! ### The Pane Unit -/

/-- A configured pane is sound: its marks are ordered and its rates in range (R109, R111), acc lies
below the scan rate, the queue holds distinct slots below the slot count and other than the
displayed one, one fewer than the slots at most (R109, R112, R115). -/
structure PaneInv (p : Pane) (g : PaneSettings) : Prop where
  slots : 2 ≤ g.slotCount ∧ g.slotCount ≤ Config.slots
  marks : g.lower < g.upper ∧ g.upper < g.slotCount
  rates : 24 ≤ g.scanRate ∧ g.scanRate ≤ 120 ∧ 1 ≤ g.clipRate ∧ g.clipRate ≤ 120
  acc : p.acc < g.scanRate
  depth : p.queue.length < g.slotCount
  queued : ∀ f, f ∈ p.queue → f.slot < g.slotCount ∧ p.shows f.slot = false
  displayed : ∀ f, p.displayed = some f → f.slot < g.slotCount
  distinct : (p.queue.map (fun f => f.slot)).Nodup
  flow : p.queue.length = 0 → p.flow = .go
  run : p.underrunRun < g.deglitch

/-- Every configured pane of the Pane Unit is sound. -/
structure PanesInv (u : PaneUnit) : Prop where
  panes_length : u.panes.length = Config.panes
  panes : ∀ k g, (u.pane k).settings = some g → PaneInv (u.pane k) g

/-! ### The Intake Unit -/

/-- The Intake Unit is sound: its queues and its issued list keep their bounds (R145, R149), no line
stands twice in the two queues (R143), the numbers of the writes issued are distinct numbers of the
writer (R161), the marks are ordered (R140), and every record taken is counted (R151). -/
structure IntakeInv (u : IntakeUnit) : Prop where
  queue_length : u.queue.length ≤ Config.records
  verdicts_length : u.verdicts.length ≤ Config.verdicts
  issued_length : u.issued.length ≤ Config.issued
  lines : (u.queue.map (fun r => r.addr) ++ u.verdicts.map (fun v => v.addr)).Nodup
  numbers : (u.issued.map (fun w => w.txn)).Nodup
  own : ∀ w, w ∈ u.issued → Config.firstVerdictTxn ≤ w.txn ∧ w.txn < Config.firstGlyphTxn
  marks : 4 ≤ u.upper ∧ u.upper ≤ Config.records ∧ u.lower < u.upper
  accounted : u.counters.taken < Config.counterTop →
    u.counters.taken =
      u.counters.done + u.counters.refused + u.counters.superseded + u.queue.length

/-! ### The Path Unit -/

/-- The Path Unit is sound: the in-flight patch table has 64 entries at most, no pair twice (R158),
none under a reserved number (R156), and the pass-through run is 8 at most (R162). -/
structure PathInv (p : PathUnit) : Prop where
  table_length : p.table.length ≤ Config.inFlight
  pairs : (p.table.map (fun e => (e.initiator, e.txn))).Nodup
  numbers : ∀ e, e ∈ p.table → e.txn < Config.firstReserved
  run : p.run ≤ Config.runTop

/-! ### The Clock Unit -/

/-- The Clock Unit is sound: every value lies in its range, and the clock holds only at the end of
the day (R164, R166, R167). -/
structure ClockInv (c : ClockUnit) : Prop where
  msCount : c.msCount < 1000
  uptime : c.uptime ≤ Config.lastUptime
  minute : c.minute ≤ Config.lastMinute
  second : c.second ≤ 59
  origin : c.origin < 1440
  holding : c.holding = true → c.minute = Config.lastMinute ∧ c.second = 59

/-! ### The Board Unit -/

/-- A view is sound: its settings lie in their ranges (R39), its timer within its dwell (R45), and
its page is 0 or within its list (R44, R46). -/
structure ViewInv (v : BoardView) : Prop where
  horizon : 30 ≤ v.horizon ∧ v.horizon ≤ 720
  rows : 1 ≤ v.rows ∧ v.rows ≤ 16
  dwell : 5 ≤ v.dwell ∧ v.dwell ≤ 60
  linger : v.linger ≤ 120
  timer : 1 ≤ v.timer ∧ v.timer ≤ v.dwell
  page : v.page = 0 ∨ v.page * v.rows < v.list.length

/-- The Board Unit is sound: four sound views (R39). -/
structure BoardInv (b : BoardUnit) : Prop where
  views_length : b.views.length = Config.views
  views : ∀ v, v ∈ b.views → ViewInv v

/-- A view whose change does not wait is what the Patch Unit holds of it (R53; that the Patch Unit
holds a view as last handed on is log entry 29). -/
structure HandedInv (s : State) : Prop where
  pages_length : s.patch.viewPages.length = s.board.views.length
  handed : ∀ (k : Nat) (v : BoardView), s.board.views[k]? = some v → k ∉ s.patch.fromBoard →
    s.patch.viewPages[k]? = some { list := v.list, page := v.page, rows := v.rows }

/-! ### Words the claims use -/

/-- The response a command leaves: everything replaced, the count risen by one (R172). -/
def State.responseTo (s : State) (code tag : Nat) (status : Status) (result : List Byte) :
    CommandResponse :=
  { code := code, tag := tag, status := status, count := (s.command.response.count + 1) % 256,
    result := result }

/-- The Path Unit takes a request the moment it is offered: the part runs, nothing waits, the table
has room, the number is the player's and its pair is not in the table (R154, R156, R159). -/
def State.takesAtOnce (s : State) (r : Request) : Prop :=
  s.path.resetHeld = false ∧ s.path.waiting = [] ∧ s.path.table.length < Config.inFlight ∧
    r.txn < Config.firstReserved ∧
    ∀ e, e ∈ s.path.table → ¬(e.initiator = r.initiator ∧ e.txn = r.txn)

/-- The state with another list of requests waiting at the upstream port (R159). -/
def State.awaiting (s : State) (q : List Request) : State :=
  s.withPath { s.path with waiting := q }

/-- The record processor can make a step, and the head of the queue is `q`, a good record `r`
(R147). -/
def State.readsRecord (s : State) (q : QueuedRecord) (r : Record) : Prop :=
  s.path.resetHeld = false ∧ s.intake.verdicts.length < Config.verdicts ∧
    s.intake.queue.head? = some q ∧ onesSum q.data 29 = 65535 ∧ decodeRecord q.data = some r

/-- What a processing step leaves of the Intake Unit: the head gone, its verdict at the tail, one
counter risen, back-pressure dropped at or below the lower mark, all else kept (R145, R147). -/
def IntakeUnit.stepped (u w : IntakeUnit) (v : Verdict) : Prop :=
  w = { u with
    queue := u.queue.tail
    verdicts := u.verdicts ++ [v]
    counters := { u.counters with
      done := if v.reason = .none then satInc u.counters.done else u.counters.done
      refused := if v.reason = .none then u.counters.refused else satInc u.counters.refused }
    raised := u.raised && decide (u.lower < u.queue.tail.length)
    since := if u.raised = true ∧ u.queue.tail.length ≤ u.lower then 0 else u.since }

/-- Two states differ at most in what an event of the Tally Unit changes: the unit, the events handed
on, and the changed shows, which the Patch Unit hears of (R8, R43, R87; by rising number, log entry
34); a record is answered at the Intake Unit as well (R147). -/
def State.tallyFrame (s t : State) : Prop :=
  t = { s with
    tally := t.tally
    board := { s.board with inbox := t.board.inbox }
    notice := { s.notice with inbox := t.notice.inbox }
    pane := { s.pane with inbox := t.pane.inbox }
    patch := { s.patch with
      fromTally := s.patch.fromTally ++ changedShows s.tally.shows t.tally.shows }
    intake := t.intake }

/-- The tally events handed to the Board, Notice and Pane Units between two states (R8). -/
def State.emits (s t : State) (l : List TallyEvent) : Prop :=
  t.board.inbox = s.board.inbox ++ l.map BoardEvent.tally ∧
    t.notice.inbox = s.notice.inbox ++ l ∧ t.pane.inbox = s.pane.inbox ++ l

/-- The tally events of a band that went from `a` to `b` for show `m` (R10). -/
def bandEvents (m : Nat) (a b : Band) : List TallyEvent :=
  (bandEvent a b).toList.map (fun k => { showNo := m, kind := k })

/-- A show after its state and band are recomputed: closing returns its held seats; an EMPTY entry
stays (R4, R6, R7, R9). -/
def recomputedShow (g : TallySettings) (now : Nat) (w : Show) : Show :=
  if w.state = .empty then w
  else
    let v : Show :=
      { w with
        state := recomputed g now w
        held := if recomputed g now w = .closed then 0 else w.held }
    { v with band := bandOf g v }

/-- The tally events of that recomputation: the state event, then the band event (R8, R10). -/
def recomputeEvents (g : TallySettings) (now m : Nat) (w : Show) : List TallyEvent :=
  (if recomputed g now w = w.state then []
   else (stateEvent (recomputed g now w)).toList.map (fun k => { showNo := m, kind := k })) ++
    bandEvents m w.band (recomputedShow g now w).band

/-- The holds that stay when the states are recomputed: those of shows that do not close (R34). -/
def holdsKept (t : TallyUnit) (g : TallySettings) (now : Nat) : List Hold :=
  t.holds.filter (fun h => recomputed g now (t.entry h.showNo) != .closed)

/-- The pairs of lapsed holds appended to the expired-hold list in their order (R25). -/
def lapsedInto (l : List (Nat × Nat)) (gone : List Hold) : List (Nat × Nat) :=
  gone.foldl (fun e h => appendExpired e h.pair) l

/-- The holds a recomputation of all states removes: show by show, in hold-list order (R7, R34). -/
def holdsClosed (t : TallyUnit) (g : TallySettings) (now : Nat) : List Hold :=
  (List.range Config.shows).flatMap (fun m =>
    if recomputed g now (t.entry m) = .closed then t.holds.filter (fun h => h.showNo == m) else [])

/-- The Tally Unit with every show recomputed at a minute under some settings, the holds of closing
shows lapsed (R4, R7, R22, R34). -/
def TallyUnit.recomputesTo (t u : TallyUnit) (g : TallySettings) (now : Nat) : Prop :=
  u.shows.length = Config.shows ∧ (∀ m, u.entry m = recomputedShow g now (t.entry m)) ∧
    u.holds = holdsKept t g now ∧ u.expired = lapsedInto t.expired (holdsClosed t g now) ∧
    u.settings = g ∧ u.expiryWaiting = t.expiryWaiting

/-- The tally events of that recomputation: show by show in show-number order (R8). -/
def allRecomputeEvents (t : TallyUnit) (g : TallySettings) (now : Nat) : List TallyEvent :=
  (List.range Config.shows).flatMap (fun m => recomputeEvents g now m (t.entry m))

/-- A record that changed one show and nothing else of the Tally Unit is done: the band recomputed,
its event emitted, the show reported in the verdict (R9, R12, R148). -/
def State.seatsDone (s : State) (q : QueuedRecord) (m : Nat) (w : Show) : Prop :=
  ∃ t, exec .processingStep s = .next t ∧ s.tallyFrame t ∧
    t.tally = { s.tally with
      shows := s.tally.shows.set m { w with band := bandOf s.tally.settings w } } ∧
    s.emits t (bandEvents m (s.tally.entry m).band (bandOf s.tally.settings w)) ∧
    s.intake.stepped t.intake {
      addr := q.addr, reason := .none, left := w.left, state := w.state,
      band := bandOf s.tally.settings w }

/-- A committed picture holds exactly the cells in use on its surface, by rising cell number, the
pending full-screen flag and the validity of the glyph sets (step 3 of R88). -/
def Picture.commits (q : Picture) (p : PatchUnit) (k : Nat) (flag : Bool) : Prop :=
  q.ordered ∧ q.fullScreen = flag ∧ q.valid0 = (p.setState 0 == .valid) ∧
    q.valid1 = (p.setState 1 == .valid) ∧
    ∀ n r, (n, r) ∈ q.records ↔
      ∃ c, p.cell n = some c ∧ c.config.surface = k ∧ r = c.record

/-- The cells of a state as its cells before, those of a reached source with their text derived as
the state stands (R87). -/
def State.cellsFollow (s t : State) (reached : Source → Bool) : Prop :=
  ∀ n, t.patch.cell n = (s.patch.cell n).map (fun c =>
    if reached c.config.source then { c with target := t.targetText c.config } else c)

/-- The surfaces of a state as before, but for IDLE ones, whose picture of g may have taken a change
(R89). -/
def State.surfacesWait (s t : State) : Prop :=
  ∀ k, t.patch.surface k = s.patch.surface k ∨
    ((s.patch.surface k).state = .idle ∧
      t.patch.surface k =
        { s.patch.surface k with current := (t.patch.surface k).current } ∧
      (t.patch.surface k).current.commits t.patch k (s.patch.surface k).pendingFlag)

/-- An IDLE surface with a cell whose text changed shows the change at once (R89). -/
def State.idleShows (s t : State) : Prop :=
  ∀ k n c d, k < Config.surfaces → (s.patch.surface k).state = .idle → s.patch.cell n = some c →
    t.patch.cell n = some d → c.config.surface = k → c.target ≠ d.target →
    (n, d.record) ∈ (t.patch.surface k).current.records

/-- The numbers of the views whose list or page differs between two tables (R45, R46, R53); that they
stand by rising number is log entry 34. -/
def viewsThatDiffer (old new : List BoardView) : List Nat :=
  (List.range old.length).filter (fun k =>
    decide ((old[k]?).map (fun v => (v.list, v.page)) ≠ (new[k]?).map (fun v => (v.list, v.page))))

/-- A table of views after a recomputation at a minute: each list replaced, a page left beyond its
list become 0 with the dwell timer restarted, every other page and timer and all settings as they
were (R42, R46). -/
def viewsFollow (old new : List BoardView) (t : TallyUnit) (now : Nat) : Prop :=
  new.length = old.length ∧
    ∀ (k : Nat) (v : BoardView), old[k]? = some v → ∃ (list : List Nat) (page timer : Nat),
      new[k]? = some { v with list := list, page := page, timer := timer } ∧
      list = v.listFor t now ∧
      (v.page = 0 ∨ v.page * v.rows < list.length → page = v.page ∧ timer = v.timer) ∧
      (v.page ≠ 0 → list.length ≤ v.page * v.rows → page = 0 ∧ timer = v.dwell)

/-- The Board Unit has recomputed all four views between two states, and nothing else changed but
the events it has taken (R42, R43, R46, R53). -/
def State.viewsRecomputed (s t : State) : Prop :=
  t = { s with
    board := { s.board with
      views := t.board.views, inbox := t.board.inbox, minuteWaiting := t.board.minuteWaiting }
    patch := { s.patch with
      fromBoard := s.patch.fromBoard ++ viewsThatDiffer s.board.views t.board.views } } ∧
    viewsFollow s.board.views t.board.views s.tally s.clock.minute

/-- Two states differ at most in what an event of the Notice Unit changes: the unit, and for each
surface whose top notice, text or full-screen flag changed the new text and flag handed to the Patch
Unit and the flag to the Pane Unit (R58); a record is answered at the Intake Unit as well, and a
blocked firing sets a cause. -/
def State.noticeFrame (s t : State) : Prop :=
  t = { s with
    notice := t.notice
    patch := { s.patch with fromNotice := s.patch.fromNotice ++ handOns s.notice t.notice }
    pane := { s.pane with
      flagInbox := s.pane.flagInbox ++
        (handOns s.notice t.notice).map (fun h => (h.surface, h.fullScreen)) }
    intake := t.intake
    command := t.command }

/-- Trigger `r` matches a tally event: ARMED, of the event's kind, its filter ANY or the event's show
(R71). -/
def NoticeUnit.meets (u : NoticeUnit) (e : TallyEvent) (r : Nat) : Prop :=
  (u.trigger r).state = .armed ∧ ∃ g, (u.trigger r).settings = some g ∧ g.event = e.kind ∧
    (g.filter = none ∨ g.filter = some e.showNo)

/-- Trigger `r` fires on a tally event: it matches, its notice ID is free, and no lower trigger that
matches the same event names that ID (R71). -/
def NoticeUnit.fires (u : NoticeUnit) (e : TallyEvent) (r : Nat) : Prop :=
  u.meets e r ∧ ∃ g, (u.trigger r).settings = some g ∧ u.at? g.notice = none ∧
    ∀ q h, q < r → u.meets e q → (u.trigger q).settings = some h → h.notice ≠ g.notice

/-- A read is a scan read of a surface, by the conditions of R96 and the place of R97. -/
def Surface.isScanRead (f : Surface) (initiator a : Nat) : Prop :=
  f.state ≠ .unset ∧ f.scan = initiator ∧ f.base ≤ a ∧ a < f.base + f.stride * f.height ∧
    (a - f.base) % f.stride / 4 < f.width

/-- A read taken in ENABLED mode is a scan read of surface `k` and of nothing else the part knows
(R157). -/
def State.scansOnly (s : State) (r : Request) (k : Nat) : Prop :=
  s.path.mode = .enabled ∧ r.access = .read ∧ s.anchorSpan.holds r.addr = false ∧
    (∀ j g, (s.pane.pane j).settings = some g → g.cue ≠ r.addr) ∧ k < Config.surfaces ∧
    (s.patch.surface k).isScanRead r.initiator r.addr ∧
    ∀ j, j < Config.surfaces → j ≠ k → ¬ (s.patch.surface j).isScanRead r.initiator r.addr

/-- A read is a cue read of pane `k` and of nothing else the part knows (R124, R157). -/
def State.cuesOnly (s : State) (r : Request) (k : Nat) : Prop :=
  s.path.mode = .enabled ∧ r.access = .read ∧ s.anchorSpan.holds r.addr = false ∧
    (∃ g, (s.pane.pane k).settings = some g ∧ g.cue = r.addr) ∧
    (∀ j g, j ≠ k → (s.pane.pane j).settings = some g → g.cue ≠ r.addr) ∧
    ∀ j, j < Config.surfaces → ¬ (s.patch.surface j).isScanRead r.initiator r.addr

/-- A request the part only forwards. In the anchor page, in either mode: a read of line 0 or of the
lines 8 to 63, and a write of the lines 1 to 63. Outside it: any request in PASS mode; in ENABLED mode a
read that is neither a cue read nor a scan read and a write that meets neither the intake window nor a
marker line (R157, R170). -/
def State.plain (s : State) (r : Request) : Prop :=
  (s.anchorSpan.holds r.addr = true ∧
    ((r.access = .read ∧
        (r.addr < s.anchorSpan.base + 64 ∨ s.anchorSpan.base + 512 ≤ r.addr)) ∨
      ∃ enables data, r.access = .write enables data ∧ s.anchorSpan.base + 64 ≤ r.addr)) ∨
  (s.anchorSpan.holds r.addr = false ∧
    (s.path.mode = .pass ∨
      (r.access = .read ∧ (∀ j g, (s.pane.pane j).settings = some g → g.cue ≠ r.addr) ∧
        ∀ k, k < Config.surfaces → ¬ (s.patch.surface k).isScanRead r.initiator r.addr) ∨
      (∃ enables data, r.access = .write enables data ∧
        (∀ base length, s.intake.window = some (base, length) →
          r.addr < base ∨ base + 64 * length ≤ r.addr) ∧
        ∀ j g, (s.pane.pane j).settings = some g → g.marker ≠ r.addr)))

/-- A write taken in ENABLED mode that the anchor page does not hold (R157). -/
def State.writesOutside (s : State) (r : Request) (enables : BitVec 64) (data : Line) : Prop :=
  s.takesAtOnce r ∧ s.path.mode = .enabled ∧ s.anchorSpan.holds r.addr = false ∧
    r.access = .write enables data

/-- The line of a scan read lies inside a pane's rectangle (R119). -/
def PaneSettings.frames (g : PaneSettings) (surface y x0 : Nat) : Prop :=
  g.surface = surface ∧ g.py ≤ y ∧ y < g.py + g.ph ∧ g.px ≤ x0 ∧ x0 < g.px + g.pw

/-- The Path Unit with a read tracked and sent on to the pass-through stream (R155, R158). -/
def PathUnit.tracks (p : PathUnit) (r : Request) (k : Tracked) (addr : Nat) : PathUnit :=
  { p with
    table := p.table ++ [{ initiator := r.initiator, txn := r.txn, tracked := k }]
    stream := p.stream ++ [{ r with addr := addr }] }

/-- The Path Unit with the response to a tracked read passed up and its entry freed (R158, R160). -/
def PathUnit.answers (p : PathUnit) (e : InFlight) (reply : Reply) : PathUnit :=
  { p with
    table := p.table.filter (fun x => !(x.initiator == e.initiator && x.txn == e.txn))
    upOut := p.upOut ++ [{ initiator := e.initiator, txn := e.txn, reply := reply }] }

/-- The Pane Unit with one read of a slot returned, where the read was redirected (R112, R119). -/
def PaneUnit.returned (u : PaneUnit) : Option (Nat × Nat) → PaneUnit
  | none => u
  | some (k, slot) =>
    { u with
      panes := u.panes.set k { u.pane k with
        outstanding :=
          (u.pane k).outstanding.set slot ((u.pane k).outstanding.getD slot 0 - 1) } }

/-- The cause field with each cause of a list set (R175). -/
def causeBits (l : List Cause) : BitVec 12 := l.foldr (fun c b => c.bit ||| b) 0

/-- A configured pane after a frame start in which `n` advances fall due and find the first `n` frames
of the queue, or all of it: acc lowered by the advances, the last frame found displayed, the others
counted SKIPPED, flow GO at or below the lower mark (R115, R116, R117). -/
def Pane.advancedBy (p : Pane) (g : PaneSettings) (n : Nat) : Pane :=
  { p with
    acc := p.acc + g.clipRate - n * g.scanRate
    queue := p.queue.drop n
    displayed := if min n p.queue.length = 0 then p.displayed
      else p.queue[min n p.queue.length - 1]?
    underrunRun := if min n p.queue.length = 0 then p.underrunRun else 0
    flow := if p.queue.length - n ≤ g.lower then .go else p.flow
    counters := { p.counters with
      shown := if min n p.queue.length = 0 then p.counters.shown else satInc p.counters.shown
      skipped := satAdd p.counters.skipped (min n p.queue.length - 1) } }

/-- An own request waits: a verdict with a number free, or a line to load with a number free
(R149, R161). -/
def State.ownRequest (s : State) : Prop :=
  (s.intake.verdicts ≠ [] ∧ s.intake.issued.length < 4) ∨
    ∃ l, s.patch.loader = .busy l ∧ l.next < 576 ∧ l.outstanding.length < 12

/-- A marker that every test of R113 passes. -/
def Pane.accepts (p : Pane) (g : PaneSettings) (enables : BitVec 64) (data : Line) : Prop :=
  enables = BitVec.allOnes 64 ∧ onesSum data 32 = 65535 ∧ p.playlist.state = .active ∧
    byteAt data 1 = p.playlist.generation ∧ byteAt data 0 < g.slotCount ∧
    (∀ f, p.displayed = some f → f.slot ≠ byteAt data 0) ∧
    (∀ f, f ∈ p.queue → f.slot ≠ byteAt data 0) ∧
    p.outstanding.getD (byteAt data 0) 0 = 0 ∧ p.queue.length < g.slotCount - 1

/-- An entry is skipped by candidate evaluation (step 2 of R133). -/
def PlayEntry.passedOver (x : PlayEntry) (t : TallyUnit) : Prop :=
  ∃ n, x.showNo = some n ∧
    ((t.entry n).state = .empty ∨ (t.entry n).state = .cancelled ∨
      (x.skipSold = true ∧ (t.entry n).band = .soldOut) ∨
      (x.skipStarted = true ∧ ((t.entry n).state = .started ∨ (t.entry n).state = .closed)))

/-- A range shares no address with any place of a list. -/
def apart (r : Span) (places : List Span) : Prop :=
  ∀ o, o ∈ places → ∀ a, ¬ (r.holds a = true ∧ o.holds a = true)

/-- The verdicts a write of a line removes or newly cancels (R143, R144). -/
def IntakeUnit.losses (u : IntakeUnit) (addr : Nat) : Nat :=
  (u.verdicts.filter (fun v => v.addr == addr)).length +
    (u.issued.filter (fun w => w.verdict.addr == addr && !w.cancelled)).length

/-- The Intake Unit with the verdicts of a line removed, its issued writes cancelled and both counted
LOST (R143, R144). -/
def IntakeUnit.verdictsLost (u : IntakeUnit) (addr : Nat) : IntakeUnit :=
  { u with
    verdicts := u.verdicts.filter (fun v => v.addr != addr)
    issued := u.issued.map (fun w =>
      if w.verdict.addr = addr then { w with cancelled := true } else w)
    counters := { u.counters with lost := satAdd u.counters.lost (u.losses addr) } }

/-- A committed record is drawn over a pixel: its FULLSCREEN flag matches the line's mode and the
pixel lies in its rectangle (R102, R103). -/
def CellRecord.draws (e : CellRecord) (full : Bool) (x y : Nat) : Prop :=
  e.fullScreen = full ∧ e.x ≤ x ∧ x < e.x + e.chars * 16 * e.scale ∧ e.y ≤ y ∧
    y < e.y + 24 * e.scale

/-- Cell `n` with record `e` governs a pixel: it is drawn over it, and of the drawn cells over the
pixel it has the highest layer, at equal layers the lowest number (R103). -/
def Picture.governs (q : Picture) (n : Nat) (e : CellRecord) (x y : Nat) : Prop :=
  (n, e) ∈ q.records ∧ e.draws q.fullScreen x y ∧
    ∀ m d, (m, d) ∈ q.records → d.draws q.fullScreen x y →
      d.layer < e.layer ∨ (d.layer = e.layer ∧ n ≤ m)

/-- The coverage of a pixel in a record: the byte R104 names of its glyph set where the picture holds
the set VALID and it is VALID now, else 0 (R94, R104). -/
def PatchUnit.inks (u : PatchUnit) (q : Picture) (e : CellRecord) (x y a : Nat) : Prop :=
  (u.setState e.glyphSet = .valid →
    (e.glyphSet = 0 ∧ q.valid0 = true ∨ e.glyphSet ≠ 0 ∧ q.valid1 = true) → ∃ dx dy c,
      dx = x - e.x ∧ dy = y - e.y ∧ c = e.text.getD (dx / (16 * e.scale)) 32 ∧
      a = (readByte (u.set e.glyphSet).bytes
        ((c - 32) * 384 + dy / e.scale * 16 + dx % (16 * e.scale) / e.scale)).toNat) ∧
  (u.setState e.glyphSet ≠ .valid → a = 0) ∧
  (e.glyphSet = 0 → q.valid0 = false → a = 0) ∧ (e.glyphSet ≠ 0 → q.valid1 = false → a = 0)

/-- Candidate evaluation comes from candidate `a` to candidate `c` by `n` skips (R133). -/
def Playlist.reachesBy (l : Playlist) (t : TallyUnit) : Nat → Nat → Nat → Prop
  | 0, a, c => a = c
  | n + 1, a, c =>
    a < Config.entries ∧ (l.entry a).valid = true ∧ (l.entry a).passedOver t ∧
      l.reachesBy t n (if (l.entry a).loops then 0 else a + 1) c

/-- Candidate evaluation comes from candidate `a` to candidate `c` by fewer than sixteen skips
(R133). -/
def Playlist.reaches (l : Playlist) (t : TallyUnit) (a c : Nat) : Prop :=
  ∃ n, n < 16 ∧ l.reachesBy t n a c

/-- A processing step refuses its record: nothing changes but the Intake Unit, whose verdict carries
the code and the figures of the show reported (R12, R147, R148). -/
def State.refusesRecord (s : State) (q : QueuedRecord) (reason : Reason) (w : Show) : Prop :=
  ∃ u, exec .processingStep s = .next { s with intake := u } ∧
    s.intake.stepped u {
      addr := q.addr, reason := reason, left := w.left, state := w.state, band := w.band }

/-- A host command is refused with a status: nothing changes but the response, whose result bytes are
none (R171, R172). -/
def State.refusesCommand (s : State) (c : Instr) (code tag : Nat) (status : Status) : Prop :=
  exec c s = .next { s with
    command := { s.command with response := s.responseTo code tag status [] } }

/-- The Command Unit after a command answered OK, its causes as they then stand (R172). -/
def State.answeredOk (s : State) (code tag : Nat) (causes : BitVec 12) (result : List Byte) :
    CommandUnit :=
  { s.command with causes := causes, response := s.responseTo code tag .ok result }

/-- The state after an INSPECT answered OK whose copy is `bytes` (R172, R178). -/
def State.inspected (s : State) (tag kind index : Nat) (bytes : List Byte) : State :=
  { s with
    command := { s.answeredOk 24 tag s.command.causes [byte ((s.command.copyCount + 1) % 256)] with
      copyKind := some kind, copyIndex := index, copyCount := (s.command.copyCount + 1) % 256,
      copyBytes := bytes } }

/-- What SET_CLOCK and DAY_START hand on has been taken: `purged` recomputed at the new minute, the
views recomputed on the result, every view whose list or page changed handed on, the events handed
on, and the cells of `reached` derived afresh (R22, R42, R43, R46, R53, R87, R168, R169); log entry 9
says what of this is taken at once. -/
def State.clockChanged (s t : State) (purged : TallyUnit) (events : List TallyEvent)
    (reached : Source → Bool) : Prop :=
  t = { s with
    clock := t.clock
    tally := t.tally
    board := { s.board with
      views := t.board.views, inbox := s.board.inbox ++ events.map BoardEvent.tally }
    notice := { s.notice with inbox := s.notice.inbox ++ events }
    pane := { s.pane with inbox := s.pane.inbox ++ events }
    patch := { s.patch with
      cells := t.patch.cells, surfaces := t.patch.surfaces
      fromTally := s.patch.fromTally ++ changedShows s.tally.shows t.tally.shows
      fromBoard := s.patch.fromBoard ++ viewsThatDiffer s.board.views t.board.views }
    command := t.command } ∧
    purged.recomputesTo t.tally s.tally.settings t.clock.minute ∧
    t.tally.minuteWaiting = s.tally.minuteWaiting ∧
    viewsFollow s.board.views t.board.views t.tally t.clock.minute ∧
    s.cellsFollow t reached ∧ s.surfacesWait t ∧ s.idleShows t

/-- Whether a source is the NOTICE source of a surface whose top notice, its text or its full-screen
flag changed between two states of the Notice Unit (R58, R84). -/
def readsChangedTop (u w : NoticeUnit) (src : Source) : Bool :=
  (List.range 12).any (fun k => src == .notice k && topDiffers u w k)

/-- The Notice Unit's hand-ons have been taken by the Patch and Pane Units within a command's event:
for each surface whose top notice, text or flag changed, the new text and flag are stored, every
NOTICE cell of it is derived afresh, and a surface that a change reaches and that is IDLE shows it at
once, where any other waits (R58, R84, R87, R89, R120, R171). -/
def State.topsTaken (s t : State) : Prop :=
  t = { s with
    notice := t.notice
    patch := { s.patch with
      noticeText := t.patch.noticeText, cells := t.patch.cells, surfaces := t.patch.surfaces }
    pane := { s.pane with flags := t.pane.flags }
    command := t.command } ∧
    t.patch.noticeText.length = 12 ∧ t.pane.flags.length = 12 ∧ t.patch.surfaces.length = 12 ∧
    s.cellsFollow t (readsChangedTop s.notice t.notice) ∧ s.idleShows t ∧
    ∀ k, k < 12 →
      (topDiffers s.notice t.notice k = true →
        t.patch.noticeText.getD k [] = t.notice.topText k ∧
        t.pane.flag k = t.notice.isFull k ∧
        t.patch.surface k = { s.patch.surface k with
          pendingFlag := t.notice.isFull k, current := (t.patch.surface k).current } ∧
        ((s.patch.surface k).state = .idle →
          (t.patch.surface k).current.commits t.patch k (t.notice.isFull k))) ∧
      (topDiffers s.notice t.notice k = false →
        t.patch.noticeText.getD k [] = s.patch.noticeText.getD k [] ∧
        t.pane.flag k = s.pane.flag k ∧
        (t.patch.surface k = s.patch.surface k ∨
          ((s.patch.surface k).state = .idle ∧
            t.patch.surface k =
              { s.patch.surface k with current := (t.patch.surface k).current } ∧
            (t.patch.surface k).current.commits t.patch k (s.patch.surface k).pendingFlag))) ∧
      ((s.patch.surface k).state ≠ .idle →
        (t.patch.surface k).current = (s.patch.surface k).current)

/-- The notice a SPENT trigger raised has left the table, if the trigger is SPENT, and every other
notice, trigger and stack stands as it was (R55, R69, R70). -/
def NoticeUnit.clearedOf (u w : NoticeUnit) (r : Nat) : Prop :=
  w = { u with notices := w.notices, noticeStacks := w.noticeStacks, triggers := w.triggers } ∧
    (∀ q, q ≠ r → w.trigger q = u.trigger q) ∧
    (∀ n x, u.at? n = some x →
      w.at? n = if x.source = .trigger r then none else some x) ∧
    (∀ n, u.at? n = none → w.at? n = none) ∧
    ∀ k, w.noticeStacks.getD k [] =
      (u.noticeStacks.getD k []).filter (fun n => (w.at? n).isSome)

/-- The code of a command of R173; none for the rows that are no command line. -/
def commandCode : Instr → Option Nat
  | .setMode _ _ => some 1
  | .warmReset _ => some 2
  | .setClock _ _ _ => some 3
  | .dayStart _ _ _ => some 4
  | .setIntake _ _ => some 5
  | .setTally _ _ => some 6
  | .setWords _ _ => some 7
  | .setView _ _ => some 8
  | .setSurface _ _ => some 9
  | .setCell _ _ => some 10
  | .clearCell _ _ => some 11
  | .loadGlyphs _ _ _ _ => some 12
  | .setSegment _ _ _ => some 13
  | .setTrigger _ _ => some 14
  | .clearTrigger _ _ => some 15
  | .setPane _ _ => some 16
  | .setPlaylist _ _ _ _ _ => some 17
  | .playStart _ _ _ _ => some 18
  | .playResume _ _ => some 19
  | .playStop _ _ => some 20
  | .paneClear _ _ => some 21
  | .setMask _ _ => some 22
  | .clearCauses _ _ => some 23
  | .inspect _ _ _ => some 24
  | _ => none

end Sys2Proof.Machine
end

