-- ==== Sys2Proof/Certificates/Slice0/Obligations.lean ====
section
/-! DEFINITION. The statements about the part. A statement holds for every state that meets its
hypotheses, reached by a run or not; `s.path.resetHeld = false` says that the reset input is not
asserted. Where a statement rests on a choice of the model its docstring names the log entry. -/

section Claims

open Sys2Proof Sys2Proof.Machine

/-! ### The queue, reset and the ticks -/

/-- A step runs the command at the front of the queue on the state with the queue's rest; on an
empty queue it idles, which is the model's choice (log entry 1). -/
def Obligations.StepRunsFrontCommand : Prop :=
  ∀ s : State, (s.pending = [] → step s = .next s) ∧
    ∀ c rest, s.pending = c :: rest → step s = exec c { s with pending := rest }

/-- The release of the reset input samples the straps, fixes the anchor page and gives every unit
its power-on values (R163, with R2, R4, R24, R25, R39, R50, R56, R67, R68, R75, R81, R90, R109,
R128, R129, R140, R152, R157, R164, R166, R172, R175); that the Patch Unit holds the views as last
handed on is the model's choice (log entry 29). -/
def Obligations.ResetReleaseGivesPowerOn : Prop :=
  ∀ (straps : Nat) (s : State), ∃ t, exec (.resetRelease straps) s = .next t ∧
    t.path = { resetHeld := false, straps := straps, mode := .pass, table := [], waiting := [],
               stream := [], run := 0, readErrors := 0, reservedCount := 0, upOut := [],
               downOut := [] } ∧
    t.anchorSpan = { base := straps * 16777216, size := 4096 } ∧
    t.clock = { msCount := 0, due := 0, uptime := 0, minute := 0, second := 0, holding := false,
                origin := 0 } ∧
    t.tally = { shows := List.replicate 128 Show.vacant, holds := [], expired := [],
                settings := { lead := 20, linger := 10, fillingPct := 60, almostPct := 10,
                              almostAbs := 10 },
                expiryWaiting := none, minuteWaiting := false } ∧
    t.board = { views := List.replicate 4
                  { filter := 0, horizon := 180, rows := 8, dwell := 10, linger := 30, page := 0,
                    timer := 10, list := [], tickWaiting := false },
                words := List.replicate 7 none, inbox := [], minuteWaiting := false } ∧
    t.notice = { notices := List.replicate 64 none, noticeStacks := List.replicate 12 [],
                 triggers := List.replicate 32 { state := .empty, settings := none, blocked := 0 },
                 segments := List.replicate 64 { isDefined := false, text := [] }, inbox := [],
                 tickWaiting := false } ∧
    t.patch.surfaces = List.replicate 12 Surface.vacant ∧
    t.patch.cells = List.replicate 256 none ∧
    t.patch.sets.map (fun g => g.state) = [.empty, .empty] ∧ t.patch.loader = .idle ∧
    t.patch.latePatch = 0 ∧
    t.patch.viewPages = List.replicate 4 { list := [], page := 0, rows := 8 } ∧
    t.pane.panes = List.replicate 8 Pane.vacant ∧ t.pane.flags = List.replicate 12 false ∧
    t.intake = { window := none, upper := 24, lower := 8, interval := 8, queue := [],
                 verdicts := [], issued := [], raised := false, since := 0, reannounced := 0,
                 counters := IntakeCounters.zero } ∧
    t.command = { response := { code := 0, tag := 0, status := .ok, count := 0, result := [] },
                  causes := 0, mask := 0, copyKind := none, copyIndex := 0, copyCount := 0,
                  copyBytes := [] } ∧
    t.pending = s.pending

/-- RESET_ASSERT holds the part in reset; while the input is asserted the attention output is
inactive and no command but RESET_RELEASE has an effect (R163; log entry 23). -/
def Obligations.AssertedResetHoldsThePart : Prop :=
  ∀ s : State,
    (∃ t, exec .resetAssert s = .next t ∧ t = { s with path := { s.path with resetHeld := true } } ∧
      t.attention = false) ∧
    (s.path.resetHeld = true → s.attention = false ∧
      ∀ c, (∀ straps, c ≠ .resetRelease straps) → exec c s = .next s)

/-- A millisecond tick counts within the second, makes a seconds tick due at every 1000th, and
counts every running idle timer down by one (R164, R79). A timer left at 0 expires first, which is
the model's choice (log entry 4), so none is left at 0 here. -/
def Obligations.MillisecondTickCountsDown : Prop :=
  ∀ s : State, s.path.resetHeld = false → s.clock.msCount < 1000 →
    (∀ k, (s.patch.surface k).idleTimer ≠ some 0) →
    ∃ t, exec .millisecondTick s = .next t ∧
      t = { s with
        clock := { s.clock with
          msCount := if s.clock.msCount = 999 then 0 else s.clock.msCount + 1
          due := if s.clock.msCount = 999 then s.clock.due + 1 else s.clock.due }
        patch := { s.patch with surfaces := t.patch.surfaces } } ∧
      t.patch.surfaces.length = s.patch.surfaces.length ∧
      ∀ k, t.patch.surface k =
        { s.patch.surface k with
          idleTimer := (s.patch.surface k).idleTimer.map (fun n => n - 1) }

/-- A seconds tick that is due raises uptime, advances the business clock or lets it hold with
CLOCK_HELD at 2159:59, and hands the expiry event, the tick events and a change of minute to their
units (R164, R166). No event of the tick before waits here; that one would be taken first is the
model's choice (log entry 4). -/
def Obligations.SecondsTickAdvancesTheClock : Prop :=
  ∀ s : State, s.path.resetHeld = false → 0 < s.clock.due → ClockInv s.clock →
    s.tally.expiryWaiting = none → s.tally.minuteWaiting = false →
    s.board.minuteWaiting = false → s.patch.minuteWaiting = false →
    s.notice.tickWaiting = false → (∀ v, v ∈ s.board.views → v.tickWaiting = false) →
    (∀ p, p ∈ s.pane.panes → p.tickWaiting = false) →
    ∃ t change, exec .secondsTick s = .next t ∧
      t.clock.uptime = min (s.clock.uptime + 1) 4294967295 ∧
      (change = true ↔
        s.clock.holding = false ∧ s.clock.second = 59 ∧ s.clock.minute < 2159) ∧
      (change = true → t.clock.minute = s.clock.minute + 1 ∧ t.clock.second = 0) ∧
      (change = false → t.clock.minute = s.clock.minute) ∧
      (s.clock.holding = false → s.clock.second < 59 → t.clock.second = s.clock.second + 1) ∧
      (s.clock.holding = true → t.clock.second = s.clock.second ∧ t.clock.holding = true ∧
        t.command = s.command) ∧
      (s.clock.holding = false → s.clock.second = 59 → s.clock.minute = 2159 →
        t.clock.second = 59 ∧ t.clock.holding = true ∧
        t.command = { s.command with causes := s.command.causes ||| 32#12 }) ∧
      (s.clock.second < 59 ∨ s.clock.minute < 2159 →
        t.clock.holding = s.clock.holding ∧ t.command = s.command) ∧
      t = { s with
        clock := { s.clock with
          due := s.clock.due - 1, uptime := t.clock.uptime, minute := t.clock.minute,
          second := t.clock.second, holding := t.clock.holding }
        tally := { s.tally with
          expiryWaiting := some t.clock.uptime, minuteWaiting := change }
        board := { s.board with
          views := s.board.views.map (fun v => { v with tickWaiting := true })
          minuteWaiting := change }
        notice := { s.notice with tickWaiting := true }
        patch := { s.patch with minuteWaiting := change }
        pane := { s.pane with
          panes := s.pane.panes.map (fun p => { p with tickWaiting := true }) }
        command := t.command }

/-! ### The Tally Unit's own events -/

/-- The tables of the Tally Unit: the time state by now, the effective start, B and G, which a
recomputation gives the shows that are LISTED, BOARDING or STARTED and no other; the band, the first of
its four tests that holds; the band event by the old and new bands; the state event of each state; and
the shows the Patch Unit hears of, those whose entry changed (R5, R6, R8, R9, R10, R87). A change of
minute recomputes every show in show-number order: the states of R5, the holds of closing shows lapsed,
and the state and band events of each show before those of the next (R6, R7, R8, R34). The order in
which the Patch Unit hears of the changed shows, by rising number, is the model's choice (log
entry 34). -/
def Obligations.ChangeOfMinuteRecomputesShows : Prop :=
  (∀ (g : TallySettings) (now e : Nat),
    (now + g.lead < e → timeState g now e = .listed) ∧
    (now < e → e ≤ now + g.lead → timeState g now e = .boarding) ∧
    (e ≤ now → now < e + g.linger → timeState g now e = .started) ∧
    (e + g.linger ≤ now → timeState g now e = .closed)) ∧
  (∀ (g : TallySettings) (now : Nat) (w : Show),
    (w.state = .listed ∨ w.state = .boarding ∨ w.state = .started →
      recomputed g now w = timeState g now (w.start + w.delay)) ∧
    (w.state = .closed ∨ w.state = .cancelled ∨ w.state = .empty →
      recomputed g now w = w.state)) ∧
  (∀ (g : TallySettings) (w : Show) (left : Nat),
    w.sold + w.held + w.blocked + left = w.capacity →
    (left = 0 → bandOf g w = .soldOut) ∧
    (left ≠ 0 → left * 100 ≤ w.capacity * g.almostPct ∨ left ≤ g.almostAbs →
      bandOf g w = .almost) ∧
    (left ≠ 0 → w.capacity * g.almostPct < left * 100 → g.almostAbs < left →
      (w.capacity * g.fillingPct ≤ (w.capacity - left) * 100 → bandOf g w = .filling) ∧
      ((w.capacity - left) * 100 < w.capacity * g.fillingPct → bandOf g w = .plenty))) ∧
  (∀ a b : Band,
    (a = b → bandEvent a b = none) ∧
    (a ≠ .soldOut → b = .soldOut → bandEvent a b = some .soldOut) ∧
    (a = .plenty ∨ a = .filling → b = .almost → bandEvent a b = some .almost) ∧
    (a = .plenty → b = .filling → bandEvent a b = none) ∧
    (a = .soldOut → b = .almost ∨ b = .filling ∨ b = .plenty →
      bandEvent a b = some .bandDown) ∧
    (a = .almost → b = .filling ∨ b = .plenty → bandEvent a b = some .bandDown) ∧
    (a = .filling → b = .plenty → bandEvent a b = some .bandDown)) ∧
  (stateEvent .listed = some .listed ∧ stateEvent .boarding = some .boarding ∧
    stateEvent .started = some .started ∧ stateEvent .closed = some .closed ∧
    stateEvent .cancelled = some .cancelled ∧ stateEvent .empty = none) ∧
  (∀ old new : List Show, (changedShows old new).Pairwise (fun a b => a < b) ∧
    ∀ n, n ∈ changedShows old new ↔
      n < 128 ∧ old.getD n Show.vacant ≠ new.getD n Show.vacant) ∧
  ∀ s : State, s.path.resetHeld = false → s.tally.minuteWaiting = true → TallyInv s.tally →
    ∃ t, exec .changeOfMinute s = .next t ∧ s.tallyFrame t ∧ t.intake = s.intake ∧
      s.tally.recomputesTo t.tally s.tally.settings s.clock.minute ∧
      t.tally.minuteWaiting = false ∧
      s.emits t (allRecomputeEvents s.tally s.tally.settings s.clock.minute)

/-- The expiry event lapses every hold that is due: its seats return, its pair joins the
expired-hold list, and the bands of the shows that lost one are recomputed in show-number order
(R32, R33, R25); the order in which the Patch Unit hears of those shows is the model's choice (log
entry 34). A pair joins the expired-hold list at its end, its older copy removed first, and then the
oldest of sixteen entries dropped (R25). -/
def Obligations.HoldExpiryReturnsSeats : Prop :=
  (∀ (l : List (Nat × Nat)) (p : Nat × Nat),
    (p ∉ l → l.length < 16 → appendExpired l p = l ++ [p]) ∧
    (∀ x rest, l = x :: rest → l.length = 16 → p ∉ l → appendExpired l p = rest ++ [p]) ∧
    (∀ a b, l = a ++ p :: b → p ∉ a → p ∉ b → l.length ≤ 16 →
      appendExpired l p = a ++ b ++ [p])) ∧
  ∀ (s : State) (v : Nat), s.path.resetHeld = false → s.tally.expiryWaiting = some v →
    TallyInv s.tally →
    ∃ t, exec .holdExpiry s = .next t ∧ s.tallyFrame t ∧ t.intake = s.intake ∧
      t.tally.shows.length = 128 ∧
      t.tally = { s.tally with
        shows := t.tally.shows
        holds := s.tally.holds.filter (fun h => v < h.expiry)
        expired := lapsedInto s.tally.expired (s.tally.holds.filter (fun h => h.expiry ≤ v))
        expiryWaiting := none } ∧
      (∀ m, (s.tally.entry m).state = .empty → t.tally.entry m = Show.vacant) ∧
      (∀ m w, (s.tally.entry m).state ≠ .empty →
        w = { s.tally.entry m with held := heldBy m t.tally.holds } →
        t.tally.entry m = { w with band := bandOf s.tally.settings w }) ∧
      s.emits t ((List.range 128).flatMap (fun m =>
        bandEvents m (s.tally.entry m).band (t.tally.entry m).band))

/-! ### The Board Unit -/

/-- BOARD_TALLY_EVENT and BOARD_MINUTE_RECOMPUTE recompute the lists of all four views; a page left
beyond its list becomes 0 with the dwell timer restarted, and every view whose list or page changed
is handed to the Patch Unit (R42, R43, R46, R53); that the changed views are handed on by rising number
is the model's choice (log entry 34). -/
def Obligations.BoardEventsRecomputeViews : Prop :=
  ∀ s : State, s.path.resetHeld = false →
    (∀ e rest, s.board.inbox = e :: rest →
      ∃ t, exec .boardTallyEvent s = .next t ∧ s.viewsRecomputed t ∧
        t.board.inbox = rest ∧ t.board.minuteWaiting = s.board.minuteWaiting) ∧
    (s.board.minuteWaiting = true →
      ∃ t, exec .boardMinuteRecompute s = .next t ∧ s.viewsRecomputed t ∧
        t.board.inbox = s.board.inbox ∧ t.board.minuteWaiting = false)

/-- The list of a view holds exactly the members of the view, each once, by effective start, then
auditorium, then show number (R41, R42). -/
def Obligations.ViewListsHoldMembersInOrder : Prop :=
  ∀ (v : BoardView) (t : TallyUnit) (now : Nat),
    (∀ m, m ∈ v.listFor t now ↔ m < 128 ∧ ∃ w, w = t.entry m ∧ w.state ≠ .empty ∧
      1 ≤ w.auditorium ∧ v.filter.getLsbD (w.auditorium - 1) = true ∧
      ((w.state = .listed ∧ w.start + w.delay ≤ now + v.horizon) ∨ w.state = .boarding ∨
        w.state = .started ∨
        (w.state = .cancelled ∧ now < w.cancelMinute.getD 0 + v.linger))) ∧
    (v.listFor t now).Pairwise (fun m n =>
      (t.entry m).start + (t.entry m).delay < (t.entry n).start + (t.entry n).delay ∨
      ((t.entry m).start + (t.entry m).delay = (t.entry n).start + (t.entry n).delay ∧
        ((t.entry m).auditorium < (t.entry n).auditorium ∨
          ((t.entry m).auditorium = (t.entry n).auditorium ∧ m < n))))

/-- A tick of a view's dwell timer counts it down; at its expiry the page advances, or wraps to 0
at the end of the list, the timer restarts, and a page that changed reaches the Patch Unit (R45). -/
def Obligations.DwellExpiryTurnsThePage : Prop :=
  ∀ (s : State) (k : Nat) (v : BoardView), s.path.resetHeld = false →
    s.board.views[k]? = some v → v.tickWaiting = true →
    ∃ t page timer, exec (.dwellExpiry k) s = .next t ∧
      (1 < v.timer → page = v.page ∧ timer = v.timer - 1) ∧
      (v.timer ≤ 1 → timer = v.dwell ∧
        (v.list.length ≤ (v.page + 1) * v.rows → page = 0) ∧
        ((v.page + 1) * v.rows < v.list.length → page = v.page + 1)) ∧
      t = { s with
        board := { s.board with
          views := s.board.views.set k
            { v with page := page, timer := timer, tickWaiting := false } }
        patch := { s.patch with
          fromBoard := s.patch.fromBoard ++ (if page = v.page then [] else [k]) } }

/-! ### The Notice Unit -/

/-- The tick event of the Notice Unit: every timer counts down by one; a TIMED notice whose timer
expires leaves, a CYCLE notice turns from SHOWN to HIDDEN and back, and leaves or turns STEADY when
its repeats are spent; a trigger whose notice leaves is armed again (R63, R64, R65, R73). That both
commands take the whole event is the model's choice (log entry 12), and so is the order of the
hand-ons of one event (log entry 31). The top notice of a surface is the first SHOWN notice of its
stack, full-screen mode a top notice of priority 7; what is handed on are the new text and flag of each
surface whose top notice, text or flag changed, once each (R58). -/
def Obligations.NoticeTimersExpire : Prop :=
  (∀ (u : NoticeUnit) (k : Nat),
    (∀ n, u.top k = some n ↔ ∃ before after, u.noticeStacks.getD k [] = before ++ n :: after ∧
      (∃ x, u.at? n = some x ∧ x.shown = true) ∧
      ∀ m x, m ∈ before → u.at? m = some x → x.shown = false) ∧
    (u.top k = none → u.topText k = [] ∧ u.isFull k = false) ∧
    (∀ n x, u.top k = some n → u.at? n = some x →
      u.topText k = x.text ∧ (u.isFull k = true ↔ x.priority = 7))) ∧
  (∀ u w : NoticeUnit, (handOns u w).Pairwise (fun a b => a.surface < b.surface) ∧
    (∀ k, topDiffers u w k = true ↔
      u.top k ≠ w.top k ∨ u.topText k ≠ w.topText k ∨ u.isFull k ≠ w.isFull k) ∧
    ∀ h, h ∈ handOns u w ↔ h.surface < 12 ∧ topDiffers u w h.surface = true ∧
      h.text = w.topText h.surface ∧ h.fullScreen = w.isFull h.surface) ∧
  ∀ (s : State) (c : Instr), s.path.resetHeld = false →
    (c = .timedNoticeExpiry ∨ c = .cyclePhaseExpiry) → s.notice.tickWaiting = true →
    NoticeInv s.notice →
    ∃ t, exec c s = .next t ∧ s.noticeFrame t ∧ t.command = s.command ∧
      t.intake = s.intake ∧
      t.notice = { s.notice with
        notices := t.notice.notices, noticeStacks := t.notice.noticeStacks, triggers := t.notice.triggers,
        tickWaiting := false } ∧
      (∀ n, s.notice.at? n = none → t.notice.at? n = none) ∧
      (∀ n x, s.notice.at? n = some x → x.timer = none → t.notice.at? n = some x) ∧
      (∀ n x j, s.notice.at? n = some x → x.timer = some j → 1 < j →
        t.notice.at? n = some { x with timer := some (j - 1) }) ∧
      (∀ n x lifetime, s.notice.at? n = some x → x.timer = some 1 → x.timing = .timed lifetime →
        t.notice.at? n = none) ∧
      (∀ n x dwell gap repeats stay, s.notice.at? n = some x → x.timer = some 1 →
        x.timing = .cycle dwell gap repeats stay →
        (x.shown = true → t.notice.at? n = some { x with shown := false, timer := some gap }) ∧
        (x.shown = false → 1 < x.remaining → t.notice.at? n =
          some { x with shown := true, timer := some dwell, remaining := x.remaining - 1 }) ∧
        (x.shown = false → x.remaining ≤ 1 → stay = false → t.notice.at? n = none) ∧
        (x.shown = false → x.remaining ≤ 1 → stay = true → t.notice.at? n =
          some { x with timing := .steady, shown := true, timer := none, remaining := 0 })) ∧
      (∀ k, t.notice.noticeStacks.getD k [] =
        (s.notice.noticeStacks.getD k []).filter (fun n => (t.notice.at? n).isSome)) ∧
      (∀ r n x, s.notice.at? n = some x → x.source = .trigger r →
        t.notice.trigger r = if (t.notice.at? n).isSome then s.notice.trigger r
          else { s.notice.trigger r with state := .armed }) ∧
      (∀ r, (s.notice.trigger r).state ≠ .spent → t.notice.trigger r = s.notice.trigger r)

/-- A tally event is tested against every trigger in order: a matching trigger whose notice ID is
free fires, builds its notice from its template and becomes SPENT; one whose ID is in use, by the
table or by a lower trigger of the same event, is blocked, counted and sets TRIGGER_BLOCKED
(R57, R71, R72); the order of the hand-ons of one event is the model's choice (log entry 31). -/
def Obligations.TallyEventsFireTriggers : Prop :=
  ∀ (s : State) (e : TallyEvent) (rest : List TallyEvent), s.path.resetHeld = false →
    s.notice.inbox = e :: rest → NoticeInv s.notice →
    ∃ t, exec .noticeTallyEvent s = .next t ∧ s.noticeFrame t ∧ t.intake = s.intake ∧
      t.notice = { s.notice with
        notices := t.notice.notices, noticeStacks := t.notice.noticeStacks, triggers := t.notice.triggers,
        inbox := rest } ∧
      (∀ r, ¬ s.notice.meets e r → t.notice.trigger r = s.notice.trigger r) ∧
      (∀ r, s.notice.fires e r →
        t.notice.trigger r = { s.notice.trigger r with state := .spent }) ∧
      (∀ r, s.notice.meets e r → ¬ s.notice.fires e r →
        t.notice.trigger r = { s.notice.trigger r with
          blocked := min ((s.notice.trigger r).blocked + 1)
            (max (s.notice.trigger r).blocked 65535) }) ∧
      (∀ r g, s.notice.fires e r → (s.notice.trigger r).settings = some g →
        t.notice.at? g.notice = some
          { source := .trigger r, priority := g.priority, screens := g.screens,
            timing := g.timing, shown := true,
            remaining := (match g.timing with
              | .cycle _ _ repeats _ => repeats
              | .steady => 0
              | .timed _ => 0),
            timer := (match g.timing with
              | .steady => none
              | .timed lifetime => some lifetime
              | .cycle dwell _ _ _ => some dwell),
            text := templateText s.board.words s.notice s.clock.origin (s.tally.entry e.showNo)
              g.template }) ∧
      (∀ n, (∀ r g, s.notice.fires e r → (s.notice.trigger r).settings = some g →
          g.notice ≠ n) → t.notice.at? n = s.notice.at? n) ∧
      (∀ k, (t.notice.noticeStacks.getD k []).filter (fun n => (s.notice.at? n).isSome) =
        s.notice.noticeStacks.getD k []) ∧
      (∀ k, (t.notice.noticeStacks.getD k []).Pairwise (fun n m =>
        (s.notice.at? n).isNone → (s.notice.at? m).isSome →
        t.notice.priorityOf m < t.notice.priorityOf n)) ∧
      NoticeInv t.notice ∧
      ((∃ r, s.notice.meets e r ∧ ¬ s.notice.fires e r) →
        t.command = { s.command with causes := s.command.causes ||| 2048#12 }) ∧
      ((∀ r, s.notice.meets e r → s.notice.fires e r) → t.command = s.command)

/-! ### Timers and hand-ons -/

/-- A tick of a pane's retry timer counts it down, and at its expiry in FALLBACK_WAIT the pane
shows again with one more retry used; the expiry of an idle timer makes an ACTIVE surface IDLE and
commits what waited into the picture of g (R122, R79, R89). -/
def Obligations.RetryAndIdleTimersExpire : Prop :=
  ∀ s : State, s.path.resetHeld = false →
    (∀ k p, s.pane.panes[k]? = some p → p.tickWaiting = true →
      ∃ t q, exec (.retryTimerExpiry k) s = .next t ∧
        t = { s with pane := { s.pane with
          panes := s.pane.panes.set k { q with tickWaiting := false } } } ∧
        (p.retryTimer = none → q = p) ∧
        (∀ n, p.retryTimer = some n → 1 < n → q = { p with retryTimer := some (n - 1) }) ∧
        (p.retryTimer = some 1 → p.display = .fallbackWait →
          q = { p with display := .showing, retryTimer := none, underrunRun := 0,
                       retriesUsed := min (p.retriesUsed + 1) 10 })) ∧
    (∀ k f, s.patch.surfaces[k]? = some f → f.state = .active → f.idleTimer = some 0 →
      ∃ t q, exec (.idleTimerExpiry k) s = .next t ∧
        t = { s with patch := { s.patch with
          surfaces := s.patch.surfaces.set k
            { f with state := .idle, idleTimer := none, current := q } } } ∧
        q.commits s.patch k f.pendingFlag)

/-- The Pane Unit takes a tally event without effect, and a full-screen flag as its copy of that
surface's flag (R8, R120). -/
def Obligations.PaneHandOnsAreTaken : Prop :=
  ∀ s : State, s.path.resetHeld = false →
    (∀ e rest, s.pane.inbox = e :: rest →
      exec .paneTallyEvent s = .next { s with pane := { s.pane with inbox := rest } }) ∧
    (∀ k flag rest, s.pane.flagInbox = (k, flag) :: rest →
      exec .paneFullscreenFlag s = .next { s with
        pane := { s.pane with flags := s.pane.flags.set k flag, flagInbox := rest } })

/-- A change the Patch Unit takes derives afresh every cell that reads it, in one event; a change of
text commits at once on an IDLE surface and waits on an ACTIVE one (R53, R58, R87, R89). A view is
taken whole, with every cell bound to it, and the cells read it as last taken, so that no screen shows
half of two pages; that the Patch Unit holds it so is the model's choice (log entry 29). -/
def Obligations.CellsFollowTheirSources : Prop :=
  ∀ s : State, s.path.resetHeld = false →
    (∀ n rest, s.patch.fromTally = n :: rest →
      ∃ t, exec (.patchSourceChange .tally) s = .next t ∧
        t = { s with patch := { s.patch with
          fromTally := rest, cells := t.patch.cells, surfaces := t.patch.surfaces } } ∧
        s.cellsFollow t (s.readsShow n) ∧ s.surfacesWait t ∧ s.idleShows t) ∧
    (∀ v rest, s.patch.fromBoard = v :: rest →
      ∃ t, exec (.patchSourceChange .board) s = .next t ∧
        t = { s with patch := { s.patch with
          fromBoard := rest, cells := t.patch.cells, surfaces := t.patch.surfaces
          viewPages := match s.board.views[v]? with
            | none => s.patch.viewPages
            | some w => s.patch.viewPages.set v
                { list := w.list, page := w.page, rows := w.rows } } } ∧
        s.cellsFollow t (readsView v) ∧ s.surfacesWait t ∧ s.idleShows t) ∧
    (∀ h rest, s.patch.fromNotice = h :: rest →
      ∃ t, exec (.patchSourceChange .notice) s = .next t ∧
        t = { s with patch := { s.patch with
          fromNotice := rest, noticeText := s.patch.noticeText.set h.surface h.text,
          cells := t.patch.cells, surfaces := t.patch.surfaces } } ∧
        s.cellsFollow t (readsNotice h.surface) ∧ s.idleShows t ∧
        (∀ k, t.patch.surface k = { s.patch.surface k with
          pendingFlag := if k = h.surface ∧ k < s.patch.surfaces.length then h.fullScreen
            else (s.patch.surface k).pendingFlag
          current := (t.patch.surface k).current }) ∧
        (∀ k, (s.patch.surface k).state ≠ .idle →
          (t.patch.surface k).current = (s.patch.surface k).current) ∧
        (h.surface < 12 → (s.patch.surface h.surface).state = .idle →
          (t.patch.surface h.surface).current.commits t.patch h.surface h.fullScreen)) ∧
    (s.patch.minuteWaiting = true →
      ∃ t, exec .clockCellUpdate s = .next t ∧
        t = { s with patch := { s.patch with
          minuteWaiting := false, cells := t.patch.cells, surfaces := t.patch.surfaces } } ∧
        s.cellsFollow t readsClock ∧ s.surfacesWait t ∧ s.idleShows t)

/-! ### Scan reads, frame starts and panes -/

/-- A read by the scan initiator at a surface's base address is a frame start: g advances, the
picture of g becomes that of g − 1, a new picture is built, the surface is ACTIVE with its idle timer
at 250, and every pane of the surface takes the frame start, which sets the causes it calls for. The
read is then tagged with the new g and sent to its own address, or, where a pane so left shows a
frame over the first line, to that frame's slot, whose outstanding count rises (R78, R79, R88, R112,
R116, R119). -/
def Obligations.FrameStartBeginsAPicture : Prop :=
  ∀ (s : State) (r : Request) (k : Nat), s.takesAtOnce r → s.scansOnly r k →
    r.addr = (s.patch.surface k).base → s.patch.surfaces.length = 12 →
    ∃ (q : Picture) (u : PaneUnit) (patch : PatchUnit) (command : CommandUnit),
      q.commits s.patch k (s.patch.surface k).pendingFlag ∧
      u = { s.pane with panes := s.pane.panes.map (fun p =>
        match p.settings with
        | none => p
        | some g => if g.surface = k then (p.frameStart g (s.pane.flag k)).pane else p) } ∧
      patch = { s.patch with
        surfaces := s.patch.surfaces.set k
          { s.patch.surface k with
            state := .active, gen := ((s.patch.surface k).gen + 1) % 256, idleTimer := some 250,
            previous := (s.patch.surface k).current, current := q } } ∧
      command = { s.command with
        causes := s.command.causes ||| causeBits (s.pane.panes.flatMap (fun p =>
          match p.settings with
          | none => []
          | some g =>
            if g.surface = k then (p.frameStart g (s.pane.flag k)).causes else [])) } ∧
      (u.redirect k 0 0 = none → exec (.upstreamRequest (some r)) s = .next { s with
        path := s.path.tracks r
          (.scan k (((s.patch.surface k).gen + 1) % 256) 0 0 none) r.addr
        patch := patch, pane := u, command := command }) ∧
      (∀ d, u.redirect k 0 0 = some d →
        (exec (.upstreamRequest (some r)) s = .next { s with
          path := s.path.tracks r
            (.scan k (((s.patch.surface k).gen + 1) % 256) 0 0 (some (d.pane, d.slot))) d.addr
          patch := patch
          pane := { u with panes := u.panes.set d.pane ((u.pane d.pane).issueRead d.slot) }
          command := command }) ∧
        s.pane.flag k = false ∧ (u.pane d.pane).display = .showing ∧
        ∃ g f, (u.pane d.pane).settings = some g ∧ g.frames k 0 0 ∧
          (u.pane d.pane).displayed = some f ∧ d.slot = f.slot ∧
          d.addr = g.slotAddress f.slot 0 0 ∧
          ((u.pane d.pane).issueRead d.slot).outstanding =
            (u.pane d.pane).outstanding.set d.slot
              ((u.pane d.pane).outstanding.getD d.slot 0 + 1)) ∧
      (∀ j g f, (u.pane j).settings = some g → g.frames k 0 0 →
        (∀ i h, (u.pane i).settings = some h → h.frames k 0 0 → i = j) →
        (u.pane j).display = .showing → s.pane.flag k = false →
        (u.pane j).displayed = some f → u.redirect k 0 0 = some {
          pane := j, slot := f.slot, addr := g.slotBase + f.slot * g.slotSize })

/-- Any other scan read is tracked with its surface's g, its row and its first pixel, and forwarded;
inside the rectangle of a SHOWING pane that is not frozen and has a displayed frame it is sent to the
frame's slot instead, and the slot's outstanding count rises (R96, R97, R112, R119, R158). -/
def Obligations.ScanReadsAreTracked : Prop :=
  ∀ (s : State) (r : Request) (k y x0 : Nat), s.takesAtOnce r → s.scansOnly r k →
    r.addr ≠ (s.patch.surface k).base →
    y = (r.addr - (s.patch.surface k).base) / (s.patch.surface k).stride →
    x0 = (r.addr - (s.patch.surface k).base) % (s.patch.surface k).stride / 4 →
    ((∀ j g, (s.pane.pane j).settings = some g → g.frames k y x0 →
        (s.pane.pane j).display ≠ .showing ∨ s.pane.flag k = true ∨
          (s.pane.pane j).displayed = none) →
      exec (.upstreamRequest (some r)) s = .next { s with
        path := s.path.tracks r (.scan k (s.patch.surface k).gen y x0 none) r.addr }) ∧
    (∀ j g f, (s.pane.pane j).settings = some g → g.frames k y x0 →
      (∀ i h, (s.pane.pane i).settings = some h → h.frames k y x0 → i = j) →
      (s.pane.pane j).display = .showing → s.pane.flag k = false →
      (s.pane.pane j).displayed = some f →
      exec (.upstreamRequest (some r)) s = .next { s with
        path := s.path.tracks r (.scan k (s.patch.surface k).gen y x0 (some (j, f.slot)))
          (g.slotBase + f.slot * g.slotSize + (y - g.py) * g.pw * 4 + (x0 - g.px) * 4)
        pane := { s.pane with panes := s.pane.panes.set j { s.pane.pane j with
          outstanding := (s.pane.pane j).outstanding.set f.slot
            ((s.pane.pane j).outstanding.getD f.slot 0 + 1) } } })

/-- A frame start at one pane: nothing while frozen; a DARK pane takes its first frame, if one is
queued; any other adds the clip rate to acc and handles the advances that fall due, however many, which
take the queue's frames and, once it is empty, count underruns while the playlist is ACTIVE, in a
fallback as well, hold the picture while it is SUSPENDED, and end the showing of a completed pass while
it is IDLE; a run of underruns at the deglitch setting starves a SHOWING pane (R115, R116, R117, R118,
R121, R122; how an advance that ends the showing counts is log entry 13). -/
def Obligations.CadencePacesFrames : Prop :=
  ∀ (p : Pane) (g : PaneSettings), PaneInv p g →
    p.frameStart g true = { pane := p, causes := [] } ∧
    (∀ f rest, p.display = .dark → p.queue = f :: rest →
      p.frameStart g false = {
        pane := { p with
          displayed := some f, queue := rest, acc := 0, display := .showing,
          flow := if rest.length ≤ g.lower then .go else p.flow,
          counters := { p.counters with shown := satInc p.counters.shown } },
        causes := [] }) ∧
    (p.display ≠ .dark → p.acc + g.clipRate < g.scanRate →
      p.frameStart g false = {
        pane := { p with
          acc := p.acc + g.clipRate, flow := if p.queue.length ≤ g.lower then .go else p.flow },
        causes := [] }) ∧
    (∀ f rest, p.display ≠ .dark → p.queue = f :: rest → g.scanRate ≤ p.acc + g.clipRate →
      p.acc + g.clipRate < 2 * g.scanRate →
      p.frameStart g false = {
        pane := { p with
          acc := p.acc + g.clipRate - g.scanRate, displayed := some f, queue := rest,
          underrunRun := 0, flow := if rest.length ≤ g.lower then .go else p.flow,
          counters := { p.counters with shown := satInc p.counters.shown } },
        causes := [] }) ∧
    (∀ f h rest, p.display ≠ .dark → p.queue = f :: h :: rest →
      2 * g.scanRate ≤ p.acc + g.clipRate → p.acc + g.clipRate < 3 * g.scanRate →
      p.frameStart g false = {
        pane := { p with
          acc := p.acc + g.clipRate - 2 * g.scanRate, displayed := some h, queue := rest,
          underrunRun := 0, flow := if rest.length ≤ g.lower then .go else p.flow,
          counters := { p.counters with
            shown := satInc p.counters.shown, skipped := satInc p.counters.skipped } },
        causes := [] }) ∧
    (p.display = .showing → p.queue = [] → p.playlist.state = .active →
      g.scanRate ≤ p.acc + g.clipRate → p.acc + g.clipRate < 2 * g.scanRate →
      ∃ q, q = { p with
          acc := p.acc + g.clipRate - g.scanRate, flow := .go,
          counters := { p.counters with underruns := satInc p.counters.underruns } } ∧
        (p.underrunRun + 1 < g.deglitch →
          p.frameStart g false =
            { pane := { q with underrunRun := p.underrunRun + 1 }, causes := [] }) ∧
        (g.deglitch ≤ p.underrunRun + 1 → ∃ z, z = { q with
            underrunRun := 0,
            counters := { q.counters with starves := satInc q.counters.starves } } ∧
          (g.starvation = .hold →
            p.frameStart g false = { pane := z, causes := [.paneStarved] }) ∧
          (g.starvation = .poster → p.frameStart g false =
            { pane := { z with display := .fallbackLatched },
              causes := [.paneStarved, .paneLatched] }) ∧
          (g.starvation = .retry →
            (∀ n, g.retryLimit = some n → p.retriesUsed < n) → p.frameStart g false =
            { pane := { z with display := .fallbackWait, retryTimer := some g.retryTime },
              causes := [.paneStarved] }) ∧
          (∀ n, g.starvation = .retry → g.retryLimit = some n → n ≤ p.retriesUsed →
            p.frameStart g false =
              { pane := { z with display := .fallbackLatched },
                causes := [.paneStarved, .paneLatched] }))) ∧
    (∀ f, p.display = .showing → p.queue = [] → p.playlist.state = .idle →
      p.displayed = some f → g.scanRate ≤ p.acc + g.clipRate →
      p.acc + g.clipRate < 2 * g.scanRate →
      p.frameStart g false = {
        pane := { p with
          acc := p.acc + g.clipRate - g.scanRate, flow := .go,
          displayed := if f.endsPass then none else some f,
          display := if f.endsPass then .dark else .showing },
        causes := [] }) ∧
    (p.display = .dark → p.queue = [] → p.frameStart g false = { pane := p, causes := [] }) ∧
    ∀ n b, p.display ≠ .dark → n = (p.acc + g.clipRate) / g.scanRate → b = p.advancedBy g n →
      (n ≤ p.queue.length → p.frameStart g false = { pane := b, causes := [] }) ∧
      (p.queue.length < n →
        (p.playlist.state = .suspended → p.frameStart g false = { pane := b, causes := [] }) ∧
        (p.playlist.state = .idle →
          (p.display ≠ .showing ∨ ∀ f, b.displayed = some f → f.endsPass = false) →
          p.frameStart g false = { pane := b, causes := [] }) ∧
        (∀ f, p.playlist.state = .idle → p.display = .showing → b.displayed = some f →
          f.endsPass = true → p.frameStart g false = {
            pane := { b with
              displayed := none, display := .dark
              counters := { b.counters with shown := p.counters.shown } },
            causes := [] }) ∧
        (p.playlist.state = .active → ∃ c, c = { b with
            counters := { b.counters with
              underruns := satAdd p.counters.underruns (n - p.queue.length) } } ∧
          (p.display ≠ .showing → p.frameStart g false = { pane := c, causes := [] }) ∧
          (p.display = .showing → b.underrunRun + (n - p.queue.length) < g.deglitch →
            p.frameStart g false = {
              pane := { c with underrunRun := b.underrunRun + (n - p.queue.length) },
              causes := [] }) ∧
          (p.display = .showing → g.deglitch ≤ b.underrunRun + (n - p.queue.length) →
            ∃ z, z = { c with
                underrunRun := 0
                counters := { c.counters with starves := satInc p.counters.starves } } ∧
              (g.starvation = .hold →
                p.frameStart g false = { pane := z, causes := [.paneStarved] }) ∧
              ((g.starvation = .poster ∨ ∃ m, g.starvation = .retry ∧
                  g.retryLimit = some m ∧ m ≤ p.retriesUsed) →
                p.frameStart g false =
                  { pane := { z with display := .fallbackLatched },
                    causes := [.paneStarved, .paneLatched] }) ∧
              (g.starvation = .retry → (∀ m, g.retryLimit = some m → p.retriesUsed < m) →
                p.frameStart g false = {
                  pane := { z with display := .fallbackWait, retryTimer := some g.retryTime },
                  causes := [.paneStarved] }))))

/-- A taken LAST marker moves the cue: to the next pass, or at the last pass to what follows the
entry: a named successor if it is valid, a stop, a suspension, or the first ordered candidate that is
not skipped; the sixteenth skip suspends (R131, R132, R133). -/
def Obligations.CueAdvanceChoosesTheNextClip : Prop :=
  ∀ (t : TallyUnit) (l : Playlist) (e : Nat), l.cueEntry = some e →
    (l.pass < (l.entry e).repeats → l.advanceCue t = {
      list := { l with
        pass := l.pass + 1, generation := (l.generation + 1) % 256, resumeRequest := false },
      stopped := false }) ∧
    ((l.entry e).repeats ≤ l.pass →
      (∀ n, l.startRequest = some n → (l.entry n).valid = true → l.advanceCue t = {
        list := { l with
          state := .active, cueEntry := some n, pass := 1, generation := (l.generation + 1) % 256,
          startRequest := none, resumeRequest := false },
        stopped := false }) ∧
      (∀ n, l.startRequest = some n → (l.entry n).valid = false →
        l.advanceCue t = { list := l.stop, stopped := true }) ∧
      (l.startRequest = none → (l.entry e).endOfList = true →
        l.advanceCue t = { list := l.stop, stopped := true }) ∧
      (l.startRequest = none → (l.entry e).endOfList = false → (l.entry e).suspends = true →
        l.resumeRequest = false → l.advanceCue t = {
          list := { l with
            state := .suspended,
            successor := some (if (l.entry e).loops then 0 else e + 1) },
          stopped := true }) ∧
      (l.startRequest = none → (l.entry e).endOfList = false →
        ((l.entry e).suspends = false ∨ l.resumeRequest = true) →
        (∃ c, l.reaches t (if (l.entry e).loops then 0 else e + 1) c ∧
          ((16 ≤ c ∨ (l.entry c).valid = false) ∧
            l.advanceCue t = { list := l.stop, stopped := true } ∨
          (c < 16 ∧ (l.entry c).valid = true ∧ ¬ (l.entry c).passedOver t) ∧
            l.advanceCue t = {
              list := { l with
                state := .active, cueEntry := some c, pass := 1,
                generation := (l.generation + 1) % 256, resumeRequest := false },
              stopped := false })) ∨
        ∃ c, l.reachesBy t 16 (if (l.entry e).loops then 0 else e + 1) c ∧
          l.advanceCue t = {
            list := { l with
              state := .suspended, successor := some c, resumeRequest := false },
            stopped := true }))

/-! ### The memory path -/

/-- Traffic the part has no business with passes unchanged: any request in PASS mode outside the
anchor page, in ENABLED mode a read that is neither a cue nor a scan read and a write outside the
intake window and the marker lines, in every mode a read of the anchor line 0 or of the lines 8 to 63
and a write of the lines 1 to 63, and a response that is neither the part's own nor that of a tracked
read. A request under a reserved number is answered with an error and counted. While the table is full
requests wait, and once it has room the oldest is taken first, whether or not a new one is offered,
with the effect it has when it is taken the moment it is offered, plain, tracked or handed to a unit;
the others go on waiting (R155, R156, R157, R159, R170). -/
def Obligations.PlainTrafficPassesUnchanged : Prop :=
  (∀ (s : State) (r : Request), s.takesAtOnce r → s.path.mode = .pass →
    s.anchorSpan.holds r.addr = false →
    exec (.upstreamRequest (some r)) s =
      .next { s with path := { s.path with stream := s.path.stream ++ [r] } }) ∧
  (∀ (s : State) (r : Request) (line : Nat) (enables : BitVec 64) (data : Line),
    s.takesAtOnce r → 1 ≤ line → line ≤ 7 → r.access = .write enables data →
    r.addr = s.anchorSpan.base + 64 * line →
    exec (.anchorLineWrite line r.initiator r.txn enables data) s =
      .next { s with path := { s.path with stream := s.path.stream ++ [r] } }) ∧
  (∀ (s : State) (r : Response), s.path.resetHeld = false → (r.txn < 64 ∨ 80 ≤ r.txn) →
    (∀ e, e ∈ s.path.table → ¬ (e.initiator = r.initiator ∧ e.txn = r.txn)) →
    exec (.downstreamResponse r) s =
      .next { s with path := { s.path with upOut := s.path.upOut ++ [r] } }) ∧
  (∀ (s : State) (r : Request), s.path.resetHeld = false → s.path.waiting = [] →
    s.path.table.length < 64 → 64 ≤ r.txn →
    exec (.upstreamRequest (some r)) s =
      .next { s with path := { s.path with
        reservedCount := satInc s.path.reservedCount
        upOut := s.path.upOut ++
          [{ initiator := r.initiator, txn := r.txn, reply := .error }] } }) ∧
  (∀ (s : State) (r : Request), s.path.resetHeld = false → 64 ≤ s.path.table.length →
    exec (.upstreamRequest (some r)) s =
      .next { s with path := { s.path with waiting := s.path.waiting ++ [r] } }) ∧
  (∀ (s : State) (r : Request), s.takesAtOnce r → s.plain r →
    exec (.upstreamRequest (some r)) s =
      .next { s with path := { s.path with stream := s.path.stream ++ [r] } }) ∧
  (∀ (s : State) (offer : Option Request) (r : Request) (rest : List Request),
    s.path.resetHeld = false → s.path.waiting ++ offer.toList = r :: rest →
    s.path.table.length < 64 →
    (r.txn < 64 → (∀ e, e ∈ s.path.table → ¬ (e.initiator = r.initiator ∧ e.txn = r.txn)) →
      s.plain r → exec (.upstreamRequest offer) s = .next { s with
        path := { s.path with waiting := rest, stream := s.path.stream ++ [r] } }) ∧
    (64 ≤ r.txn → exec (.upstreamRequest offer) s = .next { s with
      path := { s.path with
        waiting := rest, reservedCount := satInc s.path.reservedCount
        upOut := s.path.upOut ++
          [{ initiator := r.initiator, txn := r.txn, reply := .error }] } })) ∧
  (∀ (s : State) (offer : Option Request) (r : Request) (rest : List Request),
    (s.awaiting []).takesAtOnce r → s.path.waiting ++ offer.toList = r :: rest →
    ∃ t, exec (.upstreamRequest (some r)) (s.awaiting []) = .next t ∧
      exec (.upstreamRequest offer) s = .next (t.awaiting rest)) ∧
  (∀ (s : State) (offer : Option Request), s.path.resetHeld = false →
    (s.path.waiting ++ offer.toList = [] ∨ 64 ≤ s.path.table.length) →
    exec (.upstreamRequest offer) s =
      .next { s with path := { s.path with waiting := s.path.waiting ++ offer.toList } })

/-- A read of one of the anchor lines 1 to 7 is tracked in every mode and forwarded, and its data is
replaced by the part's own contents as they stand at the return: the response, the two status lines
or a quarter of the inspect area, byte by byte a line of 64 bytes (R157, R158, R170, R172, R177, R178,
R181). A read of the cue line of a configured pane in ENABLED mode, by whatever initiator, is tracked as
a cue read of that pane and forwarded to its own address (R124, R157). -/
def Obligations.AnchorReadsReturnThePart : Prop :=
  (∀ (s : State) (r : Request) (k : Nat), s.takesAtOnce r → s.cuesOnly r k →
    exec (.upstreamRequest (some r)) s =
      .next { s with path := s.path.tracks r (.cue k) r.addr }) ∧
  (∀ (s : State) (r : Request) (line : Nat), s.takesAtOnce r → 1 ≤ line → line ≤ 7 →
    r.access = .read → r.addr = s.anchorSpan.base + 64 * line →
    exec (.upstreamRequest (some r)) s =
      .next { s with path := s.path.tracks r (.anchor line) r.addr }) ∧
  (∀ (s : State) (e : InFlight) (line : Nat) (data : Line), s.path.resetHeld = false →
    PathInv s.path → e ∈ s.path.table → e.tracked = .anchor line →
    exec (.downstreamResponse { initiator := e.initiator, txn := e.txn, reply := .data data }) s =
      .next { s with path := s.path.answers e (.data (anchorLine s line)) }) ∧
  (∀ (s : State) (line : Nat), 1 ≤ line → line ≤ 7 → (anchorLine s line).length = 64) ∧
  (∀ s : State, s.command.response.result.length ≤ 8 →
    (anchorLine s 1).take 12 =
      byte (s.command.response.code % 256) :: byte (s.command.response.tag % 256) ::
        byte s.command.response.status.code :: byte (s.command.response.count % 256) ::
        (s.command.response.result ++ List.replicate (8 - s.command.response.result.length) 0) ∧
    (anchorLine s 1).drop 12 = List.replicate 52 0) ∧
  (∀ s : State, anchorLine s 2 =
    [byte s.path.mode.code, byte (if s.clock.holding = true then 1 else 0),
      byte (match s.patch.loader with
        | .idle => 0
        | .busy _ => 1
        | .draining _ => 2),
      byte (s.patch.setState 0).code, byte (s.patch.setState 1).code] ++
    leBytes 2 s.command.causes.toNat ++ leBytes 2 s.command.mask.toNat ++
    leBytes 2 s.clock.minute ++ [byte (s.clock.second % 256)] ++ leBytes 2 s.clock.origin ++
    leBytes 4 s.clock.uptime ++ leBytes 2 s.patch.latePatch ++ leBytes 2 s.path.readErrors ++
    leBytes 2 s.path.reservedCount ++ List.replicate 40 0) ∧
  (∀ s : State, anchorLine s 3 =
    [byte (s.intake.queue.length % 256), byte (if s.intake.raised = true then 1 else 0),
      byte (s.intake.verdicts.length % 256), byte (s.intake.issued.length % 256)] ++
    leBytes 2 s.intake.reannounced ++ leBytes 2 s.intake.counters.taken ++
    leBytes 2 s.intake.counters.done ++ leBytes 2 s.intake.counters.refused ++
    leBytes 2 s.intake.counters.superseded ++ leBytes 2 s.intake.counters.missed ++
    leBytes 2 s.intake.counters.partials ++ leBytes 2 s.intake.counters.written ++
    leBytes 2 s.intake.counters.lost ++ List.replicate 42 0) ∧
  (∀ (s : State) (line : Nat), 4 ≤ line → line ≤ 7 → s.command.copyBytes.length ≤ 252 →
    anchorLine s line =
      (([byte ((match s.command.copyKind with
          | none => 255
          | some kind => kind) % 256)] ++ leBytes 2 s.command.copyIndex ++
        [byte (s.command.copyCount % 256)] ++ s.command.copyBytes ++
        List.replicate (252 - s.command.copyBytes.length) 0).drop (64 * (line - 4))).take 64)

/-- The response to a tracked scan or cue read: data under g or g − 1 is patched with that
generation's picture, under any other it returns as it came, counted and with LATE_PATCH; a cue read
returns the pane's cue contents; an error is passed up unchanged, counted and with READ_ERROR; each
frees the entry and returns a redirected read to its slot. The cue contents are spelled out byte by
byte. SLOT_FREE is the response that leaves a
released slot with no read outstanding, taken as that response (R99, R100, R112, R119, R124, R125,
R139, R158, R160, R181; that SLOT_FREE is that response is the model's choice, log entry 15). -/
def Obligations.TrackedReadsReturn : Prop :=
  (∀ (p : Pane) (g : PaneSettings), ∃ places, p.cueLine g =
      [byte p.display.code, byte p.playlist.state.code] ++
      (match p.playlist.cueEntry with
        | none => [255, 0, 0, 0]
        | some e => [byte (e % 256)] ++ leBytes 2 (p.playlist.entry e).clip ++
            [byte (p.playlist.pass % 256)]) ++
      [byte (p.playlist.generation % 256),
        (match p.displayed with
          | none => 255
          | some f => byte (f.slot % 256)),
        byte places, byte p.flow.code, byte (p.queue.length % 256), byte p.verdict.code,
        byte (p.retriesUsed % 256)] ++
      leBytes 2 p.counters.taken ++ leBytes 2 p.counters.refused ++
      leBytes 2 p.counters.shown ++ leBytes 2 p.counters.skipped ++
      leBytes 2 p.counters.underruns ++ leBytes 2 p.counters.starves ++ List.replicate 39 0 ∧
    places < 256 ∧ ∀ i, i < 8 → (places.testBit i = true ↔
      i < g.slotCount ∧ (∀ f, p.displayed = some f → f.slot ≠ i) ∧
      (∀ f, f ∈ p.queue → f.slot ≠ i) ∧ p.outstanding.getD i 0 = 0)) ∧
  ∀ (s : State) (e : InFlight), s.path.resetHeld = false → PathInv s.path → e ∈ s.path.table →
    (∀ k gen y x0 d data f, e.tracked = .scan k gen y x0 d → f = s.patch.surface k →
      (gen = f.gen →
        exec (.downstreamResponse { initiator := e.initiator, txn := e.txn, reply := .data data })
          s = .next { s with
            path := s.path.answers e (.data (s.patch.patchLine f f.current y x0 data))
            pane := s.pane.returned d }) ∧
      (gen ≠ f.gen → gen = (f.gen + 255) % 256 →
        exec (.downstreamResponse { initiator := e.initiator, txn := e.txn, reply := .data data })
          s = .next { s with
            path := s.path.answers e (.data (s.patch.patchLine f f.previous y x0 data))
            pane := s.pane.returned d }) ∧
      (gen ≠ f.gen → gen ≠ (f.gen + 255) % 256 →
        exec (.downstreamResponse { initiator := e.initiator, txn := e.txn, reply := .data data })
          s = .next { s with
            path := s.path.answers e (.data data)
            pane := s.pane.returned d
            patch := { s.patch with latePatch := satInc s.patch.latePatch }
            command := { s.command with causes := s.command.causes ||| 512#12 } })) ∧
    (∀ k g data, e.tracked = .cue k → (s.pane.pane k).settings = some g →
      exec (.downstreamResponse { initiator := e.initiator, txn := e.txn, reply := .data data })
        s = .next { s with
          path := s.path.answers e (.data ((s.pane.pane k).cueLine g)) }) ∧
    (∃ d, ((∃ k gen y x0, e.tracked = .scan k gen y x0 d) ∨
        ((∀ k gen y x0 d', e.tracked ≠ .scan k gen y x0 d') ∧ d = none)) ∧
      exec (.downstreamResponse { initiator := e.initiator, txn := e.txn, reply := .error }) s =
        .next { s with
          path := { s.path.answers e .error with readErrors := satInc s.path.readErrors }
          pane := s.pane.returned d
          command := { s.command with causes := s.command.causes ||| 1024#12 } }) ∧
    (∀ k gen y x0 j slot data, e.tracked = .scan k gen y x0 (some (j, slot)) →
      (∀ f, (s.pane.pane j).displayed = some f → f.slot ≠ slot) →
      (∀ f, f ∈ (s.pane.pane j).queue → f.slot ≠ slot) →
      (s.pane.pane j).outstanding.getD slot 0 = 1 →
      ∃ t, exec (.slotFree { initiator := e.initiator, txn := e.txn, reply := .data data }) s =
          .next t ∧
        exec (.downstreamResponse
          { initiator := e.initiator, txn := e.txn, reply := .data data }) s = .next t ∧
        (t.pane.pane j).isFree slot = true)

/-- The response to a verdict write takes it off the issued list: acknowledged it counts WRITTEN,
answered with an error it counts LOST and sets VERDICT_LOST, and a cancelled one counts nothing; a
response on a number not in use is discarded (R149, R160, R161). -/
def Obligations.VerdictResponsesAreCounted : Prop :=
  ∀ s : State, s.path.resetHeld = false → IntakeInv s.intake →
    (∀ (w : IssuedWrite) (initiator : Nat) (rest : List IssuedWrite), w ∈ s.intake.issued →
      rest = s.intake.issued.filter (fun x => x.txn != w.txn) →
      (w.cancelled = true → ∀ reply, reply = .ack ∨ reply = .error →
        exec (.downstreamResponse { initiator := initiator, txn := w.txn, reply := reply }) s =
          .next { s with intake := { s.intake with issued := rest } }) ∧
      (w.cancelled = false →
        exec (.downstreamResponse { initiator := initiator, txn := w.txn, reply := .ack }) s =
          .next { s with intake := { s.intake with
            issued := rest
            counters := { s.intake.counters with
              written := satInc s.intake.counters.written } } } ∧
        exec (.downstreamResponse { initiator := initiator, txn := w.txn, reply := .error }) s =
          .next { s with
            intake := { s.intake with
              issued := rest
              counters := { s.intake.counters with lost := satInc s.intake.counters.lost } }
            command := { s.command with causes := s.command.causes ||| 16#12 } })) ∧
    (∀ r : Response, 64 ≤ r.txn → r.txn < 68 → (∀ w, w ∈ s.intake.issued → w.txn ≠ r.txn) →
      exec (.downstreamResponse r) s = .next s)

/-- A line returned to the glyph loader is written at its place of the set and nowhere else, the
bytes staying in canonical form; an error marks the load and leaves that place as it was; while
draining a response is discarded (R92, R93, R160, R161). -/
def Obligations.GlyphLinesAreWritten : Prop :=
  ∀ s : State, s.path.resetHeld = false → GlyphInv s.patch →
    (∀ (l : Load) (txn line initiator : Nat) (data : Line), s.patch.loader = .busy l →
      (txn, line) ∈ l.outstanding → data.length = 64 →
      (∃ t, exec (.downstreamResponse
            { initiator := initiator, txn := txn, reply := .data data }) s = .next t ∧
        t = { s with patch := { s.patch with
          sets := t.patch.sets
          loader := .busy { l with
            outstanding := l.outstanding.filter (fun x => x.1 != txn) } } } ∧
        (∀ k, (t.patch.set k).state = (s.patch.set k).state) ∧
        (∀ k a, k ≠ l.set → readByte (t.patch.set k).bytes a = readByte (s.patch.set k).bytes a) ∧
        (∀ i, i < 64 → readByte (t.patch.set l.set).bytes (64 * line + i) = data.getD i 0) ∧
        (∀ a, a < 64 * line ∨ 64 * line + 64 ≤ a →
          readByte (t.patch.set l.set).bytes a = readByte (s.patch.set l.set).bytes a) ∧
        ∀ k, Memory.wf (t.patch.set k).bytes = true) ∧
      exec (.downstreamResponse { initiator := initiator, txn := txn, reply := .error }) s =
        .next { s with patch := { s.patch with
          loader := .busy { l with
            outstanding := l.outstanding.filter (fun x => x.1 != txn), failed := true } } }) ∧
    (∀ (l : List Nat) (txn initiator : Nat) (reply : Reply), s.patch.loader = .draining l →
      txn ∈ l → 68 ≤ txn → txn < 80 → reply ≠ .ack →
      exec (.downstreamResponse { initiator := initiator, txn := txn, reply := reply }) s =
        .next { s with patch := { s.patch with
          loader := .draining (l.filter (fun x => x != txn)) } })

/-- The arbiter's four rows: the pass-through stream alone, the stream over own requests while the
run is below 8, and an own request at a run of 8 or with the stream empty; the verdict writer comes
before the glyph loader, and each uses a free number of its own, which the grant may name (R149, R161,
R162; that the grant names it is log entry 7, that bytes 0 to 57 of a verdict write, which are not
enabled, are driven 0 is log entry 33, and that R162 is followed where it grants a verdict before a
rewrite of its line that was not taken and that R150 has it land over is log entry 38). -/
def Obligations.ArbiterSharesThePort : Prop :=
  ∀ (s : State) (own : Nat), s.path.resetHeld = false →
    (∀ r rest, s.path.stream = r :: rest → ¬ s.ownRequest →
      exec (.downstreamGrant own) s = .next { s with path := { s.path with
        stream := rest, run := 0, downOut := s.path.downOut ++ [r] } }) ∧
    (∀ r rest, s.path.stream = r :: rest → s.ownRequest → s.path.run < 8 →
      exec (.downstreamGrant own) s = .next { s with path := { s.path with
        stream := rest, run := s.path.run + 1, downOut := s.path.downOut ++ [r] } }) ∧
    (∀ v rest, (s.path.stream = [] ∨ s.path.run = 8) → IntakeInv s.intake →
      s.intake.verdicts = v :: rest → s.intake.issued.length < 4 →
      ∃ txn, 64 ≤ txn ∧ txn < 68 ∧ (∀ w, w ∈ s.intake.issued → w.txn ≠ txn) ∧
        (64 ≤ own → own < 68 → (∀ w, w ∈ s.intake.issued → w.txn ≠ own) → txn = own) ∧
        exec (.downstreamGrant own) s = .next { s with
          path := { s.path with
            run := 0
            downOut := s.path.downOut ++ [{
              addr := v.addr, initiator := 0, txn := txn,
              access := .write 0xFC00000000000000#64
                (List.replicate 58 0 ++ byte (if v.reason = .none then 2 else 3) ::
                  byte v.reason.code :: byte (v.left % 256) :: byte (v.left / 256 % 256) ::
                  byte v.state.code :: [byte v.band.code]) }] }
          intake := { s.intake with
            verdicts := rest
            issued := s.intake.issued ++
              [{ txn := txn, verdict := v, cancelled := false }] } }) ∧
    (∀ l, (s.path.stream = [] ∨ s.path.run = 8) → GlyphInv s.patch →
      (s.intake.verdicts = [] ∨ 4 ≤ s.intake.issued.length) → s.patch.loader = .busy l →
      l.next < 576 → l.outstanding.length < 12 →
      ∃ txn, 68 ≤ txn ∧ txn < 80 ∧ (∀ x, x ∈ l.outstanding → x.1 ≠ txn) ∧
        (68 ≤ own → own < 80 → (∀ x, x ∈ l.outstanding → x.1 ≠ own) → txn = own) ∧
        exec (.downstreamGrant own) s = .next { s with
          path := { s.path with
            run := 0
            downOut := s.path.downOut ++ [{
              addr := l.source + 64 * l.next, initiator := 0, txn := txn, access := .read }] }
          patch := { s.patch with loader := .busy { l with
            next := l.next + 1, outstanding := l.outstanding ++ [(txn, l.next)] } } })

/-- A write to the command line is judged by the four tests in order: a partial write is BAD_FRAME
under code and tag 0, a wrong sum BAD_CHECK, an unknown code BAD_CODE, and otherwise the command the
line spells has its effect; the write is forwarded in every case (R157, R170, R171, R172). The
ones-complement sum of words adds them with each carry put back in: it is 65,535 exactly when the words
add up to a multiple of 65,535 other than 0. -/
def Obligations.CommandLineIsTested : Prop :=
  (∀ (data : Line) (n total : Nat),
    total = ((List.range n).map
      (fun i => byteAt data (2 * i) + 256 * byteAt data (2 * i + 1))).sum →
    (onesSum data n = 65535 ↔ 0 < total ∧ total % 65535 = 0)) ∧
  ∀ (s : State) (r : Request) (enables : BitVec 64) (data : Line), s.takesAtOnce r →
    r.access = .write enables data → r.addr = s.anchorSpan.base →
    ∃ t u, exec (.upstreamRequest (some r)) s = .next t ∧
      t = { u with path := { u.path with stream := u.path.stream ++ [r] } } ∧
      (enables ≠ BitVec.allOnes 64 → u = { s with command := { s.command with
        response := s.responseTo 0 0 .badFrame [] } }) ∧
      (enables = BitVec.allOnes 64 → onesSum data 32 ≠ 65535 →
        u = { s with command := { s.command with
          response := s.responseTo (byteAt data 0) (byteAt data 1) .badCheck [] } }) ∧
      (enables = BitVec.allOnes 64 → onesSum data 32 = 65535 →
        (byteAt data 0 = 0 ∨ 24 < byteAt data 0) →
        u = { s with command := { s.command with
          response := s.responseTo (byteAt data 0) (byteAt data 1) .badCode [] } }) ∧
      (enables = BitVec.allOnes 64 → onesSum data 32 = 65535 → 1 ≤ byteAt data 0 →
        byteAt data 0 ≤ 24 →
        ∃ c, decodeCommand data = some c ∧ commandCode c = some (byteAt data 0) ∧
          exec c s = .next u)

/-! ### Glyph loads -/

/-- LOAD_GLYPHS puts the set in LOADING and drops its VALID record from both pictures of every
surface; the completion of the load makes it VALID exactly when no read failed and the sum is the
expected one, else BAD, with LOAD_DONE and GLYPH_BAD; a draining loader with nothing outstanding
becomes idle (R91, R92, R93). That completion and draining end are events of their own after the
last response is the table's (log entry 26). -/
def Obligations.GlyphLoadRuns : Prop :=
  ∀ s : State, s.path.resetHeld = false →
    (∀ tag set source sum, set ≤ 1 → source % 64 = 0 → source + 36864 ≤ 1099511627776 →
      s.patch.loader = .idle → s.patch.sets.length = 2 →
      ∃ t, exec (.loadGlyphs tag set source sum) s = .next t ∧
        t = { s with
          patch := { s.patch with
            sets := t.patch.sets, surfaces := t.patch.surfaces
            loader := .busy { set := set, source := source, sum := sum, next := 0,
                              outstanding := [], failed := false } }
          command := { s.command with response := s.responseTo 12 tag .ok [] } } ∧
        (∀ k, t.patch.set k = if k = set then { s.patch.set k with state := .loading }
          else s.patch.set k) ∧
        ∀ k q, t.patch.surface k = { s.patch.surface k with
            current := (t.patch.surface k).current, previous := (t.patch.surface k).previous } ∧
          ((q = (s.patch.surface k).current → (t.patch.surface k).current = { q with
              valid0 := q.valid0 && decide (set = 1), valid1 := q.valid1 && decide (set = 0) }) ∧
            (q = (s.patch.surface k).previous → (t.patch.surface k).previous = { q with
              valid0 := q.valid0 && decide (set = 1), valid1 := q.valid1 && decide (set = 0) }))) ∧
    (∀ l, s.patch.loader = .busy l → l.next = 576 → l.outstanding = [] → l.set ≤ 1 →
      s.patch.sets.length = 2 →
      ∃ t good, exec .loadDone s = .next t ∧
        (good = true ↔
          l.failed = false ∧ glyphSum (s.patch.set l.set).bytes 18432 = l.sum) ∧
        t = { s with
          patch := { s.patch with
            sets := t.patch.sets, surfaces := t.patch.surfaces, loader := .idle }
          command := { s.command with
            causes := s.command.causes ||| (if good = true then 1#12 else 3#12) } } ∧
        (∀ k, t.patch.set k = if k = l.set then
            { s.patch.set k with state := if good = true then .valid else .bad }
          else s.patch.set k) ∧
        ∀ k, ((s.patch.surface k).state ≠ .idle → t.patch.surface k = s.patch.surface k) ∧
          ((s.patch.surface k).state = .idle → k < 12 →
            t.patch.surface k = { s.patch.surface k with
              current := (t.patch.surface k).current } ∧
            (t.patch.surface k).current.commits t.patch k
              (s.patch.surface k).pendingFlag)) ∧
    (s.patch.loader = .draining [] → exec .loaderDrainEnd s =
      .next { s with patch := { s.patch with loader := .idle } })

/-! ### Intake and markers -/

/-- A write to an intake line in ENABLED mode is forwarded and sorted: a partial write is counted
PARTIAL, one that is not POSTED is ignored, a POSTED one is taken where the queue has room or holds a
record of the line, superseding that record and losing the line's verdicts, and is otherwise missed;
back-pressure is raised at the upper mark and announced again at every N-th taking (R142, R143,
R144, R145, R146, R150; that N or more takings announce is log entry 24, and that a superseding taking
after a SET_INTAKE is judged by the new marks is log entry 32). -/
def Obligations.IntakeWritesAreSorted : Prop :=
  ∀ (s : State) (r : Request) (enables : BitVec 64) (data : Line) (base length : Nat),
    s.writesOutside r enables data → s.intake.window = some (base, length) →
    base ≤ r.addr → r.addr < base + 64 * length →
    ∃ t, exec (.upstreamRequest (some r)) s = .next t ∧
      t = { s with
        path := { s.path with stream := s.path.stream ++ [r] }, intake := t.intake,
        command := { s.command with causes := t.command.causes } } ∧
      (enables ≠ BitVec.allOnes 64 → t.command.causes = s.command.causes ∧
        t.intake = { s.intake with counters := { s.intake.counters with
          partials := satInc s.intake.counters.partials } }) ∧
      (enables = BitVec.allOnes 64 → byteAt data 58 ≠ 1 → t.command = s.command ∧
        t.intake = s.intake) ∧
      (enables = BitVec.allOnes 64 → byteAt data 58 = 1 → 32 ≤ s.intake.queue.length →
        (∀ q, q ∈ s.intake.queue → q.addr ≠ r.addr) → ∃ u, u = s.intake.verdictsLost r.addr ∧
        t.intake = { u with counters := { u.counters with
          missed := satInc s.intake.counters.missed } } ∧
        t.command.causes = s.command.causes ||| 8#12 |||
          (if s.intake.losses r.addr = 0 then 0#12 else 16#12)) ∧
      (enables = BitVec.allOnes 64 → byteAt data 58 = 1 →
        (s.intake.queue.length < 32 ∨ ∃ q, q ∈ s.intake.queue ∧ q.addr = r.addr) →
        ∃ u queue again full, u = s.intake.verdictsLost r.addr ∧
          queue = s.intake.queue.filter (fun q => q.addr != r.addr) ++
            [{ addr := r.addr, data := data.take 58 }] ∧
          (again = true ↔ s.intake.raised = true ∧ s.intake.interval ≤ s.intake.since + 1) ∧
          (full = true ↔ s.intake.raised = false ∧ s.intake.upper ≤ queue.length) ∧
          t.intake = { u with
            queue := queue
            counters := { u.counters with
              taken := satInc s.intake.counters.taken
              superseded := if s.intake.queue.any (fun q => q.addr == r.addr)
                then satInc s.intake.counters.superseded else s.intake.counters.superseded }
            raised := s.intake.raised || full
            since := if again = true ∨ full = true then 0
              else if s.intake.raised = true then s.intake.since + 1 else s.intake.since
            reannounced := if again = true then satInc s.intake.reannounced
              else s.intake.reannounced } ∧
          t.command.causes = s.command.causes |||
            (if s.intake.losses r.addr = 0 then 0#12 else 16#12) |||
            (if again = true ∨ full = true then 4#12 else 0#12))

/-- A write to a configured pane's marker line in ENABLED mode is forwarded and judged: a marker that
fails a test of R113 changes the verdict and the refused counter alone, with the verdict of the first
test that fails; a marker that passes is taken, its slot joining the queue, flow becoming WAIT at the
upper mark, and a LAST marker advancing the cue (R113, R114, R115, R131, R139). -/
def Obligations.MarkersAreTaken : Prop :=
  ∀ (s : State) (r : Request) (enables : BitVec 64) (data : Line) (k : Nat) (p : Pane)
    (g : PaneSettings),
    s.writesOutside r enables data → s.intake.covers r.addr = false →
    s.pane.panes[k]? = some p → p.settings = some g → g.marker = r.addr →
    (∀ j h, (s.pane.pane j).settings = some h → h.marker = r.addr → j = k) →
    ∃ t q, exec (.upstreamRequest (some r)) s = .next t ∧
      t = { s with
        path := { s.path with stream := s.path.stream ++ [r] }
        pane := { s.pane with panes := s.pane.panes.set k q }
        command := { s.command with causes := t.command.causes } } ∧
      (¬ p.accepts g enables data → t.command = s.command ∧ ∃ verdict, q = { p with
          verdict := verdict
          counters := { p.counters with refused := satInc p.counters.refused } } ∧
        (enables ≠ BitVec.allOnes 64 → verdict = .badFrame) ∧
        (enables = BitVec.allOnes 64 → onesSum data 32 ≠ 65535 → verdict = .badCheck) ∧
        (enables = BitVec.allOnes 64 → onesSum data 32 = 65535 →
          (p.playlist.state ≠ .active ∨ byteAt data 1 ≠ p.playlist.generation) →
          verdict = .stale) ∧
        (enables = BitVec.allOnes 64 → onesSum data 32 = 65535 → p.playlist.state = .active →
          byteAt data 1 = p.playlist.generation → verdict = .slotConflict)) ∧
      (p.accepts g enables data → ∃ z, z = { p with
          queue := p.queue ++ [{ slot := byteAt data 0, endsPass := byteAt data 4 % 2 == 1 }]
          flow := if g.upper ≤ p.queue.length + 1 then .wait else p.flow
          verdict := .taken
          counters := { p.counters with taken := satInc p.counters.taken } } ∧
        (byteAt data 4 % 2 = 0 → q = z ∧ t.command = s.command) ∧
        (byteAt data 4 % 2 = 1 →
          q = { z with playlist := (p.playlist.advanceCue s.tally).list } ∧
          t.command.causes = if (p.playlist.advanceCue s.tally).stopped
            then s.command.causes ||| 256#12 else s.command.causes))

/-! ### Records -/

/-- SALE, REFUND, BLOCK and UNBLOCK that pass every test change one count of the show, recompute its
band with its band event, and are answered DONE with the show as it then stands (R9, R10, R12, R13,
R14, R15, R16, R147, R148, R151). -/
def Obligations.SeatRecordsApply : Prop :=
  ∀ (s : State) (q : QueuedRecord) (desk m n : Nat) (w : Show), w = s.tally.entry m →
    s.tally.shows.length = 128 → m < 128 → desk ≤ 63 → 1 ≤ n → n ≤ 64 → w.state ≠ .empty →
    (s.readsRecord q (.sale desk m n) → w.state ≠ .closed → w.state ≠ .cancelled →
      w.sold + w.held + w.blocked + n ≤ w.capacity →
      s.seatsDone q m { w with sold := w.sold + n }) ∧
    (s.readsRecord q (.refund desk m n) → n ≤ w.sold →
      s.seatsDone q m { w with sold := w.sold - n }) ∧
    (s.readsRecord q (.block desk m n) → w.state ≠ .closed → w.state ≠ .cancelled →
      w.sold + w.held + w.blocked + n ≤ w.capacity →
      s.seatsDone q m { w with blocked := w.blocked + n }) ∧
    (s.readsRecord q (.unblock desk m n) → n ≤ w.blocked →
      s.seatsDone q m { w with blocked := w.blocked - n })

/-- HOLD inserts its hold by expiry after every hold that expires no later, raises the held field and
takes its pair off the expired-hold list; CONFIRM turns the hold of a pair into a sale and RELEASE
gives its seats back; a pair found only in the expired-hold list is refused HOLD_EXPIRED and leaves
it, and one found nowhere HOLD_UNKNOWN (R26, R27, R28, R29, R30, R31). -/
def Obligations.HoldRecordsApply : Prop :=
  ∀ (s : State) (q : QueuedRecord) (desk id : Nat), TallyInv s.tally → desk ≤ 63 → 1 ≤ id →
    (∀ m n lifetime w, s.readsRecord q (.hold desk id m n lifetime) → w = s.tally.entry m →
      m < 128 → 1 ≤ n → n ≤ 64 → w.state ≠ .empty → w.state ≠ .closed → w.state ≠ .cancelled →
      (∀ h, h ∈ s.tally.holds → h.pair ≠ (desk, id)) → s.tally.holds.length < 256 →
      w.sold + w.held + w.blocked + n ≤ w.capacity →
      ∃ t h before after v, exec .processingStep s = .next t ∧ s.tallyFrame t ∧
        h = { desk := desk, holdId := id, showNo := m, n := n,
              expiry := s.clock.uptime + max 10 (min lifetime 900) } ∧
        s.tally.holds = before ++ after ∧ (∀ x, x ∈ before → x.expiry ≤ h.expiry) ∧
        (∀ x, x ∈ after → h.expiry < x.expiry) ∧
        v = { w with
          held := w.held + n, band := bandOf s.tally.settings { w with held := w.held + n } } ∧
        t.tally = { s.tally with
          shows := s.tally.shows.set m v, holds := before ++ h :: after
          expired := s.tally.expired.filter (fun p => p != (desk, id)) } ∧
        s.emits t (bandEvents m w.band v.band) ∧
        s.intake.stepped t.intake {
          addr := q.addr, reason := .none, left := v.left, state := v.state, band := v.band }) ∧
    (∀ h w, s.readsRecord q (.confirm desk id) → h ∈ s.tally.holds → h.pair = (desk, id) →
      w = s.tally.entry h.showNo →
      ∃ t v, exec .processingStep s = .next t ∧ s.tallyFrame t ∧
        v = { w with held := w.held - h.n, sold := w.sold + h.n } ∧
        t.tally = { s.tally with
          shows := s.tally.shows.set h.showNo v
          holds := s.tally.holds.filter (fun x => x.pair != (desk, id)) } ∧
        s.emits t [] ∧
        s.intake.stepped t.intake {
          addr := q.addr, reason := .none, left := w.left, state := w.state, band := w.band }) ∧
    (∀ h w, s.readsRecord q (.release desk id) → h ∈ s.tally.holds → h.pair = (desk, id) →
      w = s.tally.entry h.showNo →
      ∃ t v, exec .processingStep s = .next t ∧ s.tallyFrame t ∧
        v = { w with
          held := w.held - h.n
          band := bandOf s.tally.settings { w with held := w.held - h.n } } ∧
        t.tally = { s.tally with
          shows := s.tally.shows.set h.showNo v
          holds := s.tally.holds.filter (fun x => x.pair != (desk, id)) } ∧
        s.emits t (bandEvents h.showNo w.band v.band) ∧
        s.intake.stepped t.intake {
          addr := q.addr, reason := .none, left := v.left, state := v.state, band := v.band }) ∧
    (∀ r, r = .confirm desk id ∨ r = .release desk id → s.readsRecord q r →
      (∀ h, h ∈ s.tally.holds → h.pair ≠ (desk, id)) →
      ∃ t reason, exec .processingStep s = .next t ∧ s.tallyFrame t ∧
        t.tally = { s.tally with
          expired := s.tally.expired.filter (fun p => p != (desk, id)) } ∧
        s.emits t [] ∧ ((desk, id) ∈ s.tally.expired → reason = .holdExpired) ∧
        ((desk, id) ∉ s.tally.expired → reason = .holdUnknown) ∧
        s.intake.stepped t.intake {
          addr := q.addr, reason := reason, left := 0, state := .empty, band := .plenty })

/-- SHOW_DEFINE, SHOW_AMEND, SHOW_DELAY, SHOW_CANCEL and SHOW_REMOVE that pass every test
(R17, R18, R19, R20, R21, R34, R43; that a delay of 0 on a show at delay 0 changes nothing, the state
included, is log entry 16). -/
def Obligations.ShowRecordsApply : Prop :=
  ∀ (s : State) (q : QueuedRecord) (m : Nat) (w : Show), TallyInv s.tally → m < 128 →
    w = s.tally.entry m →
    (∀ auditorium start capacity title v, s.readsRecord q
        (.showDefine m auditorium start capacity title) → w.state = .empty → 1 ≤ auditorium →
      auditorium ≤ 24 → start ≤ 2159 → 1 ≤ capacity → capacity ≤ 4000 →
      v = { Show.vacant with
        state := timeState s.tally.settings s.clock.minute start, auditorium := auditorium,
        start := start, capacity := capacity, title := takeText 24 title } →
      ∃ t, exec .processingStep s = .next t ∧ s.tallyFrame t ∧
        t.tally = { s.tally with
          shows := s.tally.shows.set m { v with band := bandOf s.tally.settings v } } ∧
        s.emits t ((stateEvent v.state).toList.map (fun k => { showNo := m, kind := k })) ∧
        s.intake.stepped t.intake {
          addr := q.addr, reason := .none, left := capacity, state := v.state,
          band := bandOf s.tally.settings v }) ∧
    (∀ capacity title, s.readsRecord q (.showAmend m capacity title) → w.state ≠ .empty →
      w.state ≠ .closed → w.state ≠ .cancelled → capacity ≤ 4000 →
      (capacity = 0 ∨ w.sold + w.held + w.blocked ≤ capacity) →
      s.seatsDone q m { w with
        capacity := if capacity = 0 then w.capacity else capacity
        title := if takeText 24 title = [] then w.title else takeText 24 title }) ∧
    (∀ minutes d v, s.readsRecord q (.showDelay m minutes) →
      (w.state = .listed ∨ w.state = .boarding) → d = min minutes 240 →
      v = { w with delay := d } →
      ∃ t, exec .processingStep s = .next t ∧ s.tallyFrame t ∧
        (d = 0 → w.delay = 0 → t.tally = s.tally ∧ s.emits t [] ∧
          s.intake.stepped t.intake {
            addr := q.addr, reason := .none, left := w.left, state := w.state,
            band := w.band }) ∧
        (0 < d ∨ 0 < w.delay → ∃ z events,
          z = recomputedShow s.tally.settings s.clock.minute v ∧
          events = recomputeEvents s.tally.settings s.clock.minute m v ∧
          t.tally.shows = s.tally.shows.set m z ∧
          (z.state ≠ .closed → t.tally = { s.tally with shows := t.tally.shows }) ∧
          (z.state = .closed → t.tally = { s.tally with
            shows := t.tally.shows
            holds := s.tally.holds.filter (fun h => h.showNo != m)
            expired := lapsedInto s.tally.expired
              (s.tally.holds.filter (fun h => h.showNo == m)) }) ∧
          (0 < d → s.emits t ({ showNo := m, kind := .delayed } :: events)) ∧
          (d = 0 → t.board.inbox =
              s.board.inbox ++ .delayNotice m :: events.map BoardEvent.tally ∧
            t.notice.inbox = s.notice.inbox ++ events ∧
            t.pane.inbox = s.pane.inbox ++ events) ∧
          s.intake.stepped t.intake {
            addr := q.addr, reason := .none, left := z.left, state := z.state,
            band := z.band })) ∧
    (s.readsRecord q (.showCancel m) →
      (w.state = .listed ∨ w.state = .boarding ∨ w.state = .started) →
      ∃ t v z, exec .processingStep s = .next t ∧ s.tallyFrame t ∧
        v = { w with state := .cancelled, cancelMinute := some s.clock.minute, held := 0 } ∧
        z = { v with band := bandOf s.tally.settings v } ∧
        t.tally = { s.tally with
          shows := s.tally.shows.set m z
          holds := s.tally.holds.filter (fun h => h.showNo != m)
          expired := lapsedInto s.tally.expired
            (s.tally.holds.filter (fun h => h.showNo == m)) } ∧
        s.emits t ({ showNo := m, kind := .cancelled } :: bandEvents m w.band z.band) ∧
        s.intake.stepped t.intake {
          addr := q.addr, reason := .none, left := z.left, state := .cancelled,
          band := z.band }) ∧
    (s.readsRecord q (.showRemove m) →
      (w.state = .closed ∨ w.state = .cancelled ∨
        (w.state = .listed ∧ w.sold = 0 ∧ w.held = 0 ∧ w.blocked = 0)) →
      ∃ t, exec .processingStep s = .next t ∧ s.tallyFrame t ∧
        t.tally = { s.tally with shows := s.tally.shows.set m Show.vacant } ∧
        s.emits t [{ showNo := m, kind := .removed }] ∧
        s.intake.stepped t.intake {
          addr := q.addr, reason := .none, left := 0, state := .empty, band := .plenty })

/-- NOTICE_POST replaces what its ID holds by a fresh SHOWN notice at the end of its priority class in
the stack of every screen it names; NOTICE_WITHDRAW takes the notice out of the table; a trigger
whose notice leaves is armed again; both are DONE with a verdict that names no show (R55, R57, R59,
R60, R61, R62, R73; the order of the hand-ons of one event is log entry 31). The timing of a notice is
that of its mode, each field clamped, and none for an unknown mode or end action (R59; the numbers of
the modes and end actions are log entry 27); a text ends at its first zero byte or at its width, and a
byte outside 32..126 is read as 63 (R59, R180). -/
def Obligations.NoticeRecordsApply : Prop :=
  (∀ p : TimingParams,
    (p.mode = 0 → timingOf p = some .steady) ∧
    (p.mode = 1 → timingOf p = some (.timed (max 5 (min p.lifetime 3600)))) ∧
    (∀ stay : Bool, p.mode = 2 → p.endAction = (if stay = true then 1 else 0) →
      timingOf p = some (.cycle (max 1 (min p.dwell 600)) (max 1 (min p.gap 600))
        (max 1 (min p.repeats 20)) stay)) ∧
    (2 < p.mode ∨ (p.mode = 2 ∧ 1 < p.endAction) → timingOf p = none)) ∧
  (∀ (width : Nat) (bytes : List Byte) (read : Byte → Nat),
    (∀ b, read b = if 32 ≤ b.toNat ∧ b.toNat ≤ 126 then b.toNat else 63) →
    (∀ a b, bytes = a ++ 0#8 :: b → 0#8 ∉ a → a.length ≤ width →
      takeText width bytes = a.map read) ∧
    (0#8 ∉ bytes.take width → takeText width bytes = (bytes.take width).map read)) ∧
  ∀ (s : State) (q : QueuedRecord) (n : Nat), NoticeInv s.notice → n < 64 →
    (∀ p timing x, s.readsRecord q (.noticePost p) → p.notice = n → p.desk ≤ 63 →
      p.priority ≤ 7 → timingOf p.timing = some timing →
      x = { source := .desk p.desk, priority := p.priority,
            screens := BitVec.ofNat 12 p.screens, timing := timing, shown := true,
            remaining := (match timing with
              | .cycle _ _ repeats _ => repeats
              | .steady => 0
              | .timed _ => 0),
            timer := (match timing with
              | .steady => none
              | .timed lifetime => some lifetime
              | .cycle dwell _ _ _ => some dwell),
            text := takeText 40 p.text } →
      ∃ t, exec .processingStep s = .next t ∧ s.noticeFrame t ∧ t.command = s.command ∧
        t.notice = { s.notice with
          notices := s.notice.notices.set n (some x), noticeStacks := t.notice.noticeStacks,
          triggers := t.notice.triggers } ∧
        (∀ r, t.notice.trigger r =
          if (s.notice.at? n).any (fun y => y.source == .trigger r) then
            { s.notice.trigger r with state := .armed }
          else s.notice.trigger r) ∧
        (∀ k, k < 12 → x.screens.getLsbD k = false → t.notice.noticeStacks.getD k [] =
          (s.notice.noticeStacks.getD k []).filter (fun m => m != n)) ∧
        (∀ k, k < 12 → x.screens.getLsbD k = true → ∃ before after,
          (s.notice.noticeStacks.getD k []).filter (fun m => m != n) = before ++ after ∧
          t.notice.noticeStacks.getD k [] = before ++ n :: after ∧
          (∀ m, m ∈ before → x.priority ≤ s.notice.priorityOf m) ∧
          (∀ m, m ∈ after → s.notice.priorityOf m < x.priority)) ∧
        s.intake.stepped t.intake {
          addr := q.addr, reason := .none, left := 0, state := .empty, band := .plenty }) ∧
    (∀ desk x, s.readsRecord q (.noticeWithdraw desk n) → desk ≤ 63 → s.notice.at? n = some x →
      ∃ t, exec .processingStep s = .next t ∧ s.noticeFrame t ∧ t.command = s.command ∧
        t.notice = { s.notice with
          notices := s.notice.notices.set n none
          noticeStacks := s.notice.noticeStacks.map (fun st => st.filter (fun m => m != n))
          triggers := t.notice.triggers } ∧
        (∀ r, t.notice.trigger r =
          if x.source = .trigger r then { s.notice.trigger r with state := .armed }
          else s.notice.trigger r) ∧
        s.intake.stepped t.intake {
          addr := q.addr, reason := .none, left := 0, state := .empty, band := .plenty })

/-- A processing step whose record is refused, at its check, its kind or one of the tests of its kind,
changes no table and emits nothing: the verdict carries the first failing test's code, with the named
show's figures, or none for a record that names no show. It covers every refusal but HOLD_EXPIRED,
which takes its pair off the expired-hold list (R12, R13, R14, R15, R16, R17, R18, R19, R20, R21, R26,
R31; further R29, R30, R59, R61, R62, R147, R148). -/
def Obligations.RefusedRecordsChangeNothing : Prop :=
  ∀ (s : State) (q : QueuedRecord), s.path.resetHeld = false →
    s.intake.verdicts.length < 16 → s.intake.queue.head? = some q →
    (onesSum q.data 29 ≠ 65535 → s.refusesRecord q .badCheck Show.vacant) ∧
    (onesSum q.data 29 = 65535 → (byteAt q.data 0 = 0 ∨ 14 < byteAt q.data 0) →
      s.refusesRecord q .badKind Show.vacant) ∧
    (∀ desk m n r w, s.readsRecord q r → w = s.tally.entry m →
      (r = .sale desk m n ∨ r = .refund desk m n ∨ r = .block desk m n ∨
        r = .unblock desk m n) →
      (128 ≤ m ∨ 64 ≤ desk → s.refusesRecord q .badField w) ∧
      (m < 128 → desk ≤ 63 → (n = 0 ∨ 64 < n) → s.refusesRecord q .badCount w) ∧
      (m < 128 → desk ≤ 63 → 1 ≤ n → n ≤ 64 →
        (w.state = .empty → s.refusesRecord q .noShow w) ∧
        (w.state ≠ .empty → (r = .sale desk m n ∨ r = .block desk m n) →
          (w.state = .closed ∨ w.state = .cancelled) → s.refusesRecord q .showClosed w) ∧
        (w.state ≠ .empty → (r = .sale desk m n ∨ r = .block desk m n) →
          w.state ≠ .closed → w.state ≠ .cancelled →
          w.capacity < w.sold + w.held + w.blocked + n → s.refusesRecord q .noSeats w) ∧
        (w.state ≠ .empty → r = .refund desk m n → w.sold < n →
          s.refusesRecord q .badCount w) ∧
        (w.state ≠ .empty → r = .unblock desk m n → w.blocked < n →
          s.refusesRecord q .badCount w))) ∧
    (∀ desk id m n lifetime w, s.readsRecord q (.hold desk id m n lifetime) →
      w = s.tally.entry m →
      (128 ≤ m ∨ 64 ≤ desk ∨ id = 0 → s.refusesRecord q .badField w) ∧
      (m < 128 → desk ≤ 63 → 1 ≤ id →
        ((n = 0 ∨ 64 < n) → s.refusesRecord q .badCount w) ∧
        (1 ≤ n → n ≤ 64 →
          (w.state = .empty → s.refusesRecord q .noShow w) ∧
          ((w.state = .closed ∨ w.state = .cancelled) → s.refusesRecord q .showClosed w) ∧
          (w.state ≠ .empty → w.state ≠ .closed → w.state ≠ .cancelled →
            ((∃ h, h ∈ s.tally.holds ∧ h.pair = (desk, id)) →
              s.refusesRecord q .duplicateHold w) ∧
            ((∀ h, h ∈ s.tally.holds → h.pair ≠ (desk, id)) →
              (256 ≤ s.tally.holds.length → s.refusesRecord q .holdsFull w) ∧
              (s.tally.holds.length < 256 → w.capacity < w.sold + w.held + w.blocked + n →
                s.refusesRecord q .noSeats w)))))) ∧
    (∀ desk id r, s.readsRecord q r → (r = .confirm desk id ∨ r = .release desk id) →
      (64 ≤ desk ∨ id = 0 → s.refusesRecord q .badField Show.vacant) ∧
      (desk ≤ 63 → 1 ≤ id → (∀ h, h ∈ s.tally.holds → h.pair ≠ (desk, id)) →
        (desk, id) ∉ s.tally.expired → s.refusesRecord q .holdUnknown Show.vacant)) ∧
    (∀ m auditorium start capacity title w, s.readsRecord q
        (.showDefine m auditorium start capacity title) → w = s.tally.entry m →
      (128 ≤ m → s.refusesRecord q .badField w) ∧
      (m < 128 → w.state ≠ .empty → s.refusesRecord q .showExists w) ∧
      (m < 128 → w.state = .empty →
        (auditorium = 0 ∨ 24 < auditorium ∨ 2159 < start ∨ capacity = 0 ∨ 4000 < capacity) →
        s.refusesRecord q .badField w)) ∧
    (∀ m capacity title w, s.readsRecord q (.showAmend m capacity title) →
      w = s.tally.entry m →
      (128 ≤ m → s.refusesRecord q .badField w) ∧
      (m < 128 → w.state = .empty → s.refusesRecord q .noShow w) ∧
      (m < 128 → (w.state = .closed ∨ w.state = .cancelled) →
        s.refusesRecord q .wrongState w) ∧
      (m < 128 → w.state ≠ .empty → w.state ≠ .closed → w.state ≠ .cancelled →
        (4000 < capacity → s.refusesRecord q .badField w) ∧
        (1 ≤ capacity → capacity ≤ 4000 → capacity < w.sold + w.held + w.blocked →
          s.refusesRecord q .overCapacity w))) ∧
    (∀ m minutes w, s.readsRecord q (.showDelay m minutes) → w = s.tally.entry m →
      (128 ≤ m → s.refusesRecord q .badField w) ∧
      (m < 128 → w.state = .empty → s.refusesRecord q .noShow w) ∧
      (m < 128 → (w.state = .started ∨ w.state = .closed ∨ w.state = .cancelled) →
        s.refusesRecord q .wrongState w)) ∧
    (∀ m w, s.readsRecord q (.showCancel m) → w = s.tally.entry m →
      (128 ≤ m → s.refusesRecord q .badField w) ∧
      (m < 128 → w.state = .empty → s.refusesRecord q .noShow w) ∧
      (m < 128 → (w.state = .closed ∨ w.state = .cancelled) →
        s.refusesRecord q .wrongState w)) ∧
    (∀ m w, s.readsRecord q (.showRemove m) → w = s.tally.entry m →
      (128 ≤ m → s.refusesRecord q .badField w) ∧
      (m < 128 → w.state = .empty → s.refusesRecord q .noShow w) ∧
      (m < 128 → (w.state = .boarding ∨ w.state = .started ∨
          (w.state = .listed ∧ 0 < w.sold + w.held + w.blocked)) →
        s.refusesRecord q .wrongState w)) ∧
    (∀ p, s.readsRecord q (.noticePost p) →
      (64 ≤ p.desk ∨ 64 ≤ p.notice ∨ 8 ≤ p.priority ∨ 3 ≤ p.timing.mode ∨
        (p.timing.mode = 2 ∧ 2 ≤ p.timing.endAction)) →
      s.refusesRecord q .badField Show.vacant) ∧
    (∀ desk n, s.readsRecord q (.noticeWithdraw desk n) →
      (64 ≤ desk ∨ 64 ≤ n → s.refusesRecord q .badField Show.vacant) ∧
      (desk ≤ 63 → n < 64 → s.notice.at? n = none →
        s.refusesRecord q .noNotice Show.vacant))

/-! ### The commands -/

/-- SET_MODE stores the mode and reports the old one; SET_MASK replaces the mask; CLEAR_CAUSES clears
the marked causes and reports all twelve as they stood, and is refused PARAM where it marks none of
the twelve. The causes stand in the places of the table of R175, and while the reset input is not
asserted the attention output is active exactly when some cause is both set and unmasked (R174, R175,
R176, R180). -/
def Obligations.ModeMaskAndCauses : Prop :=
  ∀ (s : State) (tag : Nat), s.path.resetHeld = false →
    (∀ (n : Nat) (m : Mode), m.code = n → exec (.setMode tag n) s = .next { s with
      path := { s.path with mode := m }
      command := s.answeredOk 1 tag s.command.causes [byte s.path.mode.code] }) ∧
    (∀ mask, exec (.setMask tag mask) s = .next { s with
      command := { s.answeredOk 22 tag s.command.causes [] with mask := BitVec.ofNat 12 mask } }) ∧
    (∀ mask, BitVec.ofNat 12 mask ≠ 0#12 → exec (.clearCauses tag mask) s = .next { s with
      command := s.answeredOk 23 tag (s.command.causes &&& ~~~(BitVec.ofNat 12 mask))
        [byte (s.command.causes.toNat % 256), byte (s.command.causes.toNat / 256)] }) ∧
    (∀ mask, BitVec.ofNat 12 mask = 0#12 → exec (.clearCauses tag mask) s = .next { s with
      command := { s.command with response := s.responseTo 23 tag .param [] } }) ∧
    (s.attention = true ↔
      ∃ i, i < 12 ∧ s.command.causes.getLsbD i = true ∧ s.command.mask.getLsbD i = true) ∧
    ∀ (u : CommandUnit) (i : Nat) (c : Cause),
      [Cause.loadDone, .glyphBad, .intakeFull, .recordMissed, .verdictLost, .clockHeld,
        .paneStarved, .paneLatched, .playlistStopped, .latePatch, .readError,
        .triggerBlocked][i]? = some c →
      (u.raise c).causes = u.causes ||| 1#12 <<< i ∧ (u.isSet c = true ↔ u.causes.getLsbD i = true)

/-- SET_CLOCK sets the clock, ends holding, clears CLOCK_HELD and has every show, view and CLOCK cell
follow; DAY_START also sets the origin, empties the closed and cancelled shows with REMOVED and the
expired-hold list before the recomputation, and has the START fields follow; SET_TALLY stores its
settings, each clamped, and recomputes every show (R4, R22, R43, R46, R53, R87, R168, R169; what of this
is taken at once is log entry 9, and that the shows are recomputed at the clock's minute even where the
settings or the minute are those already held and a change of minute still waits is log entry 30, and
the order in which changed shows and views are handed on is log entry 34). -/
def Obligations.ClockAndTallyCommandsRecompute : Prop :=
  ∀ (s : State) (tag : Nat), s.path.resetHeld = false → TallyInv s.tally →
    (∀ minute second, minute ≤ 2159 → second ≤ 59 →
      ∃ t, exec (.setClock tag minute second) s = .next t ∧
        t.clock = { s.clock with minute := minute, second := second, holding := false } ∧
        t.command = s.answeredOk 3 tag (s.command.causes &&& ~~~(32#12))
          (leBytes 4 s.clock.uptime) ∧
        s.clockChanged t s.tally (allRecomputeEvents s.tally s.tally.settings minute)
          readsClock) ∧
    (∀ minute origin purged, minute ≤ 2159 → origin ≤ 1439 →
      purged = { s.tally with
        shows := s.tally.shows.map (fun w =>
          if w.state = .closed ∨ w.state = .cancelled then Show.vacant else w)
        expired := [] } →
      ∃ t, exec (.dayStart tag minute origin) s = .next t ∧
        t.clock = { s.clock with
          minute := minute, second := 0, holding := false, origin := origin } ∧
        t.command = s.answeredOk 4 tag (s.command.causes &&& ~~~(32#12))
          (leBytes 4 s.clock.uptime) ∧
        s.clockChanged t purged
          (((List.range 128).filter (fun m => (s.tally.entry m).state == .closed ||
              (s.tally.entry m).state == .cancelled)).map
            (fun m => { showNo := m, kind := .removed }) ++
            allRecomputeEvents purged s.tally.settings minute) readsOrigin) ∧
    (∀ (p : TallyParams) (g : TallySettings),
      g = { lead := min p.lead 60, linger := min p.linger 30,
            fillingPct := max 10 (min p.fillingPct 95), almostPct := max 1 (min p.almostPct 50),
            almostAbs := min p.almostAbs 99 } →
      ∃ t, exec (.setTally tag p) s = .next t ∧ s.tallyFrame { t with command := s.command } ∧
        t.intake = s.intake ∧ t.command = s.answeredOk 6 tag s.command.causes [] ∧
        s.tally.recomputesTo t.tally g s.clock.minute ∧
        t.tally.minuteWaiting = s.tally.minuteWaiting ∧
        s.emits t (allRecomputeEvents s.tally g s.clock.minute))

/-- SET_INTAKE in PASS mode with a window that passes every test replaces the window and the
settings, the marks clamped, and keeps the queues, the counters and the back-pressure state
(R141). -/
def Obligations.SetIntakeConfigures : Prop :=
  ∀ (s : State) (tag : Nat) (p : IntakeParams), s.path.resetHeld = false →
    s.path.mode = .pass → p.base % 64 = 0 → 8 ≤ p.length → p.length ≤ 1024 →
    (p.interval = 1 ∨ p.interval = 4 ∨ p.interval = 8 ∨ p.interval = 16) →
    p.base + 64 * p.length ≤ 1099511627776 →
    apart { base := p.base, size := 64 * p.length } s.intakeObstacles →
    ∃ upper, upper = max 4 (min p.upper 32) ∧
      exec (.setIntake tag p) s = .next { s with
        intake := { s.intake with
          window := some (p.base, p.length), upper := upper, lower := min p.lower (upper - 1),
          interval := p.interval }
        command := s.answeredOk 5 tag s.command.causes [] }

/-- SET_WORDS replaces the seven entries and SET_SEGMENT defines a segment with its text; the cells
that show them follow (R50, R53, R67, R87; that SHOW cells follow SET_WORDS is log entry 11). -/
def Obligations.WordsAndSegmentsAreSet : Prop :=
  ∀ (s : State) (tag : Nat), s.path.resetHeld = false →
    (∀ words : List Nat, words.length = 7 → (∀ w, w ∈ words → w < 64 ∨ w = 255) →
      ∃ t, exec (.setWords tag words) s = .next t ∧
        t = { s with
          board := { s.board with
            words := words.map (fun w => if w = 255 then none else some w) }
          patch := { s.patch with cells := t.patch.cells, surfaces := t.patch.surfaces }
          command := s.answeredOk 7 tag s.command.causes [] } ∧
        s.cellsFollow t readsWords ∧ s.surfacesWait t ∧ s.idleShows t) ∧
    (∀ (k : Nat) (text : List Byte), k < 64 →
      ∃ t, exec (.setSegment tag k text) s = .next t ∧
        t = { s with
          notice := { s.notice with
            segments := s.notice.segments.set k
              { isDefined := true, text := takeText 24 text } }
          patch := { s.patch with cells := t.patch.cells, surfaces := t.patch.surfaces }
          command := s.answeredOk 13 tag s.command.causes [] } ∧
        (s.notice.segmentText k = takeText 24 text → t.patch = s.patch) ∧
        (s.notice.segmentText k ≠ takeText 24 text →
          s.cellsFollow t (readsSegment s.board.words k) ∧ s.surfacesWait t ∧ s.idleShows t))

/-- SET_VIEW stores the view's settings, clamped, sets its page to 0, restarts its timer, recomputes
its list and has its cells follow; the other views stay (R40). That the Patch Unit holds the view as
handed on is the model's choice (log entry 29). -/
def Obligations.SetViewConfigures : Prop :=
  ∀ (s : State) (tag : Nat) (p : ViewParams) (v : BoardView), s.path.resetHeld = false →
    s.board.views[p.view]? = some v → 1 ≤ p.rows → p.rows ≤ 16 →
    ∃ t w, exec (.setView tag p) s = .next t ∧
      w = { v with
        filter := BitVec.ofNat 24 p.filter, horizon := max 30 (min p.horizon 720), rows := p.rows,
        dwell := max 5 (min p.dwell 60), linger := min p.linger 120, page := 0,
        timer := max 5 (min p.dwell 60) } ∧
      t = { s with
        board := { s.board with
          views := s.board.views.set p.view
            { w with list := w.listFor s.tally s.clock.minute } }
        patch := { s.patch with
          cells := t.patch.cells, surfaces := t.patch.surfaces
          viewPages := s.patch.viewPages.set p.view
            { list := w.listFor s.tally s.clock.minute, page := 0, rows := p.rows } }
        command := s.answeredOk 8 tag s.command.causes [] } ∧
      s.cellsFollow t (readsView p.view) ∧ s.surfacesWait t ∧ s.idleShows t

/-- SET_SURFACE in PASS mode with fields that pass every test stores them, makes g 0 or advances it
by 2, leaves the surface IDLE with its timer stopped, and builds both pictures from what is pending
(R76, R77). -/
def Obligations.SetSurfaceConfigures : Prop :=
  ∀ (s : State) (tag : Nat) (p : SurfaceParams) (f : Surface), s.path.resetHeld = false →
    s.path.mode = .pass → p.surface < 12 → s.patch.surfaces[p.surface]? = some f →
    p.base % 64 = 0 → 16 ≤ p.width → p.width ≤ 3840 → 16 ≤ p.height → p.height ≤ 2160 →
    p.stride % 64 = 0 → p.width * 4 ≤ p.stride → p.stride ≤ 65536 → p.scan ≤ 15 →
    p.base + p.stride * p.height ≤ 1099511627776 →
    apart { base := p.base, size := p.stride * p.height } (s.surfaceObstacles p.surface) →
    (f.state ≠ .unset →
      (∀ n c, s.patch.cell n = some c → c.config.surface = p.surface →
        c.config.x + c.config.chars * 16 * c.config.scale ≤ p.width ∧
        c.config.y + 24 * c.config.scale ≤ p.height) ∧
      (∀ j g, (s.pane.pane j).settings = some g → g.surface = p.surface →
        g.px + g.pw ≤ p.width ∧ g.py + g.ph ≤ p.height)) →
    ∃ q, q.commits s.patch p.surface f.pendingFlag ∧
      exec (.setSurface tag p) s = .next { s with
        patch := { s.patch with
          surfaces := s.patch.surfaces.set p.surface
            { f with
              state := .idle, base := p.base, stride := p.stride, width := p.width,
              height := p.height, scan := p.scan, plate := p.plate,
              gen := if f.state = .unset then 0 else (f.gen + 2) % 256, idleTimer := none,
              current := q, previous := q } }
        command := s.answeredOk 9 tag s.command.causes [] }

/-- SET_CELL within the ranges puts its configuration in the cell with a target text derived afresh,
and CLEAR_CELL frees one; an IDLE surface the cell leaves or names commits at once, an ACTIVE one
waits (R82, R83, R86, R89). The numbers of the justifications and source kinds are log entry 27, those
of the fields stand in R173. -/
def Obligations.CellCommandsSetAndClear : Prop :=
  (∀ n, justOf n = [Just.left, .right, .centre][n]?) ∧
  (∀ p1 p2 p3 : Nat, sourceOf 4 p1 p2 p3 = some .clock ∧
    (p1 < 64 → sourceOf 0 p1 p2 p3 = some (.fixed p1)) ∧
    (p1 < 12 → sourceOf 3 p1 p2 p3 = some (.notice p1)) ∧
    ∀ f : Field,
      (p1 < 128 → [Field.auditorium, .start, .title, .seats, .delay, .status][p2]? = some f →
        sourceOf 1 p1 p2 p3 = some (.showField p1 f)) ∧
      (p1 < 4 → p2 < 16 →
        [Field.auditorium, .start, .title, .seats, .delay, .status][p3]? = some f →
        sourceOf 2 p1 p2 p3 = some (.board p1 p2 f))) ∧
  ∀ (s : State) (tag : Nat), s.path.resetHeld = false → s.patch.cells.length = 256 →
    (∀ (p : CellParams) (f : Surface) (just : Just) (source : Source) (c : CellConfig),
      p.cell < 256 → p.surface < 12 → f = s.patch.surface p.surface → f.state ≠ .unset →
      1 ≤ p.chars → p.chars ≤ 40 → 1 ≤ p.scale → p.scale ≤ 4 → p.layer ≤ 7 → p.glyphSet ≤ 1 →
      justOf p.just = some just → p.fullScreen ≤ 1 → p.twelveHour ≤ 1 →
      sourceOf p.kind p.param1 p.param2 p.param3 = some source →
      p.x + p.chars * 16 * p.scale ≤ f.width → p.y + 24 * p.scale ≤ f.height →
      c = { surface := p.surface, x := p.x, y := p.y, chars := p.chars, scale := p.scale,
            layer := p.layer, glyphSet := p.glyphSet, just := just, fg := p.fg,
            plate := p.plate, alpha := p.alpha, fullScreen := p.fullScreen == 1,
            twelveHour := p.twelveHour == 1, source := source } →
      ∃ t, exec (.setCell tag p) s = .next t ∧
        t = { s with
          patch := { s.patch with
            cells := s.patch.cells.set p.cell (some { config := c, target := s.targetText c })
            surfaces := t.patch.surfaces }
          command := s.answeredOk 10 tag s.command.causes [] } ∧
        (s.targetText c).length = p.chars ∧ s.surfacesWait t ∧
        (f.state = .idle → (t.patch.surface p.surface).current.commits t.patch p.surface
          f.pendingFlag) ∧
        (∀ old, s.patch.cell p.cell = some old →
          (s.patch.surface old.config.surface).state = .idle →
          (t.patch.surface old.config.surface).current.commits t.patch old.config.surface
            (s.patch.surface old.config.surface).pendingFlag)) ∧
    (∀ cell, cell < 256 →
      ∃ t, exec (.clearCell tag cell) s = .next t ∧
        t = { s with
          patch := { s.patch with
            cells := s.patch.cells.set cell none, surfaces := t.patch.surfaces }
          command := s.answeredOk 11 tag s.command.causes [] } ∧
        s.surfacesWait t ∧
        (∀ old, s.patch.cell cell = some old →
          (s.patch.surface old.config.surface).state = .idle →
          (t.patch.surface old.config.surface).current.commits t.patch old.config.surface
            (s.patch.surface old.config.surface).pendingFlag))

/-- SET_TRIGGER arms a trigger with its settings, screens cut to twelve and timing clamped, and
CLEAR_TRIGGER empties one; the notice a SPENT trigger raised leaves, the blocked count becomes 0, and
the top notices that changed are handed on and taken within the command: their NOTICE cells follow, and
IDLE surfaces show them at once (R58, R69, R70, R84, R87, R89, R120, R171; the order of the hand-ons is
log entry 31). The event kinds stand in the order of R68 (log entry 27), and a template is its 1 to 6
items, a segment by its number or 64 and the number of a field but STATUS (R69, R173). -/
def Obligations.TriggerCommandsArmAndClear : Prop :=
  (∀ n, triggerKindOf n =
    [TallyKind.soldOut, .almost, .boarding, .started, .delayed, .cancelled][n]?) ∧
  (∀ (count : Nat) (items : List Nat) (template : List TemplateItem),
    templateOf count items = some template ↔ 1 ≤ count ∧ count ≤ 6 ∧
      template.length = (items.take count).length ∧
      ∀ i n : Nat, (items.take count)[i]? = some n → template[i]? =
        if n < 64 then some (TemplateItem.segment n)
        else ([Field.auditorium, .start, .title, .seats, .delay][n - 64]?).map TemplateItem.field) ∧
  ∀ (s : State) (tag r : Nat), s.path.resetHeld = false → NoticeInv s.notice → r < 32 →
    s.patch.fromNotice = [] → s.pane.flagInbox = [] → s.patch.noticeText.length = 12 →
    s.pane.flags.length = 12 → s.patch.surfaces.length = 12 →
    (∀ (p : TriggerParams) (event : TallyKind) (timing : Timing) (template : List TemplateItem),
      p.trigger = r → triggerKindOf p.event = some event → (p.filter < 128 ∨ p.filter = 255) →
      p.notice < 64 → p.priority ≤ 7 → timingOf p.timing = some timing →
      templateOf p.count p.items = some template →
      (∀ k, TemplateItem.segment k ∈ template →
        ∃ g, s.notice.segments[k]? = some g ∧ g.isDefined = true) →
      ∃ t, exec (.setTrigger tag p) s = .next t ∧ s.topsTaken t ∧
        s.notice.clearedOf t.notice r ∧
        t.notice.trigger r = {
          state := .armed, blocked := 0, settings := some {
            event := event, filter := if p.filter = 255 then none else some p.filter,
            notice := p.notice, priority := p.priority, screens := BitVec.ofNat 12 p.screens,
            timing := timing, template := template } } ∧
        t.command = s.answeredOk 14 tag s.command.causes []) ∧
    ∃ t, exec (.clearTrigger tag r) s = .next t ∧ s.topsTaken t ∧
      s.notice.clearedOf t.notice r ∧
      t.notice.trigger r = { state := .empty, settings := none, blocked := 0 } ∧
      t.command = s.answeredOk 15 tag s.command.causes []

/-- SET_PANE in PASS mode with fields that pass every test stores the settings, the marks and rates
clamped, and restarts the pane DARK and empty with its playlist stopped; the outstanding counts and
the playlist entries stay (R110, R111, R129). That a pane set again is tested against its new slot
region and not its old one is the model's choice (log entry 37); the numbers of the starvation modes are
log entry 27. -/
def Obligations.SetPaneConfigures : Prop :=
  (∀ n, starvationOf n = [Starvation.hold, .poster, .retry][n]?) ∧
  ∀ (s : State) (tag : Nat) (p : PaneParams) (w : Pane) (starvation : Starvation) (upper : Nat),
    s.path.resetHeld = false → s.path.mode = .pass → p.pane < 8 →
    s.pane.panes[p.pane]? = some w → p.surface < 12 →
    (s.patch.surface p.surface).state ≠ .unset → p.px % 16 = 0 → p.pw % 16 = 0 → 16 ≤ p.pw →
    1 ≤ p.ph → p.px + p.pw ≤ (s.patch.surface p.surface).width →
    p.py + p.ph ≤ (s.patch.surface p.surface).height →
    (∀ j g, j ≠ p.pane → (s.pane.pane j).settings = some g → g.surface = p.surface →
      p.px + p.pw ≤ g.px ∨ g.px + g.pw ≤ p.px ∨ p.py + p.ph ≤ g.py ∨ g.py + g.ph ≤ p.py) →
    p.slotBase % 64 = 0 → p.slotSize % 64 = 0 → p.pw * p.ph * 4 ≤ p.slotSize →
    2 ≤ p.slotCount → p.slotCount ≤ 8 →
    p.slotBase + p.slotCount * p.slotSize ≤ 1099511627776 →
    apart (slotSpanOf p) (s.fixedSpans ++ paneSpans (s.pane.configuredBut p.pane)) →
    (∀ a, a = p.marker ∨ a = p.cue → a % 64 = 0 ∧
      apart { base := a, size := 64 }
        (slotSpanOf p :: s.fixedSpans ++ paneSpans (s.pane.configuredBut p.pane))) →
    p.marker ≠ p.cue → starvationOf p.starvation = some starvation →
    p.retryTime ∈ [1, 2, 5, 10, 30, 60] → p.retryLimit ∈ [0, 1, 2, 3, 5, 10] →
    upper = max 1 (min p.upper (p.slotCount - 1)) →
    exec (.setPane tag p) s = .next { s with
      pane := { s.pane with panes := s.pane.panes.set p.pane { w with
        settings := some {
          surface := p.surface, px := p.px, py := p.py, pw := p.pw, ph := p.ph,
          slotBase := p.slotBase, slotSize := p.slotSize, slotCount := p.slotCount,
          marker := p.marker, cue := p.cue, scanRate := max 24 (min p.scanRate 120),
          clipRate := max 1 (min p.clipRate 120), upper := upper,
          lower := min p.lower (upper - 1), starvation := starvation,
          deglitch := max 1 (min p.deglitch 32), retryTime := p.retryTime,
          retryLimit := if p.retryLimit = 0 then none else some p.retryLimit }
        display := .dark, displayed := none, queue := [], acc := 0, flow := .go,
        underrunRun := 0, retriesUsed := 0, retryTimer := none, verdict := .none,
        counters := PaneCounters.zero
        playlist := { w.playlist with
          state := .idle, cueEntry := none, pass := 0, startRequest := none,
          resumeRequest := false, successor := none } } }
      command := s.answeredOk 16 tag s.command.causes [] }

/-- SET_PLAYLIST replaces consecutive entries of one playlist, repeats clamped and the flags by their
places, and touches no other entry and no running state (R130, R180). -/
def Obligations.SetPlaylistReplacesEntries : Prop :=
  ∀ (s : State) (tag pane first count : Nat) (entries : List EntryParams) (w : Pane),
    s.path.resetHeld = false → pane < 8 → s.pane.panes[pane]? = some w → 1 ≤ count →
    count ≤ 8 → first + count ≤ 16 → entries.length = count → w.playlist.entries.length = 16 →
    (∀ e, e ∈ entries → (e.showNo < 128 ∨ e.showNo = 255) ∧ e.valid ≤ 1 ∧ e.flags < 32) →
    (w.playlist.state ≠ .active ∨
      ∀ c, w.playlist.cueEntry = some c → c < first ∨ first + count ≤ c) →
    ∃ l, exec (.setPlaylist tag pane first count entries) s = .next { s with
        pane := { s.pane with
          panes := s.pane.panes.set pane
            { w with playlist := { w.playlist with entries := l } } }
        command := s.answeredOk 17 tag s.command.causes [] } ∧
      l.length = 16 ∧
      (∀ i, i < first ∨ first + count ≤ i → l[i]? = w.playlist.entries[i]?) ∧
      ∀ i e, entries[i]? = some e → l[first + i]? = some {
        valid := e.valid == 1, clip := e.clip,
        showNo := if e.showNo = 255 then none else some e.showNo,
        repeats := max 1 (min e.repeats 15), endOfList := e.flags % 2 == 1,
        suspends := e.flags / 2 % 2 == 1, loops := e.flags / 4 % 2 == 1,
        skipSold := e.flags / 8 % 2 == 1, skipStarted := e.flags / 16 % 2 == 1 }

/-- PLAY_START chooses a valid entry at once, or asks for it while ACTIVE without NOW, flushes the
queue with NOW, and leaves a fallback; PLAY_STOP stops the playlist and empties the pane; PANE_CLEAR
leaves a fallback and zeroes the counters (R115, R123, R134, R135, R137). -/
def Obligations.PlayCommandsActOnThePane : Prop :=
  ∀ (s : State) (tag pane : Nat) (p : Pane) (g : PaneSettings), s.path.resetHeld = false →
    pane < 8 → s.pane.panes[pane]? = some p → p.settings = some g →
    (∀ entry now, entry < 16 → (p.playlist.entry entry).valid = true → now ≤ 1 →
      ∃ display l, exec (.playStart tag pane entry now) s = .next { s with
          pane := { s.pane with
          panes := s.pane.panes.set pane { p with
            display := display
            retryTimer := if p.display = .fallbackWait ∨ p.display = .fallbackLatched then none
              else p.retryTimer
            retriesUsed := 0, underrunRun := 0
            queue := if now = 1 then [] else p.queue
            flow := if now = 1 then .go else p.flow
            playlist := l } }
          command := s.answeredOk 18 tag s.command.causes [] } ∧
        (p.display = .dark ∨ p.display = .showing → display = p.display) ∧
        (p.display = .fallbackWait ∨ p.display = .fallbackLatched →
          (p.displayed = none → display = .dark) ∧ (p.displayed ≠ none → display = .showing)) ∧
        (p.playlist.state = .active → now = 0 →
          l = { p.playlist with startRequest := some entry }) ∧
        (p.playlist.state ≠ .active ∨ now = 1 → l = { p.playlist with
          state := .active, cueEntry := some entry, pass := 1,
          generation := (p.playlist.generation + 1) % 256, startRequest := none,
          resumeRequest := false, successor := none })) ∧
    exec (.playStop tag pane) s = .next { s with
      pane := { s.pane with
          panes := s.pane.panes.set pane { p with
        playlist := { p.playlist with
          state := .idle, cueEntry := none, pass := 0, startRequest := none,
          resumeRequest := false, successor := none }
        queue := [], flow := .go, displayed := none, display := .dark, retryTimer := none,
        retriesUsed := 0, underrunRun := 0 } }
      command := s.answeredOk 20 tag s.command.causes [] } ∧
    exec (.paneClear tag pane) s = .next { s with
      pane := { s.pane with
          panes := s.pane.panes.set pane { p with
        display := if p.display = .fallbackWait ∨ p.display = .fallbackLatched then .showing
          else p.display
        retryTimer := if p.display = .fallbackWait ∨ p.display = .fallbackLatched then none
          else p.retryTimer
        retriesUsed := 0, underrunRun := 0, verdict := .none, counters := PaneCounters.zero } }
      command := s.answeredOk 21 tag s.command.causes [] }

/-- PLAY_RESUME sets the resume request of an ACTIVE playlist, and evaluates the remembered successor
of a SUSPENDED one: the first candidate that is not skipped is chosen, an end or an invalid entry
stops it, and sixteen skips suspend it again, the last two with PLAYLIST_STOPPED (R133, R136, R139; that the remembered successor is then cleared is log entry
20). -/
def Obligations.PlayResumeReleasesASuspension : Prop :=
  ∀ (s : State) (tag pane : Nat) (p : Pane) (g : PaneSettings), s.path.resetHeld = false →
    pane < 8 → s.pane.panes[pane]? = some p → p.settings = some g →
    (p.playlist.state = .active → exec (.playResume tag pane) s = .next { s with
      pane := { s.pane with
          panes := s.pane.panes.set pane
            { p with playlist := { p.playlist with resumeRequest := true } } }
      command := s.answeredOk 19 tag s.command.causes [] }) ∧
    (∀ a, p.playlist.state = .suspended → p.playlist.successor = some a →
      ∃ l stopped, exec (.playResume tag pane) s = .next { s with
          pane := { s.pane with
          panes := s.pane.panes.set pane { p with playlist := l } }
          command := s.answeredOk 19 tag
            (if stopped = true then s.command.causes ||| 256#12 else s.command.causes) [] } ∧
        ((∃ c, p.playlist.reaches s.tally a c ∧
          (((16 ≤ c ∨ (p.playlist.entry c).valid = false) ∧ stopped = true ∧
              l = p.playlist.stop) ∨
            (c < 16 ∧ (p.playlist.entry c).valid = true ∧
              ¬ (p.playlist.entry c).passedOver s.tally ∧ stopped = false ∧
              l = { p.playlist with
                state := .active, cueEntry := some c, pass := 1,
                generation := (p.playlist.generation + 1) % 256, successor := none }))) ∨
          ∃ c, p.playlist.reachesBy s.tally 16 a c ∧ stopped = true ∧
            l = { p.playlist with state := .suspended, successor := some c }))

/-- INSPECT of an entry in range copies it into the inspect area with its kind, index and the risen
inspect count, which the response reports: the SHOW, HOLDS and VIEW copies byte by byte, the NOTICE,
TRIGGER, CELL and PANE copies as the model packs those entries; a copy of an entry within its bounds
fits the area whole (R1, R38, R54, R74, R95, R126, R139, R178, R181; what R181 leaves open of the
packing is log entry 10, and that the PANE copy holds the cue twice is log entry 35). -/
def Obligations.InspectCopies : Prop :=
  ∀ (s : State) (tag index : Nat), s.path.resetHeld = false →
    (∀ w, index < 128 → w = s.tally.entry index → w.title.length ≤ 24 →
      exec (.inspect tag 0 index) s = .next (s.inspected tag 0 index
        ([byte w.state.code, byte (w.auditorium % 256)] ++ leBytes 2 w.start ++
          [byte (w.delay % 256)] ++ leBytes 2 w.capacity ++ leBytes 2 w.sold ++
          leBytes 2 w.held ++ leBytes 2 w.blocked ++ [byte w.band.code] ++
          w.title.map byte ++ List.replicate (24 - w.title.length) 0 ++
          (match w.cancelMinute with
          | none => [255, 255]
          | some n => leBytes 2 n)))) ∧
    (index < 256 → exec (.inspect tag 1 index) s = .next (s.inspected tag 1 index
      (leBytes 2 s.tally.holds.length ++ [byte (s.tally.expired.length % 256), 16] ++
        (List.range 16).flatMap (fun k =>
          match s.tally.holds[index + k]? with
          | none => List.replicate 9 255
          | some h => [byte (h.desk % 256)] ++ leBytes 2 h.holdId ++
              [byte (h.showNo % 256), byte (h.n % 256)] ++ leBytes 4 h.expiry)))) ∧
    (index < 64 → exec (.inspect tag 2 index) s =
      .next (s.inspected tag 2 index (noticeEntryCopy s.notice index))) ∧
    (index < 32 → exec (.inspect tag 3 index) s =
      .next (s.inspected tag 3 index (triggerCopy (s.notice.trigger index)))) ∧
    (index < 256 → exec (.inspect tag 4 index) s =
      .next (s.inspected tag 4 index (cellEntryCopy s.patch index))) ∧
    (index < 8 → exec (.inspect tag 5 index) s =
      .next (s.inspected tag 5 index (paneEntryCopy s.pane index))) ∧
    (∀ v, s.board.views[index]? = some v → exec (.inspect tag 6 index) s =
      .next (s.inspected tag 6 index
        (leBytes 3 v.filter.toNat ++ leBytes 2 v.horizon ++ [byte (v.rows % 256),
          byte (v.dwell % 256), byte (v.linger % 256), byte (v.page % 256)] ++
          leBytes 2 v.timer ++ [byte (v.list.length % 256)] ++
          v.list.map (fun n => byte (n % 256))))) ∧
    ∀ kind bytes, inspectCopy s kind index = some bytes →
      (∀ p, p ∈ s.pane.panes → p.queue.length ≤ 7 ∧ p.playlist.entries.length = 16 ∧
        p.outstanding.length = 8) →
      (∀ v, v ∈ s.board.views → v.list.length ≤ 128) → bytes.length ≤ 252

/-- WARM_RESET returns every unit's dynamic state to its starting values, keeps configuration, the
clock, the mode and the in-flight table, and has every cell follow its emptied sources (R2, R24, R25,
R47, R56, R68, R93, R111, R129, R152, R162, R179). Four points are the model's choices: that waiting
events survive it (log entry 8), that an abort with no read outstanding leaves the loader idle (log
entry 21), that the Patch Unit holds the views as last handed on (log entry 29), and that CLOCK cells are
derived afresh as well, also where a change of minute still waits (log entry 39). -/
def Obligations.WarmResetKeepsConfiguration : Prop :=
  ∀ (s : State) (tag : Nat), s.path.resetHeld = false →
    ∃ t, exec (.warmReset tag) s = .next t ∧
      t = { s with
        path := { s.path with run := 0 }
        tally := { s.tally with
          shows := List.replicate 128 Show.vacant, holds := [], expired := [] }
        board := { s.board with
          views := s.board.views.map (fun v => { v with list := [], page := 0, timer := v.dwell }) }
        notice := { s.notice with
          notices := List.replicate 64 none, noticeStacks := List.replicate 12 []
          triggers := s.notice.triggers.map (fun r =>
            { r with state := if r.state = .empty then .empty else .armed, blocked := 0 }) }
        patch := { s.patch with
          surfaces := t.patch.surfaces, cells := t.patch.cells, sets := t.patch.sets,
          loader := t.patch.loader, noticeText := List.replicate 12 [], fromNotice := []
          viewPages := s.board.views.map (fun v => { list := [], page := 0, rows := v.rows }) }
        pane := { s.pane with
          panes := t.pane.panes, flags := List.replicate 12 false, flagInbox := [] }
        intake := { s.intake with
          queue := [], verdicts := []
          issued := s.intake.issued.map (fun w => { w with cancelled := true })
          raised := false, since := 0, reannounced := 0, counters := IntakeCounters.zero }
        command := s.answeredOk 2 tag 0#12 [] } ∧
      s.cellsFollow t (fun _ => true) ∧
      (∀ k, ((s.patch.surface k).state ≠ .idle →
          t.patch.surface k = { s.patch.surface k with pendingFlag := false }) ∧
        ((s.patch.surface k).state = .idle → k < 12 →
          t.patch.surface k = { s.patch.surface k with
            pendingFlag := false, current := (t.patch.surface k).current } ∧
          (t.patch.surface k).current.commits t.patch k false)) ∧
      ((∀ l, s.patch.loader ≠ .busy l) →
        t.patch.sets = s.patch.sets ∧ t.patch.loader = s.patch.loader) ∧
      (∀ l, s.patch.loader = .busy l → l.set < s.patch.sets.length →
        (∀ k, t.patch.set k =
          if k = l.set then { s.patch.set k with state := .empty } else s.patch.set k) ∧
        (l.outstanding = [] → t.patch.loader = .idle) ∧
        (l.outstanding ≠ [] →
          t.patch.loader = .draining (l.outstanding.map (fun x => x.1)))) ∧
      t.pane.panes.length = s.pane.panes.length ∧
      ∀ (k : Nat) (p : Pane), s.pane.panes[k]? = some p → ∃ l : Playlist, l = { p.playlist with
          state := .idle, cueEntry := none, pass := 0, startRequest := none,
          resumeRequest := false, successor := none } ∧
        (p.settings = none → t.pane.panes[k]? = some { p with playlist := l }) ∧
        (∀ g, p.settings = some g → t.pane.panes[k]? = some { p with
          display := .dark, displayed := none, queue := [], acc := 0, flow := .go,
          underrunRun := 0, retriesUsed := 0, retryTimer := none, verdict := .none,
          counters := PaneCounters.zero, playlist := l })

/-- Every command line answers with its own code and a risen count, and one that is refused changes
nothing but the response and reports no result bytes (R171, R172). Each host command with a test is
refused with the status of the first test that fails, in the order of its rule; where a test of another
status stands earlier, the implication has that test passed as its premise (R40, R50, R67, R69, R70, R76,
R82, R83, R91, R110, R123, R130, R134, R136, R137, R141, R168, R169, R174, R176, R178). Where the
tests of the flag bytes stand is log entry 25, the numbers of the enumerations are log entry 27, and that
the lines of a pane set again are tested against its new slot region alone is log entry 37. -/
def Obligations.RefusedCommandsChangeNothing : Prop :=
  (∀ (c : Instr) (code : Nat) (s : State), commandCode c = some code → s.path.resetHeld = false →
    ∃ t, exec c s = .next t ∧ t.command.response.code = code ∧
      t.command.response.count = (s.command.response.count + 1) % 256 ∧
      (t.command.response.status ≠ .ok →
        t = { s with command := { s.command with response := t.command.response } } ∧
        t.command.response.result = [])) ∧
  ∀ (s : State) (tag : Nat), s.path.resetHeld = false → s.board.views.length = 4 →
    -- the Path, Clock and Board Units
    (∀ mode, 2 ≤ mode → s.refusesCommand (.setMode tag mode) 1 tag .param) ∧
    (∀ minute second, 2159 < minute ∨ 59 < second →
      s.refusesCommand (.setClock tag minute second) 3 tag .param) ∧
    (∀ minute origin, 2159 < minute ∨ 1439 < origin →
      s.refusesCommand (.dayStart tag minute origin) 4 tag .param) ∧
    (∀ words w, w ∈ words.take 7 → 64 ≤ w → w ≠ 255 →
      s.refusesCommand (.setWords tag words) 7 tag .param) ∧
    (∀ p : ViewParams, 4 ≤ p.view ∨ p.rows = 0 ∨ 16 < p.rows →
      s.refusesCommand (.setView tag p) 8 tag .param) ∧
    -- the Intake Unit
    (∀ p : IntakeParams,
      (s.path.mode = .enabled → s.refusesCommand (.setIntake tag p) 5 tag .wrongState) ∧
      (s.path.mode = .pass →
        p.base % 64 ≠ 0 ∨ p.length < 8 ∨ 1024 < p.length ∨
          (p.interval ≠ 1 ∧ p.interval ≠ 4 ∧ p.interval ≠ 8 ∧ p.interval ≠ 16) ∨
          2 ^ 40 < p.base + 64 * p.length ∨
          ¬ apart { base := p.base, size := 64 * p.length } s.intakeObstacles →
        s.refusesCommand (.setIntake tag p) 5 tag .param)) ∧
    -- the Notice Unit
    (∀ segment text, 64 ≤ segment →
      s.refusesCommand (.setSegment tag segment text) 13 tag .param) ∧
    (∀ p : TriggerParams,
      32 ≤ p.trigger ∨ 6 ≤ p.event ∨ (128 ≤ p.filter ∧ p.filter ≠ 255) ∨ 64 ≤ p.notice ∨
        8 ≤ p.priority ∨ 3 ≤ p.timing.mode ∨ (p.timing.mode = 2 ∧ 2 ≤ p.timing.endAction) ∨
        p.count = 0 ∨ 6 < p.count ∨
        (∃ item, item ∈ p.items.take p.count ∧ (69 ≤ item ∨
          (item < 64 ∧ ∀ g, s.notice.segments[item]? = some g → g.isDefined = false))) →
      s.refusesCommand (.setTrigger tag p) 14 tag .param) ∧
    (∀ trigger, 32 ≤ trigger → s.refusesCommand (.clearTrigger tag trigger) 15 tag .param) ∧
    -- the Patch Unit
    (∀ p : SurfaceParams,
      (12 ≤ p.surface → s.refusesCommand (.setSurface tag p) 9 tag .param) ∧
      (p.surface < 12 → s.path.mode = .enabled →
        s.refusesCommand (.setSurface tag p) 9 tag .wrongState) ∧
      (p.surface < 12 → s.path.mode = .pass →
        p.base % 64 ≠ 0 ∨ p.width < 16 ∨ 3840 < p.width ∨ p.height < 16 ∨ 2160 < p.height ∨
          p.stride % 64 ≠ 0 ∨ p.stride < p.width * 4 ∨ 65536 < p.stride ∨ 15 < p.scan ∨
          2 ^ 40 < p.base + p.stride * p.height ∨
          ¬ apart { base := p.base, size := p.stride * p.height }
            (s.surfaceObstacles p.surface) ∨
          ((s.patch.surface p.surface).state ≠ .unset ∧
            ((∃ n c, s.patch.cell n = some c ∧ c.config.surface = p.surface ∧
                (p.width < c.config.x + c.config.chars * 16 * c.config.scale ∨
                  p.height < c.config.y + 24 * c.config.scale)) ∨
              ∃ j g, j < 8 ∧ (s.pane.pane j).settings = some g ∧ g.surface = p.surface ∧
                (p.width < g.px + g.pw ∨ p.height < g.py + g.ph))) →
        s.refusesCommand (.setSurface tag p) 9 tag .param)) ∧
    (∀ p : CellParams,
      256 ≤ p.cell ∨ 12 ≤ p.surface ∨ (s.patch.surface p.surface).state = .unset ∨
        p.chars = 0 ∨ 40 < p.chars ∨ p.scale = 0 ∨ 4 < p.scale ∨ 7 < p.layer ∨
        1 < p.glyphSet ∨ 2 < p.just ∨ 1 < p.fullScreen ∨ 1 < p.twelveHour ∨ 4 < p.kind ∨
        (p.kind = 0 ∧ 63 < p.param1) ∨
        (p.kind = 1 ∧ (127 < p.param1 ∨ 5 < p.param2)) ∨
        (p.kind = 2 ∧ (3 < p.param1 ∨ 15 < p.param2 ∨ 5 < p.param3)) ∨
        (p.kind = 3 ∧ 11 < p.param1) ∨
        (s.patch.surface p.surface).width < p.x + p.chars * 16 * p.scale ∨
        (s.patch.surface p.surface).height < p.y + 24 * p.scale →
      s.refusesCommand (.setCell tag p) 10 tag .param) ∧
    (∀ cell, 256 ≤ cell → s.refusesCommand (.clearCell tag cell) 11 tag .param) ∧
    (∀ set source sum,
      (2 ≤ set ∨ source % 64 ≠ 0 ∨ 2 ^ 40 < source + 36864 →
        s.refusesCommand (.loadGlyphs tag set source sum) 12 tag .param) ∧
      (set < 2 → source % 64 = 0 → source + 36864 ≤ 2 ^ 40 → s.patch.loader ≠ .idle →
        s.refusesCommand (.loadGlyphs tag set source sum) 12 tag .busy)) ∧
    -- the Pane Unit
    (∀ p : PaneParams,
      (8 ≤ p.pane → s.refusesCommand (.setPane tag p) 16 tag .param) ∧
      (p.pane < 8 → s.path.mode = .enabled →
        s.refusesCommand (.setPane tag p) 16 tag .wrongState) ∧
      (p.pane < 8 → s.path.mode = .pass →
        12 ≤ p.surface ∨ (s.patch.surface p.surface).state = .unset ∨ p.px % 16 ≠ 0 ∨
          p.pw % 16 ≠ 0 ∨ p.pw < 16 ∨ p.ph = 0 ∨
          (s.patch.surface p.surface).width < p.px + p.pw ∨
          (s.patch.surface p.surface).height < p.py + p.ph ∨
          (∃ j g x y, j < 8 ∧ j ≠ p.pane ∧ (s.pane.pane j).settings = some g ∧
            g.surface = p.surface ∧ (p.px ≤ x ∧ x < p.px + p.pw ∧ p.py ≤ y ∧ y < p.py + p.ph) ∧
            (g.px ≤ x ∧ x < g.px + g.pw ∧ g.py ≤ y ∧ y < g.py + g.ph)) ∨
          p.slotBase % 64 ≠ 0 ∨ p.slotSize % 64 ≠ 0 ∨ p.slotSize < p.pw * p.ph * 4 ∨
          p.slotCount < 2 ∨ 8 < p.slotCount ∨
          2 ^ 40 < p.slotBase + p.slotCount * p.slotSize ∨
          ¬ apart { base := p.slotBase, size := p.slotCount * p.slotSize }
            (s.fixedSpans ++ paneSpans (s.pane.configuredBut p.pane)) ∨
          p.marker = p.cue ∨
          (∃ a, (a = p.marker ∨ a = p.cue) ∧ (a % 64 ≠ 0 ∨
            ¬ apart { base := a, size := 64 }
              ({ base := p.slotBase, size := p.slotCount * p.slotSize } :: s.fixedSpans ++
                paneSpans (s.pane.configuredBut p.pane)))) ∨
          2 < p.starvation ∨ p.retryTime ∉ [1, 2, 5, 10, 30, 60] ∨
          p.retryLimit ∉ [0, 1, 2, 3, 5, 10] →
        s.refusesCommand (.setPane tag p) 16 tag .param)) ∧
    (∀ pane first count entries,
      (8 ≤ pane ∨ count = 0 ∨ 8 < count ∨ 16 < first + count ∨
          (∃ e : EntryParams, e ∈ entries.take count ∧
            ((128 ≤ e.showNo ∧ e.showNo ≠ 255) ∨ 1 < e.valid ∨ 32 ≤ e.flags)) →
        s.refusesCommand (.setPlaylist tag pane first count entries) 17 tag .param) ∧
      (pane < 8 → 1 ≤ count → count ≤ 8 → first + count ≤ 16 →
        (∀ e : EntryParams, e ∈ entries.take count →
          (e.showNo < 128 ∨ e.showNo = 255) ∧ e.valid ≤ 1 ∧ e.flags < 32) →
        (s.pane.pane pane).playlist.state = .active →
        (∃ n, (s.pane.pane pane).playlist.cueEntry = some n ∧ first ≤ n ∧ n < first + count) →
        s.refusesCommand (.setPlaylist tag pane first count entries) 17 tag .busy)) ∧
    (∀ pane : Nat, 8 ≤ pane →
      (∀ entry now, s.refusesCommand (.playStart tag pane entry now) 18 tag .param) ∧
      s.refusesCommand (.playResume tag pane) 19 tag .param ∧
      s.refusesCommand (.playStop tag pane) 20 tag .param ∧
      s.refusesCommand (.paneClear tag pane) 21 tag .param) ∧
    (∀ pane : Nat, pane < 8 → (s.pane.pane pane).settings = none →
      (∀ entry now, s.refusesCommand (.playStart tag pane entry now) 18 tag .wrongState) ∧
      s.refusesCommand (.playResume tag pane) 19 tag .wrongState ∧
      s.refusesCommand (.playStop tag pane) 20 tag .wrongState ∧
      s.refusesCommand (.paneClear tag pane) 21 tag .wrongState) ∧
    (∀ pane : Nat, pane < 8 → (s.pane.pane pane).settings ≠ none →
      (∀ entry now,
        16 ≤ entry ∨ ((s.pane.pane pane).playlist.entry entry).valid = false ∨ 1 < now →
        s.refusesCommand (.playStart tag pane entry now) 18 tag .param) ∧
      ((s.pane.pane pane).playlist.state = .idle →
        s.refusesCommand (.playResume tag pane) 19 tag .wrongState)) ∧
    -- the Command Unit
    (∀ mask, mask % 4096 = 0 → s.refusesCommand (.clearCauses tag mask) 23 tag .param) ∧
    ∀ kind index,
      7 ≤ kind ∨ (∃ n, [128, 256, 64, 32, 256, 8, 4][kind]? = some n ∧ n ≤ index) →
      s.refusesCommand (.inspect tag kind index) 24 tag .param

/-! ### What every step keeps -/

/-- The Tally Unit stays sound: no show is oversold, a show's held field counts its holds, a closed or
cancelled show has none, every stored band is that of R9, and the lists keep their order and bounds
(R2, R3, R9, R23, R24, R25, R34). -/
def Obligations.TallyStaysSound : Prop :=
  ∀ s t : State, TallyInv s.tally → step s = .next t → TallyInv t.tally

/-- The Notice Unit stays sound: each stack holds exactly the notices of its surface, each once, by
falling priority, and a trigger is SPENT exactly when the table holds its notice (R57, R68, R73). -/
def Obligations.NoticesStaySound : Prop :=
  ∀ s t : State, NoticeInv s.notice → step s = .next t → NoticeInv t.notice

/-- Surfaces and cells stay sound: the idle timer runs exactly while a surface is ACTIVE, every cell
lies within a set surface with a target text of exactly chars characters, and every committed picture
lists each cell once, by rising cell number (R75, R76, R79, R80, R82, R86). -/
def Obligations.ScreensStaySound : Prop :=
  ∀ s t : State, ScreenInv s.patch → step s = .next t → ScreenInv t.patch

/-- The glyph store stays in canonical form within its 36,864 bytes a set, and the loader never has
more than twelve reads in flight (R90, R91, R161). -/
def Obligations.GlyphStoreStaysSound : Prop :=
  ∀ s t : State, GlyphInv s.patch → step s = .next t → GlyphInv t.patch

/-- Every configured pane stays sound: acc below the scan rate, the queue of distinct slots other than
the displayed one and one fewer than the slots at most, the underrun run below deglitch (R109,
R112, R115, R116, R121). -/
def Obligations.PanesStaySound : Prop :=
  ∀ s t : State, PanesInv s.pane → step s = .next t → PanesInv t.pane

/-- The Intake Unit stays sound: the queues keep their bounds, no line stands twice in them, and TAKEN
is DONE plus REFUSED plus SUPERSEDED plus the depth (R140, R143, R145, R149, R151, R161). -/
def Obligations.IntakeStaysSound : Prop :=
  ∀ s t : State, IntakeInv s.intake → step s = .next t → IntakeInv t.intake

/-- The Path Unit stays sound: at most 64 tracked reads, no pair twice, none under a reserved number,
and a pass-through run of at most 8 (R154, R156, R158, R162). -/
def Obligations.PathStaysSound : Prop :=
  ∀ s t : State, PathInv s.path → step s = .next t → PathInv t.path

/-- The clock and the views stay within their ranges: the clock holds only at 2159:59, a dwell timer
runs within its dwell, and a page is 0 or within its list; and a view whose change does not wait is
what the Patch Unit holds of it (R39, R44, R45, R46, R53, R164, R166, R167; that the Patch Unit holds a
view as last handed on is log entry 29). -/
def Obligations.ClockAndViewsStaySound : Prop :=
  ∀ s t : State, step s = .next t →
    (ClockInv s.clock → BoardInv s.board → ClockInv t.clock ∧ BoardInv t.board) ∧
      (HandedInv s → HandedInv t)

/-- The part is sound at the release of the reset input, whatever the straps, and so at State.reset
(R2, R24, R39, R56, R68, R75, R81, R90, R109, R152, R158, R162, R163, R166; that the Patch Unit holds
the views as last handed on is log entry 29). -/
def Obligations.SoundAtReset : Prop :=
  ∀ u : State,
    (u = State.reset ∨ ∃ straps s, exec (.resetRelease straps) s = .next u) →
      TallyInv u.tally ∧ NoticeInv u.notice ∧ ScreenInv u.patch ∧ GlyphInv u.patch ∧
        PanesInv u.pane ∧ IntakeInv u.intake ∧ PathInv u.path ∧ ClockInv u.clock ∧
        BoardInv u.board ∧ HandedInv u

/-! ### Computations the spec states whole -/

/-- The blend is that of R105: the adjusted alpha, exact products and one final division, the base at
alpha 0, the top at alpha 255, between the two at every alpha, and both where they are equal. The
patched line takes each pixel below the width from its governing cell, of the highest layer and then
the lowest number among the cells drawn in the line's mode, by the plate stage and the text stage of
R106 with the coverage of R104; a pixel no cell governs keeps the memory colour, or in full-screen mode
the plate colour; padding and every fourth byte are copied (R98, R102, R103). -/
def Obligations.BlendIsBetweenItsInputs : Prop :=
  (∀ base top alpha : Nat, base ≤ 255 → top ≤ 255 → alpha ≤ 255 →
    blend base top alpha =
      (top * (alpha + alpha / 128) + base * (256 - (alpha + alpha / 128)) + 128) / 256 ∧
    (alpha ≤ 127 → alphaOf alpha = alpha) ∧ (128 ≤ alpha → alphaOf alpha = alpha + 1) ∧
    (alpha = 0 → blend base top alpha = base) ∧ (alpha = 255 → blend base top alpha = top) ∧
    min base top ≤ blend base top alpha ∧ blend base top alpha ≤ max base top ∧
    (base = top → blend base top alpha = base)) ∧
  ∀ (u : PatchUnit) (f : Surface) (q : Picture) (y x0 : Nat) (data : Line),
    data.length = 64 → q.ordered →
    ∃ out, u.patchLine f q y x0 data = out ∧ out.length = 64 ∧ ∀ i, i < 16 →
      (f.width ≤ x0 + i → ∀ j, j < 4 → out[4 * i + j]? = data[4 * i + j]?) ∧
      (x0 + i < f.width → out[4 * i + 3]? = data[4 * i + 3]? ∧ ∃ m c : Colour,
        m = (if q.fullScreen = true then f.plate
          else { r := byteAt data (4 * i + 2), g := byteAt data (4 * i + 1),
                 b := byteAt data (4 * i) }) ∧
        out[4 * i]? = some (byte c.b) ∧ out[4 * i + 1]? = some (byte c.g) ∧
        out[4 * i + 2]? = some (byte c.r) ∧
        ((∀ n e, (n, e) ∈ q.records → ¬ e.draws q.fullScreen (x0 + i) y) → c = m) ∧
        ((∃ n e, (n, e) ∈ q.records ∧ e.draws q.fullScreen (x0 + i) y) →
          ∃ n e, q.governs n e (x0 + i) y) ∧
        ∀ n e a, q.governs n e (x0 + i) y → u.inks q e (x0 + i) y a →
          c.r = blend (blend m.r e.plate.r e.alpha) e.fg.r a ∧
          c.g = blend (blend m.g e.plate.g e.alpha) e.fg.g a ∧
          c.b = blend (blend m.b e.plate.b e.alpha) e.fg.b a)

/-- The target text is the source text cut to chars characters and padded with spaces on the side its
justification gives, always exactly chars characters (R86). The source text is what its source gives:
a segment, a field of a show or of the show in a row of a view as last handed on (log entry 29), blank
past the rows or the list, a top notice, or the time of day; that a row of a view renders a show that has
become EMPTY as R85 says for SHOW cells is log entry 19. The fields render as R49, R51 and R52 say,
a template as R72 says, and a time of day in two digits or in the 12-hour form (R48, R84, R85,
R167). -/
def Obligations.TargetTextsAreFitted : Prop :=
  (∀ (just : Just) (chars : Nat) (text : Text),
    (fitText just chars text).length = chars ∧
    ∃ left right, fitText just chars text =
        List.replicate left 32 ++ text.take chars ++ List.replicate right 32 ∧
      (just = .left → left = 0 ∧ right = chars - min text.length chars) ∧
      (just = .right → left = chars - min text.length chars ∧ right = 0) ∧
      (just = .centre → left = (chars - min text.length chars) / 2 ∧
        right = chars - min text.length chars - (chars - min text.length chars) / 2) ∧
      ((∀ c, c ∈ text → 32 ≤ c ∧ c ≤ 126) →
        ∀ c, c ∈ fitText just chars text → 32 ≤ c ∧ c ≤ 126)) ∧
  (∀ n, n < 10000000000 → (decimal n).foldl (fun v c => 10 * v + (c - 48)) 0 = n ∧
    decimal n ≠ [] ∧ (∀ c, c ∈ decimal n → 48 ≤ c ∧ c ≤ 57) ∧
    ((decimal n).head? = some 48 → n = 0)) ∧
  (∀ t, t < 1440 →
    timeText false t = [48 + t / 600, 48 + t / 60 % 10, 58, 48 + t % 60 / 10, 48 + t % 10] ∧
    timeText true t = decimal (if t / 60 % 12 = 0 then 12 else t / 60 % 12) ++
      [58, 48 + t % 60 / 10, 48 + t % 10, if t < 720 then 97 else 112]) ∧
  (∀ left w, (left < 10 ^ w → seatsText left w = decimal left) ∧
    (10 ^ w ≤ left → 2 ≤ w → seatsText left w = decimal (10 ^ (w - 1) - 1) ++ [43]) ∧
    (10 ^ w ≤ left → w = 1 → seatsText left w = [43])) ∧
  (∀ (words : List (Option Nat)) (u : NoticeUnit) (origin width : Nat) (twelve : Bool) (w : Show)
      (render : Field → Text), render = fieldText words u origin twelve width w →
    (w.state ≠ .empty → render .auditorium = decimal w.auditorium ∧
      render .start = timeText twelve ((origin + (w.start + w.delay)) % 1440) ∧
      render .title = w.title ∧
      (w.delay = 0 → render .delay = []) ∧
      (0 < w.delay → render .delay = [43] ++ decimal w.delay)) ∧
    (w.state = .empty → render .auditorium = [] ∧ render .start = [] ∧ render .title = [] ∧
      render .delay = []) ∧
    (w.state = .cancelled ∨ w.state = .closed ∨ w.state = .empty → render .seats = []) ∧
    (w.state = .listed ∨ w.state = .boarding ∨ w.state = .started → render .seats =
      seatsText (w.capacity - (w.sold + w.held + w.blocked)) width) ∧
    (w.state = .closed ∨ w.state = .empty → render .status = []) ∧
    (∀ place, (w.state = .cancelled ∧ place = 0 ∨
        (w.state = .listed ∨ w.state = .boarding ∨ w.state = .started) ∧
          (w.band = .soldOut ∧ place = 1 ∨
            w.band ≠ .soldOut ∧ (w.state = .started ∧ place = 2 ∨
              w.state = .boarding ∧ place = 3 ∨
              w.state = .listed ∧ (w.band = .almost ∧ place = 4 ∨
                w.band = .filling ∧ place = 5 ∨ w.band = .plenty ∧ place = 6)))) →
      (words.getD place none = none → render .status = []) ∧
      (∀ k g, words.getD place none = some k → u.segments[k]? = some g →
        render .status = g.text)) ∧
    ∀ items, templateText words u origin w items =
      (items.flatMap (fun i => match i with
        | .segment k => u.segmentText k
        | .field f => fieldText words u origin false 4 w f)).take 40) ∧
  ∀ (s : State) (c : CellConfig) (field : Nat → Field → Text),
    (∀ n f, field n f = fieldText s.board.words s.notice s.clock.origin c.twelveHour c.chars
      (s.tally.entry n) f) →
    s.targetText c = fitText c.just c.chars (s.sourceText c) ∧
    (∀ k g, c.source = .fixed k → s.notice.segments[k]? = some g → s.sourceText c = g.text) ∧
    (∀ n f, c.source = .showField n f → s.sourceText c = field n f) ∧
    (∀ v row f w, c.source = .board v row f → s.patch.viewPages[v]? = some w →
      (w.rows ≤ row → s.sourceText c = []) ∧
      (w.list.length ≤ w.page * w.rows + row → s.sourceText c = []) ∧
      (∀ n, row < w.rows → w.list[w.page * w.rows + row]? = some n →
        s.sourceText c = field n f)) ∧
    (∀ k, c.source = .notice k → s.sourceText c = s.patch.noticeText.getD k []) ∧
    (c.source = .clock → s.sourceText c =
      timeText c.twelveHour ((s.clock.origin + s.clock.minute) % 1440))

end Claims
end

