-- ==== Sys2Proof/Laws/State.lean ====
section
/-! SUPPORT. One lemma for each field of State after each shared update, so that no proof unfolds a
record update. -/

namespace Sys2Proof.Machine

section
variable (s : State) (u : PathUnit)

@[simp] theorem State.withPath_path : (s.withPath u).path = u := rfl
@[simp] theorem State.withPath_clock : (s.withPath u).clock = s.clock := rfl
@[simp] theorem State.withPath_tally : (s.withPath u).tally = s.tally := rfl
@[simp] theorem State.withPath_board : (s.withPath u).board = s.board := rfl
@[simp] theorem State.withPath_notice : (s.withPath u).notice = s.notice := rfl
@[simp] theorem State.withPath_patch : (s.withPath u).patch = s.patch := rfl
@[simp] theorem State.withPath_pane : (s.withPath u).pane = s.pane := rfl
@[simp] theorem State.withPath_intake : (s.withPath u).intake = s.intake := rfl
@[simp] theorem State.withPath_command : (s.withPath u).command = s.command := rfl
@[simp] theorem State.withPath_pending : (s.withPath u).pending = s.pending := rfl

end

section
variable (s : State) (u : ClockUnit)

@[simp] theorem State.withClock_path : (s.withClock u).path = s.path := rfl
@[simp] theorem State.withClock_clock : (s.withClock u).clock = u := rfl
@[simp] theorem State.withClock_tally : (s.withClock u).tally = s.tally := rfl
@[simp] theorem State.withClock_board : (s.withClock u).board = s.board := rfl
@[simp] theorem State.withClock_notice : (s.withClock u).notice = s.notice := rfl
@[simp] theorem State.withClock_patch : (s.withClock u).patch = s.patch := rfl
@[simp] theorem State.withClock_pane : (s.withClock u).pane = s.pane := rfl
@[simp] theorem State.withClock_intake : (s.withClock u).intake = s.intake := rfl
@[simp] theorem State.withClock_command : (s.withClock u).command = s.command := rfl
@[simp] theorem State.withClock_pending : (s.withClock u).pending = s.pending := rfl

end

section
variable (s : State) (u : TallyUnit)

@[simp] theorem State.withTally_path : (s.withTally u).path = s.path := rfl
@[simp] theorem State.withTally_clock : (s.withTally u).clock = s.clock := rfl
@[simp] theorem State.withTally_tally : (s.withTally u).tally = u := rfl
@[simp] theorem State.withTally_board : (s.withTally u).board = s.board := rfl
@[simp] theorem State.withTally_notice : (s.withTally u).notice = s.notice := rfl
@[simp] theorem State.withTally_patch : (s.withTally u).patch = s.patch := rfl
@[simp] theorem State.withTally_pane : (s.withTally u).pane = s.pane := rfl
@[simp] theorem State.withTally_intake : (s.withTally u).intake = s.intake := rfl
@[simp] theorem State.withTally_command : (s.withTally u).command = s.command := rfl
@[simp] theorem State.withTally_pending : (s.withTally u).pending = s.pending := rfl

end

section
variable (s : State) (u : BoardUnit)

@[simp] theorem State.withBoard_path : (s.withBoard u).path = s.path := rfl
@[simp] theorem State.withBoard_clock : (s.withBoard u).clock = s.clock := rfl
@[simp] theorem State.withBoard_tally : (s.withBoard u).tally = s.tally := rfl
@[simp] theorem State.withBoard_board : (s.withBoard u).board = u := rfl
@[simp] theorem State.withBoard_notice : (s.withBoard u).notice = s.notice := rfl
@[simp] theorem State.withBoard_patch : (s.withBoard u).patch = s.patch := rfl
@[simp] theorem State.withBoard_pane : (s.withBoard u).pane = s.pane := rfl
@[simp] theorem State.withBoard_intake : (s.withBoard u).intake = s.intake := rfl
@[simp] theorem State.withBoard_command : (s.withBoard u).command = s.command := rfl
@[simp] theorem State.withBoard_pending : (s.withBoard u).pending = s.pending := rfl

end

section
variable (s : State) (u : NoticeUnit)

@[simp] theorem State.withNotice_path : (s.withNotice u).path = s.path := rfl
@[simp] theorem State.withNotice_clock : (s.withNotice u).clock = s.clock := rfl
@[simp] theorem State.withNotice_tally : (s.withNotice u).tally = s.tally := rfl
@[simp] theorem State.withNotice_board : (s.withNotice u).board = s.board := rfl
@[simp] theorem State.withNotice_notice : (s.withNotice u).notice = u := rfl
@[simp] theorem State.withNotice_patch : (s.withNotice u).patch = s.patch := rfl
@[simp] theorem State.withNotice_pane : (s.withNotice u).pane = s.pane := rfl
@[simp] theorem State.withNotice_intake : (s.withNotice u).intake = s.intake := rfl
@[simp] theorem State.withNotice_command : (s.withNotice u).command = s.command := rfl
@[simp] theorem State.withNotice_pending : (s.withNotice u).pending = s.pending := rfl

end

section
variable (s : State) (u : PatchUnit)

@[simp] theorem State.withPatch_path : (s.withPatch u).path = s.path := rfl
@[simp] theorem State.withPatch_clock : (s.withPatch u).clock = s.clock := rfl
@[simp] theorem State.withPatch_tally : (s.withPatch u).tally = s.tally := rfl
@[simp] theorem State.withPatch_board : (s.withPatch u).board = s.board := rfl
@[simp] theorem State.withPatch_notice : (s.withPatch u).notice = s.notice := rfl
@[simp] theorem State.withPatch_patch : (s.withPatch u).patch = u := rfl
@[simp] theorem State.withPatch_pane : (s.withPatch u).pane = s.pane := rfl
@[simp] theorem State.withPatch_intake : (s.withPatch u).intake = s.intake := rfl
@[simp] theorem State.withPatch_command : (s.withPatch u).command = s.command := rfl
@[simp] theorem State.withPatch_pending : (s.withPatch u).pending = s.pending := rfl

end

section
variable (s : State) (u : PaneUnit)

@[simp] theorem State.withPane_path : (s.withPane u).path = s.path := rfl
@[simp] theorem State.withPane_clock : (s.withPane u).clock = s.clock := rfl
@[simp] theorem State.withPane_tally : (s.withPane u).tally = s.tally := rfl
@[simp] theorem State.withPane_board : (s.withPane u).board = s.board := rfl
@[simp] theorem State.withPane_notice : (s.withPane u).notice = s.notice := rfl
@[simp] theorem State.withPane_patch : (s.withPane u).patch = s.patch := rfl
@[simp] theorem State.withPane_pane : (s.withPane u).pane = u := rfl
@[simp] theorem State.withPane_intake : (s.withPane u).intake = s.intake := rfl
@[simp] theorem State.withPane_command : (s.withPane u).command = s.command := rfl
@[simp] theorem State.withPane_pending : (s.withPane u).pending = s.pending := rfl

end

section
variable (s : State) (u : IntakeUnit)

@[simp] theorem State.withIntake_path : (s.withIntake u).path = s.path := rfl
@[simp] theorem State.withIntake_clock : (s.withIntake u).clock = s.clock := rfl
@[simp] theorem State.withIntake_tally : (s.withIntake u).tally = s.tally := rfl
@[simp] theorem State.withIntake_board : (s.withIntake u).board = s.board := rfl
@[simp] theorem State.withIntake_notice : (s.withIntake u).notice = s.notice := rfl
@[simp] theorem State.withIntake_patch : (s.withIntake u).patch = s.patch := rfl
@[simp] theorem State.withIntake_pane : (s.withIntake u).pane = s.pane := rfl
@[simp] theorem State.withIntake_intake : (s.withIntake u).intake = u := rfl
@[simp] theorem State.withIntake_command : (s.withIntake u).command = s.command := rfl
@[simp] theorem State.withIntake_pending : (s.withIntake u).pending = s.pending := rfl

end

section
variable (s : State) (u : CommandUnit)

@[simp] theorem State.withCommand_path : (s.withCommand u).path = s.path := rfl
@[simp] theorem State.withCommand_clock : (s.withCommand u).clock = s.clock := rfl
@[simp] theorem State.withCommand_tally : (s.withCommand u).tally = s.tally := rfl
@[simp] theorem State.withCommand_board : (s.withCommand u).board = s.board := rfl
@[simp] theorem State.withCommand_notice : (s.withCommand u).notice = s.notice := rfl
@[simp] theorem State.withCommand_patch : (s.withCommand u).patch = s.patch := rfl
@[simp] theorem State.withCommand_pane : (s.withCommand u).pane = s.pane := rfl
@[simp] theorem State.withCommand_intake : (s.withCommand u).intake = s.intake := rfl
@[simp] theorem State.withCommand_command : (s.withCommand u).command = u := rfl
@[simp] theorem State.withCommand_pending : (s.withCommand u).pending = s.pending := rfl

end

section
variable (s : State) (u : List Instr)

@[simp] theorem State.withPending_path : (s.withPending u).path = s.path := rfl
@[simp] theorem State.withPending_clock : (s.withPending u).clock = s.clock := rfl
@[simp] theorem State.withPending_tally : (s.withPending u).tally = s.tally := rfl
@[simp] theorem State.withPending_board : (s.withPending u).board = s.board := rfl
@[simp] theorem State.withPending_notice : (s.withPending u).notice = s.notice := rfl
@[simp] theorem State.withPending_patch : (s.withPending u).patch = s.patch := rfl
@[simp] theorem State.withPending_pane : (s.withPending u).pane = s.pane := rfl
@[simp] theorem State.withPending_intake : (s.withPending u).intake = s.intake := rfl
@[simp] theorem State.withPending_command : (s.withPending u).command = s.command := rfl
@[simp] theorem State.withPending_pending : (s.withPending u).pending = u := rfl

end

section
variable (s : State) (code tag : Nat) (status : Status) (result : List Byte)

@[simp] theorem State.respond_path : (s.respond code tag status result).path = s.path := rfl
@[simp] theorem State.respond_clock : (s.respond code tag status result).clock = s.clock := rfl
@[simp] theorem State.respond_tally : (s.respond code tag status result).tally = s.tally := rfl
@[simp] theorem State.respond_board : (s.respond code tag status result).board = s.board := rfl
@[simp] theorem State.respond_notice : (s.respond code tag status result).notice = s.notice := rfl
@[simp] theorem State.respond_patch : (s.respond code tag status result).patch = s.patch := rfl
@[simp] theorem State.respond_pane : (s.respond code tag status result).pane = s.pane := rfl
@[simp] theorem State.respond_intake : (s.respond code tag status result).intake = s.intake := rfl
@[simp] theorem State.respond_pending : (s.respond code tag status result).pending = s.pending := rfl
@[simp] theorem State.respond_causes :
    (s.respond code tag status result).command.causes = s.command.causes := rfl
@[simp] theorem State.respond_mask :
    (s.respond code tag status result).command.mask = s.command.mask := rfl
@[simp] theorem State.respond_copyKind :
    (s.respond code tag status result).command.copyKind = s.command.copyKind := rfl
@[simp] theorem State.respond_copyIndex :
    (s.respond code tag status result).command.copyIndex = s.command.copyIndex := rfl
@[simp] theorem State.respond_copyCount :
    (s.respond code tag status result).command.copyCount = s.command.copyCount := rfl
@[simp] theorem State.respond_copyBytes :
    (s.respond code tag status result).command.copyBytes = s.command.copyBytes := rfl
@[simp] theorem State.respond_response :
    (s.respond code tag status result).command.response =
      { code := code, tag := tag, status := status, count := wrapInc s.command.response.count,
        result := result } := rfl

end

section
variable (s : State) (c : Cause)

@[simp] theorem State.raise_path : (s.raise c).path = s.path := rfl
@[simp] theorem State.raise_clock : (s.raise c).clock = s.clock := rfl
@[simp] theorem State.raise_tally : (s.raise c).tally = s.tally := rfl
@[simp] theorem State.raise_board : (s.raise c).board = s.board := rfl
@[simp] theorem State.raise_notice : (s.raise c).notice = s.notice := rfl
@[simp] theorem State.raise_patch : (s.raise c).patch = s.patch := rfl
@[simp] theorem State.raise_pane : (s.raise c).pane = s.pane := rfl
@[simp] theorem State.raise_intake : (s.raise c).intake = s.intake := rfl
@[simp] theorem State.raise_pending : (s.raise c).pending = s.pending := rfl
@[simp] theorem State.raise_command : (s.raise c).command = s.command.raise c := rfl
@[simp] theorem CommandUnit.raise_response (u : CommandUnit) : (u.raise c).response = u.response := rfl
@[simp] theorem CommandUnit.raise_mask (u : CommandUnit) : (u.raise c).mask = u.mask := rfl
@[simp] theorem CommandUnit.raise_copyKind (u : CommandUnit) : (u.raise c).copyKind = u.copyKind := rfl
@[simp] theorem CommandUnit.raise_copyIndex (u : CommandUnit) : (u.raise c).copyIndex = u.copyIndex := rfl
@[simp] theorem CommandUnit.raise_copyCount (u : CommandUnit) : (u.raise c).copyCount = u.copyCount := rfl
@[simp] theorem CommandUnit.raise_copyBytes (u : CommandUnit) : (u.raise c).copyBytes = u.copyBytes := rfl

end

section
variable (s : State) (u : TallyUnit) (out : List BoardEvent)

@[simp] theorem State.tallyDone_path : (s.tallyDone u out).path = s.path := rfl
@[simp] theorem State.tallyDone_clock : (s.tallyDone u out).clock = s.clock := rfl
@[simp] theorem State.tallyDone_intake : (s.tallyDone u out).intake = s.intake := rfl
@[simp] theorem State.tallyDone_command : (s.tallyDone u out).command = s.command := rfl
@[simp] theorem State.tallyDone_pending : (s.tallyDone u out).pending = s.pending := rfl
@[simp] theorem State.tallyDone_tally : (s.tallyDone u out).tally = u := rfl
@[simp] theorem State.tallyDone_board :
    (s.tallyDone u out).board = { s.board with inbox := s.board.inbox ++ out } := rfl
@[simp] theorem State.tallyDone_notice :
    (s.tallyDone u out).notice =
      { s.notice with inbox := s.notice.inbox ++ tallyEventsOf out } := rfl
@[simp] theorem State.tallyDone_pane :
    (s.tallyDone u out).pane = { s.pane with inbox := s.pane.inbox ++ tallyEventsOf out } := rfl
@[simp] theorem State.tallyDone_patch :
    (s.tallyDone u out).patch =
      { s.patch with fromTally := s.patch.fromTally ++ changedShows s.tally.shows u.shows } := rfl

end

section
variable (s : State) (v : Nat) (w : BoardView)

/-- A view handed on changes what the Patch Unit holds of that view alone. -/
theorem State.handView_eq :
    s.handView v = { s with patch := { s.patch with
      viewPages := match s.board.views[v]? with
        | none => s.patch.viewPages
        | some w => s.patch.viewPages.set v w.shown } } := by
  unfold State.handView
  cases s.board.views[v]? <;> rfl

@[simp] theorem State.handView_path : (s.handView v).path = s.path := by rw [State.handView_eq]
@[simp] theorem State.handView_clock : (s.handView v).clock = s.clock := by rw [State.handView_eq]
@[simp] theorem State.handView_tally : (s.handView v).tally = s.tally := by rw [State.handView_eq]
@[simp] theorem State.handView_board : (s.handView v).board = s.board := by rw [State.handView_eq]
@[simp] theorem State.handView_notice : (s.handView v).notice = s.notice := by rw [State.handView_eq]
@[simp] theorem State.handView_pane : (s.handView v).pane = s.pane := by rw [State.handView_eq]
@[simp] theorem State.handView_intake : (s.handView v).intake = s.intake := by rw [State.handView_eq]
@[simp] theorem State.handView_command : (s.handView v).command = s.command := by rw [State.handView_eq]
@[simp] theorem State.handView_pending : (s.handView v).pending = s.pending := by rw [State.handView_eq]
@[simp] theorem PatchUnit.takeView_cells (p : PatchUnit) : (p.takeView v w).cells = p.cells := rfl
@[simp] theorem PatchUnit.takeView_surfaces (p : PatchUnit) :
    (p.takeView v w).surfaces = p.surfaces := rfl
@[simp] theorem PatchUnit.takeView_sets (p : PatchUnit) : (p.takeView v w).sets = p.sets := rfl
@[simp] theorem PatchUnit.takeView_loader (p : PatchUnit) : (p.takeView v w).loader = p.loader := rfl
@[simp] theorem PatchUnit.takeView_viewPages (p : PatchUnit) :
    (p.takeView v w).viewPages = p.viewPages.set v w.shown := rfl
@[simp] theorem State.handView_cells : (s.handView v).patch.cells = s.patch.cells := by
  rw [State.handView_eq]
@[simp] theorem State.handView_surfaces : (s.handView v).patch.surfaces = s.patch.surfaces := by
  rw [State.handView_eq]
@[simp] theorem State.handView_sets : (s.handView v).patch.sets = s.patch.sets := by
  rw [State.handView_eq]
@[simp] theorem State.handView_loader : (s.handView v).patch.loader = s.patch.loader := by
  rw [State.handView_eq]

end

section
variable (s : State) (views : List BoardView)

@[simp] theorem State.boardDone_path : (s.boardDone views).path = s.path := rfl
@[simp] theorem State.boardDone_clock : (s.boardDone views).clock = s.clock := rfl
@[simp] theorem State.boardDone_tally : (s.boardDone views).tally = s.tally := rfl
@[simp] theorem State.boardDone_notice : (s.boardDone views).notice = s.notice := rfl
@[simp] theorem State.boardDone_pane : (s.boardDone views).pane = s.pane := rfl
@[simp] theorem State.boardDone_intake : (s.boardDone views).intake = s.intake := rfl
@[simp] theorem State.boardDone_command : (s.boardDone views).command = s.command := rfl
@[simp] theorem State.boardDone_pending : (s.boardDone views).pending = s.pending := rfl
@[simp] theorem State.boardDone_board : (s.boardDone views).board = { s.board with views := views } := rfl
@[simp] theorem State.boardDone_patch :
    (s.boardDone views).patch =
      { s.patch with fromBoard := s.patch.fromBoard ++ changedViews 0 s.board.views views } := rfl

end

section
variable (s : State) (u : NoticeUnit)

@[simp] theorem State.noticeDone_path : (s.noticeDone u).path = s.path := rfl
@[simp] theorem State.noticeDone_clock : (s.noticeDone u).clock = s.clock := rfl
@[simp] theorem State.noticeDone_tally : (s.noticeDone u).tally = s.tally := rfl
@[simp] theorem State.noticeDone_board : (s.noticeDone u).board = s.board := rfl
@[simp] theorem State.noticeDone_intake : (s.noticeDone u).intake = s.intake := rfl
@[simp] theorem State.noticeDone_command : (s.noticeDone u).command = s.command := rfl
@[simp] theorem State.noticeDone_pending : (s.noticeDone u).pending = s.pending := rfl
@[simp] theorem State.noticeDone_notice : (s.noticeDone u).notice = u := rfl
@[simp] theorem State.noticeDone_patch :
    (s.noticeDone u).patch =
      { s.patch with fromNotice := s.patch.fromNotice ++ handOns s.notice u } := rfl
@[simp] theorem State.noticeDone_pane :
    (s.noticeDone u).pane =
      { s.pane with
        flagInbox := s.pane.flagInbox ++
          (handOns s.notice u).map (fun h => (h.surface, h.fullScreen)) } := rfl

end

section
variable (s : State) (r : Request) (a : Response) (k : Tracked) (i t : Nat)

@[simp] theorem State.forward_clock : (s.forward r).clock = s.clock := rfl
@[simp] theorem State.forward_tally : (s.forward r).tally = s.tally := rfl
@[simp] theorem State.forward_board : (s.forward r).board = s.board := rfl
@[simp] theorem State.forward_notice : (s.forward r).notice = s.notice := rfl
@[simp] theorem State.forward_patch : (s.forward r).patch = s.patch := rfl
@[simp] theorem State.forward_pane : (s.forward r).pane = s.pane := rfl
@[simp] theorem State.forward_intake : (s.forward r).intake = s.intake := rfl
@[simp] theorem State.forward_command : (s.forward r).command = s.command := rfl
@[simp] theorem State.forward_pending : (s.forward r).pending = s.pending := rfl
@[simp] theorem State.sendUp_clock : (s.sendUp a).clock = s.clock := rfl
@[simp] theorem State.sendUp_tally : (s.sendUp a).tally = s.tally := rfl
@[simp] theorem State.sendUp_board : (s.sendUp a).board = s.board := rfl
@[simp] theorem State.sendUp_notice : (s.sendUp a).notice = s.notice := rfl
@[simp] theorem State.sendUp_patch : (s.sendUp a).patch = s.patch := rfl
@[simp] theorem State.sendUp_pane : (s.sendUp a).pane = s.pane := rfl
@[simp] theorem State.sendUp_intake : (s.sendUp a).intake = s.intake := rfl
@[simp] theorem State.sendUp_command : (s.sendUp a).command = s.command := rfl
@[simp] theorem State.sendUp_pending : (s.sendUp a).pending = s.pending := rfl
@[simp] theorem State.sendDown_clock : (s.sendDown r).clock = s.clock := rfl
@[simp] theorem State.sendDown_tally : (s.sendDown r).tally = s.tally := rfl
@[simp] theorem State.sendDown_board : (s.sendDown r).board = s.board := rfl
@[simp] theorem State.sendDown_notice : (s.sendDown r).notice = s.notice := rfl
@[simp] theorem State.sendDown_patch : (s.sendDown r).patch = s.patch := rfl
@[simp] theorem State.sendDown_pane : (s.sendDown r).pane = s.pane := rfl
@[simp] theorem State.sendDown_intake : (s.sendDown r).intake = s.intake := rfl
@[simp] theorem State.sendDown_command : (s.sendDown r).command = s.command := rfl
@[simp] theorem State.sendDown_pending : (s.sendDown r).pending = s.pending := rfl
@[simp] theorem State.track_clock : (s.track r k).clock = s.clock := rfl
@[simp] theorem State.track_tally : (s.track r k).tally = s.tally := rfl
@[simp] theorem State.track_board : (s.track r k).board = s.board := rfl
@[simp] theorem State.track_notice : (s.track r k).notice = s.notice := rfl
@[simp] theorem State.track_patch : (s.track r k).patch = s.patch := rfl
@[simp] theorem State.track_pane : (s.track r k).pane = s.pane := rfl
@[simp] theorem State.track_intake : (s.track r k).intake = s.intake := rfl
@[simp] theorem State.track_command : (s.track r k).command = s.command := rfl
@[simp] theorem State.track_pending : (s.track r k).pending = s.pending := rfl
@[simp] theorem State.untrack_clock : (s.untrack i t).clock = s.clock := rfl
@[simp] theorem State.untrack_tally : (s.untrack i t).tally = s.tally := rfl
@[simp] theorem State.untrack_board : (s.untrack i t).board = s.board := rfl
@[simp] theorem State.untrack_notice : (s.untrack i t).notice = s.notice := rfl
@[simp] theorem State.untrack_patch : (s.untrack i t).patch = s.patch := rfl
@[simp] theorem State.untrack_pane : (s.untrack i t).pane = s.pane := rfl
@[simp] theorem State.untrack_intake : (s.untrack i t).intake = s.intake := rfl
@[simp] theorem State.untrack_command : (s.untrack i t).command = s.command := rfl
@[simp] theorem State.untrack_pending : (s.untrack i t).pending = s.pending := rfl
@[simp] theorem State.forward_path_resetHeld :
    (s.forward r).path.resetHeld = s.path.resetHeld := rfl
@[simp] theorem State.forward_path_straps :
    (s.forward r).path.straps = s.path.straps := rfl
@[simp] theorem State.forward_path_mode :
    (s.forward r).path.mode = s.path.mode := rfl
@[simp] theorem State.forward_path_table :
    (s.forward r).path.table = s.path.table := rfl
@[simp] theorem State.forward_path_waiting :
    (s.forward r).path.waiting = s.path.waiting := rfl
@[simp] theorem State.forward_path_stream :
    (s.forward r).path.stream = s.path.stream ++ [r] := rfl
@[simp] theorem State.forward_path_run :
    (s.forward r).path.run = s.path.run := rfl
@[simp] theorem State.forward_path_readErrors :
    (s.forward r).path.readErrors = s.path.readErrors := rfl
@[simp] theorem State.forward_path_reservedCount :
    (s.forward r).path.reservedCount = s.path.reservedCount := rfl
@[simp] theorem State.forward_path_upOut :
    (s.forward r).path.upOut = s.path.upOut := rfl
@[simp] theorem State.forward_path_downOut :
    (s.forward r).path.downOut = s.path.downOut := rfl
@[simp] theorem State.sendUp_path_resetHeld :
    (s.sendUp a).path.resetHeld = s.path.resetHeld := rfl
@[simp] theorem State.sendUp_path_straps :
    (s.sendUp a).path.straps = s.path.straps := rfl
@[simp] theorem State.sendUp_path_mode :
    (s.sendUp a).path.mode = s.path.mode := rfl
@[simp] theorem State.sendUp_path_table :
    (s.sendUp a).path.table = s.path.table := rfl
@[simp] theorem State.sendUp_path_waiting :
    (s.sendUp a).path.waiting = s.path.waiting := rfl
@[simp] theorem State.sendUp_path_stream :
    (s.sendUp a).path.stream = s.path.stream := rfl
@[simp] theorem State.sendUp_path_run :
    (s.sendUp a).path.run = s.path.run := rfl
@[simp] theorem State.sendUp_path_readErrors :
    (s.sendUp a).path.readErrors = s.path.readErrors := rfl
@[simp] theorem State.sendUp_path_reservedCount :
    (s.sendUp a).path.reservedCount = s.path.reservedCount := rfl
@[simp] theorem State.sendUp_path_upOut :
    (s.sendUp a).path.upOut = s.path.upOut ++ [a] := rfl
@[simp] theorem State.sendUp_path_downOut :
    (s.sendUp a).path.downOut = s.path.downOut := rfl
@[simp] theorem State.sendDown_path_resetHeld :
    (s.sendDown r).path.resetHeld = s.path.resetHeld := rfl
@[simp] theorem State.sendDown_path_straps :
    (s.sendDown r).path.straps = s.path.straps := rfl
@[simp] theorem State.sendDown_path_mode :
    (s.sendDown r).path.mode = s.path.mode := rfl
@[simp] theorem State.sendDown_path_table :
    (s.sendDown r).path.table = s.path.table := rfl
@[simp] theorem State.sendDown_path_waiting :
    (s.sendDown r).path.waiting = s.path.waiting := rfl
@[simp] theorem State.sendDown_path_stream :
    (s.sendDown r).path.stream = s.path.stream := rfl
@[simp] theorem State.sendDown_path_run :
    (s.sendDown r).path.run = s.path.run := rfl
@[simp] theorem State.sendDown_path_readErrors :
    (s.sendDown r).path.readErrors = s.path.readErrors := rfl
@[simp] theorem State.sendDown_path_reservedCount :
    (s.sendDown r).path.reservedCount = s.path.reservedCount := rfl
@[simp] theorem State.sendDown_path_upOut :
    (s.sendDown r).path.upOut = s.path.upOut := rfl
@[simp] theorem State.sendDown_path_downOut :
    (s.sendDown r).path.downOut = s.path.downOut ++ [r] := rfl
@[simp] theorem State.track_path_resetHeld :
    (s.track r k).path.resetHeld = s.path.resetHeld := rfl
@[simp] theorem State.track_path_straps :
    (s.track r k).path.straps = s.path.straps := rfl
@[simp] theorem State.track_path_mode :
    (s.track r k).path.mode = s.path.mode := rfl
@[simp] theorem State.track_path_table :
    (s.track r k).path.table = s.path.table ++ [{ initiator := r.initiator, txn := r.txn, tracked := k }] := rfl
@[simp] theorem State.track_path_waiting :
    (s.track r k).path.waiting = s.path.waiting := rfl
@[simp] theorem State.track_path_stream :
    (s.track r k).path.stream = s.path.stream := rfl
@[simp] theorem State.track_path_run :
    (s.track r k).path.run = s.path.run := rfl
@[simp] theorem State.track_path_readErrors :
    (s.track r k).path.readErrors = s.path.readErrors := rfl
@[simp] theorem State.track_path_reservedCount :
    (s.track r k).path.reservedCount = s.path.reservedCount := rfl
@[simp] theorem State.track_path_upOut :
    (s.track r k).path.upOut = s.path.upOut := rfl
@[simp] theorem State.track_path_downOut :
    (s.track r k).path.downOut = s.path.downOut := rfl
@[simp] theorem State.untrack_path_resetHeld :
    (s.untrack i t).path.resetHeld = s.path.resetHeld := rfl
@[simp] theorem State.untrack_path_straps :
    (s.untrack i t).path.straps = s.path.straps := rfl
@[simp] theorem State.untrack_path_mode :
    (s.untrack i t).path.mode = s.path.mode := rfl
@[simp] theorem State.untrack_path_table :
    (s.untrack i t).path.table = s.path.table.filter (fun e => !e.hasPair i t) := rfl
@[simp] theorem State.untrack_path_waiting :
    (s.untrack i t).path.waiting = s.path.waiting := rfl
@[simp] theorem State.untrack_path_stream :
    (s.untrack i t).path.stream = s.path.stream := rfl
@[simp] theorem State.untrack_path_run :
    (s.untrack i t).path.run = s.path.run := rfl
@[simp] theorem State.untrack_path_readErrors :
    (s.untrack i t).path.readErrors = s.path.readErrors := rfl
@[simp] theorem State.untrack_path_reservedCount :
    (s.untrack i t).path.reservedCount = s.path.reservedCount := rfl
@[simp] theorem State.untrack_path_upOut :
    (s.untrack i t).path.upOut = s.path.upOut := rfl
@[simp] theorem State.untrack_path_downOut :
    (s.untrack i t).path.downOut = s.path.downOut := rfl

end

end Sys2Proof.Machine
end

