-- ==== Sys2Proof/Laws/Ops.lean ====
section
/-! SUPPORT. What the shared operations do, once for each: the reset guard, counters, causes, the
response, the events handed on, and reading a list after one place is set. -/

namespace Sys2Proof.Machine

/-! ### One place of a list -/

/-- Reading a list by number after a place is set: the new value there, the old one elsewhere. -/
theorem getD_set {α : Type} (l : List α) (k j : Nat) (x d : α) :
    (l.set k x).getD j d = if j = k ∧ k < l.length then x else l.getD j d := by
  simp only [List.getD_eq_getElem?_getD, List.getElem?_set]
  grind

/-- Reading a mapped list by number, for a map that keeps the default. -/
theorem getD_map {α β : Type} (f : α → β) (l : List α) (k : Nat) (d : α) :
    (l.map f).getD k (f d) = f (l.getD k d) := by
  simp only [List.getD_eq_getElem?_getD, List.getElem?_map]
  cases l[k]? <;> rfl

/-- A value read by number is an element or the default. -/
theorem getD_mem_or {α : Type} (l : List α) (k : Nat) (d : α) : l.getD k d ∈ l ∨ l.getD k d = d := by
  rw [List.getD_eq_getElem?_getD]
  rcases h : l[k]? with _ | x
  · exact .inr rfl
  · exact .inl (List.mem_of_getElem? h)

/-- Setting a place to what it holds changes nothing. -/
theorem set_getD_self {α : Type} (l : List α) (k : Nat) (d : α) : l.set k (l.getD k d) = l := by
  apply List.ext_getElem?
  intro i
  rw [List.getElem?_set]
  split
  · next h =>
    subst h
    split
    · next hk => simp [List.getD_eq_getElem?_getD, List.getElem?_eq_getElem hk]
    · next hk => simp [List.getElem?_eq_none (Nat.le_of_not_lt hk)]
  · rfl

/-! ### The reset guard -/

/-- While the reset input is asserted nothing happens. -/
theorem whenRunning_held {f : State → State} {s : State} (h : s.path.resetHeld = true) :
    whenRunning f s = .next s := by simp [whenRunning, h]

/-- While the part runs the effect takes place. -/
theorem whenRunning_runs {f : State → State} {s : State} (h : s.path.resetHeld = false) :
    whenRunning f s = .next (f s) := by simp [whenRunning, h]

/-- What a guarded command can answer. -/
theorem whenRunning_next {f : State → State} {s t : State} (h : whenRunning f s = .next t) :
    (s.path.resetHeld = true ∧ t = s) ∨ (s.path.resetHeld = false ∧ t = f s) := by
  unfold whenRunning at h
  split at h
  · next hr => exact .inl ⟨hr, by injection h with h; exact h.symm⟩
  · next hr => exact .inr ⟨by simpa using hr, by injection h with h; exact h.symm⟩

/-- A guarded command always completes. -/
theorem whenRunning_completes (f : State → State) (s : State) : ∃ t, whenRunning f s = .next t := by
  unfold whenRunning
  split <;> exact ⟨_, rfl⟩

/-- As `whenRunning_runs`, for an effect that may stop. -/
theorem unlessReset_runs {f : State → Host.Outcome State Fault Refusal} {s : State}
    (h : s.path.resetHeld = false) : unlessReset f s = f s := by simp [unlessReset, h]

/-- As `whenRunning_next`, for an effect that may stop. -/
theorem unlessReset_next {f : State → Host.Outcome State Fault Refusal} {s t : State}
    (h : unlessReset f s = .next t) :
    (s.path.resetHeld = true ∧ t = s) ∨ (s.path.resetHeld = false ∧ f s = .next t) := by
  unfold unlessReset at h
  split at h
  · next hr => exact .inl ⟨hr, by injection h with h; exact h.symm⟩
  · next hr => exact .inr ⟨by simpa using hr, h⟩

/-! ### Counters -/

/-- A statistical counter below its top rises by one. -/
theorem satInc_below {n : Nat} (h : n < 65535) : satInc n = n + 1 := by simp [satInc, h]

/-- A statistical counter at its top stays. -/
theorem satInc_top {n : Nat} (h : 65535 ≤ n) : satInc n = n := by
  simp [satInc, Nat.not_lt.mpr h]

/-- A statistical counter never falls and never rises by more than one. -/
theorem satInc_bounds (n : Nat) : n ≤ satInc n ∧ satInc n ≤ n + 1 := by
  unfold satInc
  split <;> omega

/-- A generation after one rise lies below 256. -/
theorem wrapInc_lt (n : Nat) : wrapInc n < 256 := Nat.mod_lt _ (by decide)

/-! ### Causes and the response -/

/-- Causes set one after the other change the cause field alone. -/
theorem raiseAll_eq (l : List Cause) (s : State) :
    s.raiseAll l =
      s.withCommand { s.command with
        causes := l.foldl (fun c x => c ||| x.bit) s.command.causes } := by
  induction l generalizing s with
  | nil => rfl
  | cons c cs ih => simp [State.raiseAll, ih, State.raise, CommandUnit.raise, State.withCommand]

/-- No cause to set changes nothing. -/
@[simp] theorem raiseAll_nil (s : State) : s.raiseAll [] = s := rfl

/-- The response of a command replaces the whole response and nothing else. -/
theorem respond_eq (s : State) (code tag : Nat) (status : Status) (result : List Byte) :
    s.respond code tag status result =
      { s with command := { s.command with response := s.responseTo code tag status result } } :=
  rfl

/-- A command refused changes the response alone. -/
theorem refuse_eq (s : State) (code tag : Nat) (status : Status) :
    s.refuse code tag status =
      { s with command := { s.command with response := s.responseTo code tag status [] } } := rfl

/-- A command answered OK changes the response alone. -/
theorem answer_eq (s : State) (code tag : Nat) (result : List Byte) :
    s.answer code tag result =
      { s with command := { s.command with response := s.responseTo code tag .ok result } } := rfl

/-- A guarded command whose effect is a refusal refuses. -/
theorem refusesCommand_of {f : State → State} {s : State} {c : Instr} {code tag : Nat}
    {status : Status} (hr : s.path.resetHeld = false) (he : exec c s = whenRunning f s)
    (h : f s = s.refuse code tag status) : s.refusesCommand c code tag status := by
  rw [State.refusesCommand, he, whenRunning_runs hr, h, refuse_eq]

/-! ### Places in the address space -/

/-- Two ranges meet exactly when some address lies in both. -/
theorem Span.meets_iff (a b : Span) :
    a.meets b = true ↔ ∃ x, a.holds x = true ∧ b.holds x = true := by
  simp only [Span.meets, Span.holds, Bool.and_eq_true, decide_eq_true_eq]
  constructor
  · intro h
    exact ⟨max a.base b.base, by omega, by omega⟩
  · rintro ⟨x, h, k⟩
    omega

/-- A range meets a place of a list exactly when it is not apart from the list. -/
theorem meetsAny_iff (r : Span) (l : List Span) : meetsAny r l = true ↔ ¬ apart r l := by
  simp only [meetsAny, List.any_eq_true, Span.meets_iff, apart]
  grind

/-- A range lies within the address space exactly when its end does. -/
theorem Span.inSpace_iff (a : Span) : a.inSpace = true ↔ a.base + a.size ≤ 1099511627776 :=
  ⟨fun h => of_decide_eq_true h, fun h => decide_eq_true h⟩

/-- The settings of the configured panes but for one are those of the other panes. -/
theorem PaneUnit.mem_configuredBut (u : PaneUnit) (k : Nat) (g : PaneSettings) :
    g ∈ u.configuredBut k ↔ ∃ j, j ≠ k ∧ (u.pane j).settings = some g := by
  simp only [PaneUnit.configuredBut, PaneUnit.configured, List.mem_map, List.mem_filter,
    List.mem_filterMap]
  constructor
  · rintro ⟨⟨j, d⟩, ⟨⟨⟨p, i⟩, hm, hs⟩, hk⟩, rfl⟩
    obtain ⟨e, he, hd⟩ := Option.map_eq_some_iff.mp hs
    obtain ⟨rfl, rfl⟩ := Prod.mk.inj hd
    have hp : u.panes[i]? = some p := by simpa using List.mem_zipIdx_iff_getElem?.mp hm
    exact ⟨i, by simpa using hk, by
      simpa [PaneUnit.pane, List.getD_eq_getElem?_getD, hp] using he⟩
  · rintro ⟨j, hj, hg⟩
    rcases hp : u.panes[j]? with _ | p
    · simp [PaneUnit.pane, List.getD_eq_getElem?_getD, hp, Pane.vacant] at hg
    · exact ⟨(j, g), ⟨⟨(p, j), by rw [List.mem_zipIdx_iff_getElem?]; simpa using hp, by
        simpa [PaneUnit.pane, List.getD_eq_getElem?_getD, hp] using hg⟩, by simpa using hj⟩, rfl⟩

/-! ### Events handed on -/

/-- The tally events of two lists of hand-ons. -/
theorem tallyEventsOf_append (a b : List BoardEvent) :
    tallyEventsOf (a ++ b) = tallyEventsOf a ++ tallyEventsOf b := by
  induction a with
  | nil => rfl
  | cons e rest ih => cases e <;> simp [tallyEventsOf, ih]

/-- Hand-ons that are tally events only. -/
theorem tallyEventsOf_map (l : List TallyEvent) : tallyEventsOf (l.map BoardEvent.tally) = l := by
  induction l with
  | nil => rfl
  | cons e rest ih => simp [tallyEventsOf, ih]

/-- No show differs from itself. -/
@[simp] theorem changedShows_self (l : List Show) : changedShows l l = [] := by
  simp [changedShows]

/-- The Patch Unit hears of a show exactly when its entry differs. -/
theorem mem_changedShows (a b : List Show) (n : Nat) :
    n ∈ changedShows a b ↔ n < 128 ∧ a.getD n Show.vacant ≠ b.getD n Show.vacant := by
  simp [changedShows]

/-- An event that leaves the unit as it was and emits nothing changes nothing. -/
theorem tallyDone_idle (s : State) : s.tallyDone s.tally [] = s := by
  simp [State.tallyDone, tallyEventsOf]

end Sys2Proof.Machine
end

