-- ==== Sys2Proof/Laws/Glyphs.lean ====
section
/-! SUPPORT. The glyph memory: reading after writing, the canonical form every write keeps, and the
offsets it lists (R90, R92). -/

namespace Sys2Proof.Machine

/-! ### The canonical form -/

/-- The canonical form from a higher offset holds from a lower one. -/
theorem Memory.wfFrom_mono {m : List Host.Cell} {a b : Nat} (hab : a ≤ b)
    (h : Memory.wfFrom b m = true) : Memory.wfFrom a m = true := by
  cases m with
  | nil => rfl
  | cons c rest =>
    simp only [Memory.wfFrom, Bool.and_eq_true, decide_eq_true_eq] at h ⊢
    exact ⟨⟨by omega, h.1.2⟩, h.2⟩

/-- Below the first listed offset every byte reads as unlisted. -/
theorem readByte_below {m : List Host.Cell} {lo a : Nat} (h : Memory.wfFrom lo m = true)
    (ha : a < lo) : readByte m a = unlistedByte := by
  induction m generalizing lo with
  | nil => rfl
  | cons c rest ih =>
    simp only [Memory.wfFrom, Bool.and_eq_true, decide_eq_true_eq] at h
    have : c.1 ≠ a := by omega
    simp only [readByte, this, if_false]
    exact ih h.2 (by omega)

/-- One write keeps the canonical form from any offset at or below the one written. -/
theorem wfFrom_writeByte {m : List Host.Cell} {lo a : Nat} {b : Byte}
    (h : Memory.wfFrom lo m = true) (ha : lo ≤ a) :
    Memory.wfFrom lo (writeByte m a b) = true := by
  induction m generalizing lo with
  | nil =>
    simp only [writeByte]
    split
    · rfl
    · next hb => simp [Memory.wfFrom, ha, hb]
  | cons c rest ih =>
    simp only [Memory.wfFrom, Bool.and_eq_true, decide_eq_true_eq] at h
    simp only [writeByte]
    split
    · next hlt =>
      simp only [Memory.wfFrom, Bool.and_eq_true, decide_eq_true_eq]
      exact ⟨h.1, ih h.2 (by omega)⟩
    · next hlt =>
      split
      · next heq =>
        split
        · exact Memory.wfFrom_mono (by omega) h.2
        · next hb =>
          simp only [Memory.wfFrom, Bool.and_eq_true, decide_eq_true_eq]
          exact ⟨⟨ha, by simpa using hb⟩, by rw [← heq]; exact h.2⟩
      · next hne =>
        split
        · simp only [Memory.wfFrom, Bool.and_eq_true, decide_eq_true_eq]; exact h
        · next hb =>
          simp only [Memory.wfFrom, Bool.and_eq_true, decide_eq_true_eq]
          exact ⟨⟨ha, by simpa using hb⟩, ⟨by omega, h.1.2⟩, h.2⟩

/-- One write keeps the canonical form. -/
theorem wf_writeByte {m : List Host.Cell} (h : Memory.wf m = true) (a : Nat) (b : Byte) :
    Memory.wf (writeByte m a b) = true := wfFrom_writeByte h (Nat.zero_le a)

/-- A run of writes keeps the canonical form. -/
theorem wf_writeBytes {m : List Host.Cell} (h : Memory.wf m = true) (a : Nat) (l : List Byte) :
    Memory.wf (writeBytes m a l) = true := by
  induction l generalizing m a with
  | nil => exact h
  | cons b rest ih => exact ih (wf_writeByte h a b) (a + 1)

/-- The memory of power-on is in canonical form. -/
theorem wf_powerOn (k : Nat) : Memory.wf (PatchUnit.powerOn.set k).bytes = true := by
  rcases k with _ | _ | k <;> rfl

/-! ### Reading after writing -/

/-- A read after one write: the byte written there, the old byte elsewhere. -/
theorem readByte_writeByte {m : List Host.Cell} (h : Memory.wf m = true) (a x : Nat) (b : Byte) :
    readByte (writeByte m a b) x = if x = a then b else readByte m x := by
  suffices ∀ lo, Memory.wfFrom lo m = true →
      readByte (writeByte m a b) x = if x = a then b else readByte m x from this 0 h
  clear h
  induction m with
  | nil =>
    intro lo _
    by_cases hb : b = unlistedByte <;> by_cases hx : x = a <;> simp [writeByte, readByte, hb, hx]
    exact fun he => absurd he.symm hx
  | cons c rest ih =>
    intro lo h
    simp only [Memory.wfFrom, Bool.and_eq_true, decide_eq_true_eq] at h
    simp only [writeByte]
    split
    · next hlt =>
      simp only [readByte]
      by_cases hc : c.1 = x
      · have : x ≠ a := by omega
        simp [hc, this]
      · simp only [hc, if_false]
        exact ih _ h.2
    · next hlt =>
      split
      · next heq =>
        split
        · next hb =>
          by_cases hx : x = a
          · subst hx
            simp only [if_true, hb]
            exact readByte_below h.2 (by omega)
          · simp only [hx, if_false, readByte]
            rw [if_neg (by omega)]
        · simp only [readByte]
          by_cases hx : x = a
          · simp [hx]
          · rw [if_neg (by omega), if_neg hx, if_neg (by omega)]
      · next hne =>
        have hr : a < c.1 := by omega
        split
        · next hb =>
          by_cases hx : x = a
          · subst hx
            simp only [if_true, hb, readByte]
            rw [if_neg (by omega)]
            exact readByte_below h.2 (by omega)
          · simp [hx]
        · simp only [readByte]
          by_cases hx : x = a
          · simp [hx]
          · rw [if_neg (by omega), if_neg hx]

/-- A read after a run of writes: the run's byte within it, the old byte elsewhere. -/
theorem readByte_writeBytes {m : List Host.Cell} (h : Memory.wf m = true) (a x : Nat)
    (l : List Byte) :
    readByte (writeBytes m a l) x =
      if a ≤ x ∧ x < a + l.length then l.getD (x - a) 0 else readByte m x := by
  induction l generalizing m a with
  | nil => simp only [writeBytes, List.length_nil]; rw [if_neg (by omega)]
  | cons b rest ih =>
    rw [writeBytes, ih (wf_writeByte h a b), readByte_writeByte h]
    simp only [List.length_cons]
    by_cases hx : x = a
    · subst hx
      rw [if_neg (by omega), if_pos rfl, if_pos (by omega)]
      simp
    · rw [if_neg hx]
      by_cases hi : a + 1 ≤ x ∧ x < a + 1 + rest.length
      · rw [if_pos hi, if_pos (by omega), show x - a = (x - (a + 1)) + 1 by omega]
        simp
      · rw [if_neg hi, if_neg (by omega)]

/-! ### The offsets listed -/

/-- A write lists no offset but the one written and those listed before. -/
theorem mem_writeByte {m : List Host.Cell} {a : Nat} {b : Byte} {c : Host.Cell}
    (h : c ∈ writeByte m a b) : c ∈ m ∨ c.1 = a := by
  induction m with
  | nil =>
    simp only [writeByte] at h
    split at h
    · exact .inl h
    · simp only [List.mem_singleton] at h; exact .inr (by rw [h])
  | cons d rest ih =>
    simp only [writeByte] at h
    split at h
    · rcases List.mem_cons.mp h with rfl | h
      · exact .inl (List.mem_cons_self ..)
      · rcases ih h with h | h
        · exact .inl (List.mem_cons_of_mem _ h)
        · exact .inr h
    · split at h
      · split at h
        · exact .inl (List.mem_cons_of_mem _ h)
        · rcases List.mem_cons.mp h with rfl | h
          · exact .inr rfl
          · exact .inl (List.mem_cons_of_mem _ h)
      · split at h
        · exact .inl h
        · rcases List.mem_cons.mp h with rfl | h
          · exact .inr rfl
          · exact .inl h

/-- A run of writes lists no offset but those written and those listed before. -/
theorem mem_writeBytes {m : List Host.Cell} {a : Nat} {l : List Byte} {c : Host.Cell}
    (h : c ∈ writeBytes m a l) : c ∈ m ∨ (a ≤ c.1 ∧ c.1 < a + l.length) := by
  induction l generalizing m a with
  | nil => exact .inl h
  | cons b rest ih =>
    simp only [List.length_cons]
    rcases ih h with h | h
    · rcases mem_writeByte h with h | h
      · exact .inl h
      · exact .inr (by omega)
    · exact .inr (by omega)

/-! ### The sets -/

/-- Reading a set after one is replaced. -/
theorem PatchUnit.putSet_set (p : PatchUnit) (k j : Nat) (g : GlyphSet) :
    (p.putSet k g).set j = if j = k ∧ k < p.sets.length then g else p.set j := getD_set ..

end Sys2Proof.Machine
end

