-- ==== Sys2Proof/Laws/Patch.lean ====
section
/-! SUPPORT. What a commit and a derivation can change: a commit the picture of g of IDLE surfaces, a
derivation the cells and those pictures (R87, R88, R89). -/

namespace Sys2Proof.Machine

/-! ### Surfaces and cells by number -/

/-- Reading a surface after one is replaced. -/
theorem putSurface_surface (p : PatchUnit) (k j : Nat) (f : Surface) :
    (p.putSurface k f).surface j = if j = k ∧ k < p.surfaces.length then f else p.surface j :=
  getD_set ..

/-- A surface that is not UNSET stands in the table. -/
theorem surface_in_table {p : PatchUnit} {k : Nat} (h : (p.surface k).state ≠ .unset) :
    k < p.surfaces.length := by
  by_contra hk
  apply h
  simp [PatchUnit.surface, List.getD_eq_getElem?_getD, List.getElem?_eq_none (Nat.le_of_not_lt hk),
    Surface.vacant]

/-- Reading a cell after one is replaced. -/
theorem cell_set (p : PatchUnit) (k n : Nat) (c : Option Cell) :
    ({ p with cells := p.cells.set k c }).cell n =
      if n = k ∧ k < p.cells.length then c else p.cell n := by
  simp only [PatchUnit.cell, List.getElem?_set]
  grind

/-- Reading a cell of a mapped table. -/
theorem cell_map (p : PatchUnit) (f : Option Cell → Option Cell) (hf : f none = none) (n : Nat) :
    ({ p with cells := p.cells.map f }).cell n = f (p.cell n) := by
  simp only [PatchUnit.cell, List.getElem?_map]
  rcases p.cells[n]? with _ | _ | c <;> simp [hf]

/-! ### Pictures -/

/-- The records of a surface are those of the cells in use on it. -/
theorem mem_recordsOn (k : Nat) (l : List (Option Cell)) (i n : Nat) (r : CellRecord) :
    (n, r) ∈ recordsOn k i l ↔
      i ≤ n ∧ ∃ c, l[n - i]? = some (some c) ∧ c.config.surface = k ∧ r = c.record := by
  induction l generalizing i with
  | nil => simp [recordsOn]
  | cons x rest ih =>
    have step : (n, r) ∈ recordsOn k (i + 1) rest ↔
        i < n ∧ ∃ c, (x :: rest)[n - i]? = some (some c) ∧ c.config.surface = k ∧ r = c.record := by
      rw [ih]
      constructor
      · rintro ⟨h, c, hc⟩
        refine ⟨by omega, c, ?_⟩
        rw [show n - i = (n - (i + 1)) + 1 by omega]
        simpa using hc
      · rintro ⟨h, c, hc⟩
        refine ⟨by omega, c, ?_⟩
        rw [show n - i = (n - (i + 1)) + 1 by omega] at hc
        simpa using hc
    rcases x with _ | c
    · rw [recordsOn, step]
      constructor
      · rintro ⟨h, c, hc⟩; exact ⟨by omega, c, hc⟩
      · rintro ⟨h, c, hc⟩
        refine ⟨?_, c, hc⟩
        rcases Nat.lt_or_eq_of_le h with h | h
        · exact h
        · subst h; simp at hc
    · by_cases hk : c.config.surface = k
      · rw [recordsOn, if_pos hk, List.mem_cons, step]
        constructor
        · rintro (h | ⟨h, d, hd⟩)
          · obtain ⟨rfl, rfl⟩ := Prod.mk.inj h
            exact ⟨Nat.le_refl _, c, by simp, hk, rfl⟩
          · exact ⟨by omega, d, hd⟩
        · rintro ⟨h, d, hd⟩
          rcases Nat.lt_or_eq_of_le h with h | h
          · exact .inr ⟨h, d, hd⟩
          · subst h
            simp only [Nat.sub_self, List.getElem?_cons_zero, Option.some.injEq] at hd
            obtain ⟨rfl, -, rfl⟩ := hd
            exact .inl rfl
      · rw [recordsOn, if_neg hk, step]
        constructor
        · rintro ⟨h, d, hd⟩; exact ⟨by omega, d, hd⟩
        · rintro ⟨h, d, hd⟩
          refine ⟨?_, d, hd⟩
          rcases Nat.lt_or_eq_of_le h with h | h
          · exact h
          · subst h
            simp only [Nat.sub_self, List.getElem?_cons_zero, Option.some.injEq] at hd
            obtain ⟨rfl, h, -⟩ := hd
            exact absurd h hk

/-- The records of a surface stand by rising cell number. -/
theorem recordsOn_ordered (k : Nat) (l : List (Option Cell)) (i : Nat) :
    (recordsOn k i l).Pairwise (fun a b => a.1 < b.1) := by
  induction l generalizing i with
  | nil => exact .nil
  | cons x rest ih =>
    rcases x with _ | c
    · exact ih (i + 1)
    · rw [recordsOn]
      split
      · refine .cons (fun a ha => ?_) (ih (i + 1))
        exact ((mem_recordsOn k rest (i + 1) a.1 a.2).1 ha).1
      · exact ih (i + 1)

/-- A new picture lists each cell once, by rising number. -/
theorem newPicture_ordered (p : PatchUnit) (k : Nat) (f : Surface) : (p.newPicture k f).ordered :=
  recordsOn_ordered k p.cells 0

/-- A new picture holds exactly what step 3 of R88 says. -/
theorem newPicture_commits (p : PatchUnit) (k : Nat) (f : Surface) :
    (p.newPicture k f).commits p k f.pendingFlag := by
  refine ⟨newPicture_ordered p k f, rfl, rfl, rfl, fun n r => ?_⟩
  simp only [PatchUnit.newPicture, mem_recordsOn, Nat.zero_le, true_and, Nat.sub_zero,
    PatchUnit.cell]
  rcases p.cells[n]? with _ | _ | c <;> simp

/-- What a picture holds depends on the cells and the glyph sets alone. -/
theorem commits_congr {q : Picture} {p w : PatchUnit} {k : Nat} {flag : Bool}
    (hc : w.cells = p.cells) (hs : w.sets = p.sets) (h : q.commits p k flag) :
    q.commits w k flag := by
  obtain ⟨h0, h1, h2, h3, h4⟩ := h
  refine ⟨h0, h1, ?_, ?_, ?_⟩
  · rw [h2]; simp [PatchUnit.setState, hs]
  · rw [h3]; simp [PatchUnit.setState, hs]
  · intro n r; rw [h4]; simp [PatchUnit.cell, hc]

/-! ### Commits -/

/-- A commit changes the surfaces alone. -/
theorem commitIdle_eq (p : PatchUnit) (k : Nat) :
    p.commitIdle k = { p with surfaces := (p.commitIdle k).surfaces } := by
  unfold PatchUnit.commitIdle
  split <;> rfl

/-- A commit changes at most the picture of g of the one surface, where that is IDLE. -/
theorem commitIdle_surface (p : PatchUnit) (k j : Nat) :
    (p.commitIdle k).surface j =
      if j = k ∧ (p.surface k).state = .idle then
        { p.surface k with current := p.newPicture k (p.surface k) }
      else p.surface j := by
  unfold PatchUnit.commitIdle
  split
  · next h =>
    have hk := surface_in_table (p := p) (k := k) (by simp [h])
    rw [putSurface_surface]
    simp [hk, h]
  · next h => simp [h]

/-- A commit of a surface keeps how many there are. -/
theorem commitIdle_length (p : PatchUnit) (k : Nat) :
    (p.commitIdle k).surfaces.length = p.surfaces.length := by
  unfold PatchUnit.commitIdle
  split <;> simp [PatchUnit.putSurface]

/-- Commits change the surfaces alone. -/
theorem commitIdleEach_eq (p : PatchUnit) (l : List Nat) :
    p.commitIdleEach l = { p with surfaces := (p.commitIdleEach l).surfaces } := by
  induction l generalizing p with
  | nil => rfl
  | cons k rest ih =>
    rw [PatchUnit.commitIdleEach, ih, commitIdle_eq]

/-- Commits of a list of surfaces: each IDLE one of the list takes a new picture of g. -/
theorem commitIdleEach_surface (p : PatchUnit) (l : List Nat) (j : Nat) :
    (p.commitIdleEach l).surface j =
      if j ∈ l ∧ (p.surface j).state = .idle then
        { p.surface j with current := p.newPicture j (p.surface j) }
      else p.surface j := by
  induction l generalizing p with
  | nil => simp [PatchUnit.commitIdleEach]
  | cons k rest ih =>
    have hn : ∀ f, (p.commitIdle k).newPicture j f = p.newPicture j f := by
      intro f; rw [commitIdle_eq]; rfl
    rw [PatchUnit.commitIdleEach, ih, hn, commitIdle_surface]
    by_cases hj : j = k
    · subst hj
      by_cases hi : (p.surface j).state = .idle <;> simp [hi, PatchUnit.newPicture]
    · simp [hj]

/-- Commits keep how many surfaces there are. -/
theorem commitIdleEach_length (p : PatchUnit) (l : List Nat) :
    (p.commitIdleEach l).surfaces.length = p.surfaces.length := by
  induction l generalizing p with
  | nil => rfl
  | cons k rest ih => rw [PatchUnit.commitIdleEach, ih, commitIdle_length]

/-! ### Deriving afresh -/

/-- A derivation changes the cells and the surfaces of the Patch Unit alone. -/
theorem derive_eq (s : State) (reached : Source → Bool) :
    s.derive reached =
      { s with patch := { s.patch with
        cells := s.patch.cells.map (s.derivedCell reached)
        surfaces := (s.derive reached).patch.surfaces } } := by
  unfold State.derive State.withPatch
  rw [commitIdleEach_eq]

/-- A source text is read from the state-word table, the segments, the show table, the clock, and the
views and top-notice texts as last handed on alone. -/
theorem targetText_congr {s t : State} (hb : t.board.words = s.board.words)
    (hv : t.patch.viewPages = s.patch.viewPages) (hg : t.notice.segments = s.notice.segments)
    (ht : t.tally.shows = s.tally.shows) (ho : t.clock.origin = s.clock.origin)
    (hm : t.clock.minute = s.clock.minute) (hn : t.patch.noticeText = s.patch.noticeText)
    (c : CellConfig) : t.targetText c = s.targetText c := by
  have hseg : ∀ k, t.notice.segmentText k = s.notice.segmentText k := by
    intro k; simp [NoticeUnit.segmentText, hg]
  have hstat : ∀ words w, statusText words t.notice w = statusText words s.notice w := by
    intro words w; simp only [statusText, hseg]
  have hfield : ∀ words o b k w f,
      fieldText words t.notice o b k w f = fieldText words s.notice o b k w f := by
    intro words o b k w f; cases f <;> simp only [fieldText, hstat]
  have hent : ∀ n, t.tally.entry n = s.tally.entry n := by
    intro n; simp [TallyUnit.entry, ht]
  have hshow : ∀ v r, t.patch.showAt v r = s.patch.showAt v r := by
    intro v r; simp [PatchUnit.showAt, hv]
  unfold State.targetText State.sourceText
  rcases c.source with k | ⟨n, f⟩ | ⟨v, r, f⟩ | k | _ <;>
    simp [hseg, hfield, hb, ho, hm, hent, hn, hshow]

/-- The cells after a derivation follow their sources. -/
theorem derive_cell (s : State) (reached : Source → Bool) (n : Nat) :
    (s.derive reached).patch.cell n = (s.patch.cell n).map (fun c =>
      if reached c.config.source then { c with target := s.targetText c.config } else c) := by
  rw [derive_eq]
  show ({ s.patch with cells := s.patch.cells.map (s.derivedCell reached) }).cell n = _
  rw [cell_map _ _ rfl]
  rcases s.patch.cell n with _ | c
  · rfl
  · simp only [State.derivedCell, Option.map_some]
    split <;> rfl

/-- The texts a state derives are those it would derive after the derivation. -/
theorem derive_targetText (s : State) (reached : Source → Bool) (c : CellConfig) :
    (s.derive reached).targetText c = s.targetText c := by
  rw [derive_eq]
  exact targetText_congr rfl rfl rfl rfl rfl rfl rfl c

/-- A surface with a cell whose text changed is touched. -/
theorem touches_of_changed {k n : Nat} {a b : Cell} {l m : List (Option Cell)}
    (ha : l[n]? = some (some a)) (hb : m[n]? = some (some b)) (hk : b.config.surface = k)
    (ht : a.target ≠ b.target) : touches k l m = true := by
  induction n generalizing l m with
  | zero =>
    rcases l with _ | ⟨x, l⟩ <;> rcases m with _ | ⟨y, m⟩ <;> simp at ha hb
    subst ha; subst hb
    simp [touches, hk, ht]
  | succ n ih =>
    rcases l with _ | ⟨x, l⟩ <;> rcases m with _ | ⟨y, m⟩ <;> simp at ha hb
    have h := ih ha hb
    rcases x with _ | x <;> rcases y with _ | y <;> simp [touches, h]

/-- The surfaces after a derivation: only IDLE ones whose cells changed have a new picture of g. -/
theorem derive_surface (s : State) (reached : Source → Bool) (k : Nat) :
    (s.derive reached).patch.surface k =
      if (k < 12 ∧ touches k s.patch.cells (s.patch.cells.map (s.derivedCell reached)) = true) ∧
          (s.patch.surface k).state = .idle then
        { s.patch.surface k with
          current := ({ s.patch with cells := s.patch.cells.map (s.derivedCell reached) }).newPicture
            k (s.patch.surface k) }
      else s.patch.surface k := by
  unfold State.derive State.withPatch
  show (PatchUnit.commitIdleEach _ _).surface k = _
  rw [commitIdleEach_surface]
  simp [surfaceNumbers, PatchUnit.surface]

/-- After a derivation from a state that has the cells of `s`, the cells are those of `s` with the
reached ones derived. -/
theorem derive_cellsFollow {s u : State} (reached : Source → Bool)
    (hc : u.patch.cells = s.patch.cells) : s.cellsFollow (u.derive reached) reached := by
  intro n
  rw [derive_cell]
  simp only [derive_targetText, PatchUnit.cell, hc]

/-- After a derivation from a state that has the cells and surfaces of `s`, surfaces that are not IDLE
wait. -/
theorem derive_surfacesWait {s u : State} (reached : Source → Bool)
    (hf : u.patch.surfaces = s.patch.surfaces) : s.surfacesWait (u.derive reached) := by
  intro k
  have hs : u.patch.surface k = s.patch.surface k := by simp [PatchUnit.surface, hf]
  rw [derive_surface, hs]
  split
  · next h =>
    refine .inr ⟨h.2, rfl, ?_⟩
    refine commits_congr (p := { u.patch with
      cells := u.patch.cells.map (u.derivedCell reached) }) ?_ ?_ (newPicture_commits _ _ _) <;>
      rw [derive_eq]
  · exact .inl rfl

/-- After a derivation from a state that has the cells and surfaces of `s`, an IDLE surface shows each
changed cell. -/
theorem derive_idleShows {s u : State} (reached : Source → Bool)
    (hc : u.patch.cells = s.patch.cells) (hf : u.patch.surfaces = s.patch.surfaces) :
    s.idleShows (u.derive reached) := by
  intro k n c d hk hi hcell hd hon hne
  have hs : u.patch.surface k = s.patch.surface k := by simp [PatchUnit.surface, hf]
  have hu : u.patch.cells[n]? = some (some c) := by
    rw [hc]
    simp only [PatchUnit.cell] at hcell
    rcases h : s.patch.cells[n]? with _ | x
    · simp [h] at hcell
    · simp [h] at hcell; simp [hcell]
  have hm : (u.patch.cells.map (u.derivedCell reached))[n]? = some (some d) := by
    have h2 : ((u.derive reached).patch.cells)[n]? =
        (u.patch.cells[n]?).map (u.derivedCell reached) := by
      rw [derive_eq]; simp
    simp only [PatchUnit.cell, h2, hu] at hd
    simp only [List.getElem?_map, hu]
    simpa using hd
  have hds : d.config.surface = k := by
    have := hm
    simp only [List.getElem?_map, hu, Option.map_some, Option.some.injEq, State.derivedCell] at this
    split at this <;> simp only [Option.some.injEq] at this <;> rw [← this] <;> exact hon
  rw [derive_surface, hs, if_pos ⟨⟨hk, touches_of_changed hu hm hds hne⟩, hi⟩]
  simp only [PatchUnit.newPicture, mem_recordsOn, Nat.zero_le, true_and, Nat.sub_zero]
  exact ⟨d, hm, hds, rfl⟩

end Sys2Proof.Machine
end

