-- ==== Sys2Proof/Laws/Tally.lean ====
section
/-! SUPPORT. What the operations of the Tally Unit do to entries, holds and lists (R7, R9, R25, R27,
R32, R34). -/

namespace Sys2Proof.Machine

/-! ### Entries -/

/-- Reading an entry after one is replaced. -/
theorem put_entry (t : TallyUnit) (n m : Nat) (w : Show) :
    (t.put n w).entry m = if m = n ∧ n < t.shows.length then w else t.entry m := getD_set ..

@[simp] theorem put_holds (t : TallyUnit) (n : Nat) (w : Show) : (t.put n w).holds = t.holds := rfl
@[simp] theorem put_expired (t : TallyUnit) (n : Nat) (w : Show) :
    (t.put n w).expired = t.expired := rfl
@[simp] theorem put_settings (t : TallyUnit) (n : Nat) (w : Show) :
    (t.put n w).settings = t.settings := rfl
@[simp] theorem put_expiryWaiting (t : TallyUnit) (n : Nat) (w : Show) :
    (t.put n w).expiryWaiting = t.expiryWaiting := rfl
@[simp] theorem put_minuteWaiting (t : TallyUnit) (n : Nat) (w : Show) :
    (t.put n w).minuteWaiting = t.minuteWaiting := rfl
@[simp] theorem put_length (t : TallyUnit) (n : Nat) (w : Show) :
    (t.put n w).shows.length = t.shows.length := by simp [TallyUnit.put]

/-- The later of two replacements of one entry stands. -/
@[simp] theorem put_put (t : TallyUnit) (n : Nat) (v w : Show) : (t.put n v).put n w = t.put n w := by
  simp [TallyUnit.put]

/-- An entry past the table reads as vacant. -/
theorem entry_past {t : TallyUnit} {m : Nat} (h : t.shows.length ≤ m) :
    t.entry m = Show.vacant := by
  simp [TallyUnit.entry, List.getD_eq_getElem?_getD, List.getElem?_eq_none h]

/-- Two units whose tables have one length and the same entries have the same table. -/
theorem shows_ext {t u : TallyUnit} (hl : u.shows.length = t.shows.length)
    (h : ∀ m, u.entry m = t.entry m) : u.shows = t.shows := by
  apply List.ext_getElem hl
  intro i h1 h2
  have := h i
  simpa [TallyUnit.entry, List.getD_eq_getElem?_getD, List.getElem?_eq_getElem h1,
    List.getElem?_eq_getElem h2] using this

/-! ### Bands -/

/-- The band depends on the counts of a show alone. -/
theorem bandOf_congr {v w : Show} (g : TallySettings) (hc : v.capacity = w.capacity)
    (hs : v.sold + v.held + v.blocked = w.sold + w.held + w.blocked) :
    bandOf g v = bandOf g w := by
  have hl : v.left = w.left := by simp [Show.left, hc, hs]
  simp [bandOf, hl, hc]

/-- A band that did not change has no event. -/
@[simp] theorem bandEvent_self (b : Band) : bandEvent b b = none := by cases b <;> rfl

/-- A band recomputed: the one entry takes the band of R9, nothing else changes. -/
theorem reband_unit (t : TallyUnit) (n : Nat) :
    (t.reband n).unit = t.put n { t.entry n with band := bandOf t.settings (t.entry n) } := rfl

/-- The events of a band recomputed are those of R10. -/
theorem reband_out (t : TallyUnit) (n : Nat) :
    (t.reband n).out =
      (bandEvents n (t.entry n).band (bandOf t.settings (t.entry n))).map BoardEvent.tally := by
  simp only [TallyUnit.reband, bandEvents]
  cases bandEvent (t.entry n).band (bandOf t.settings (t.entry n)) <;> rfl

/-- A band that is already that of R9 is recomputed without effect. -/
theorem reband_idle {t : TallyUnit} {n : Nat} (h : (t.entry n).band = bandOf t.settings (t.entry n)) :
    t.reband n = { unit := t, out := [] } := by
  simp only [TallyUnit.reband, ← h, bandEvent_self]
  have : t.put n (t.entry n) = t := by
    simp only [TallyUnit.put, TallyUnit.entry, set_getD_self]
  exact congrArg (fun u => ({ unit := u, out := [] } : TallyResult)) this

/-! ### Holds that lapse -/

/-- The expired-hold list keeps its bound of sixteen (R25). -/
theorem appendExpired_length {l : List (Nat × Nat)} (h : l.length ≤ 16) (p : Nat × Nat) :
    (appendExpired l p).length ≤ 16 := by
  unfold appendExpired
  have := List.length_filter_le (fun q => q != p) l
  split <;> simp [Config.expired] at * <;> omega

/-- A pair appended stands in the expired-hold list (R25). -/
theorem mem_appendExpired (l : List (Nat × Nat)) (p : Nat × Nat) : p ∈ appendExpired l p := by
  unfold appendExpired
  split <;> simp

/-- Holds lapsed change entries and the expired-hold list alone. -/
theorem lapseAll_frame (t : TallyUnit) (l : List Hold) :
    t.lapseAll l =
      { t with shows := (t.lapseAll l).shows, expired := lapsedInto t.expired l } := by
  induction l generalizing t with
  | nil => rfl
  | cons h rest ih =>
    rw [TallyUnit.lapseAll, ih]
    rfl

/-- Holds lapsed keep the length of the table. -/
theorem lapseAll_length (t : TallyUnit) (l : List Hold) :
    (t.lapseAll l).shows.length = t.shows.length := by
  induction l generalizing t with
  | nil => rfl
  | cons h rest ih =>
    rw [TallyUnit.lapseAll, ih]
    simp [TallyUnit.lapse, TallyUnit.lowerHeld]

/-- Holds lapsed lower each show's held field by the seats of its holds (R32, R34). -/
theorem lapseAll_entry (t : TallyUnit) (l : List Hold) (m : Nat) :
    (t.lapseAll l).entry m =
      if m < t.shows.length then
        { t.entry m with held := (t.entry m).held - heldBy m l }
      else t.entry m := by
  induction l generalizing t with
  | nil => simp [TallyUnit.lapseAll, heldBy]
  | cons h rest ih =>
    rw [TallyUnit.lapseAll, ih]
    have hl : (t.lapse h).shows.length = t.shows.length := by
      simp [TallyUnit.lapse, TallyUnit.lowerHeld]
    have he : (t.lapse h).entry m =
        if m = h.showNo ∧ h.showNo < t.shows.length then
          { t.entry h.showNo with held := (t.entry h.showNo).held - h.n } else t.entry m :=
      put_entry ..
    rw [hl, he]
    by_cases hm : m < t.shows.length
    · by_cases hs : h.showNo = m
      · subst hs; simp [hm, heldBy, Nat.sub_sub]
      · simp [hm, heldBy, hs, Ne.symm hs]
    · have : ¬ (m = h.showNo ∧ h.showNo < t.shows.length) := by omega
      simp [hm, this]

/-- The seats of a show in two lists of holds. -/
theorem heldBy_append (m : Nat) (a b : List Hold) :
    heldBy m (a ++ b) = heldBy m a + heldBy m b := by
  induction a with
  | nil => simp [heldBy]
  | cons h rest ih => simp [heldBy, ih, Nat.add_assoc]

/-- The seats of a show in a list of holds split by a test. -/
theorem heldBy_filter (m : Nat) (l : List Hold) (p : Hold → Bool) :
    heldBy m (l.filter p) + heldBy m (l.filter (fun h => !p h)) = heldBy m l := by
  induction l with
  | nil => rfl
  | cons h rest ih =>
    by_cases hp : p h = true <;> simp [hp, heldBy] at * <;> omega

/-- Holds of other shows alone hold no seat of a show. -/
theorem heldBy_eq_zero {m : Nat} {l : List Hold} (h : ∀ x, x ∈ l → x.showNo ≠ m) :
    heldBy m l = 0 := by
  induction l with
  | nil => rfl
  | cons x rest ih =>
    have hx := h x (List.mem_cons_self ..)
    simp [heldBy, hx, ih (fun y hy => h y (List.mem_cons_of_mem _ hy))]

/-- A hold's seats are among those of its show. -/
theorem le_heldBy {h : Hold} {l : List Hold} (hm : h ∈ l) : h.n ≤ heldBy h.showNo l := by
  induction l with
  | nil => cases hm
  | cons x rest ih =>
    rcases List.mem_cons.mp hm with rfl | hm
    · simp [heldBy]
    · have := ih hm
      simp only [heldBy]
      omega

/-! ### The hold list -/

/-- A hold inserted: it stands after every hold that expires no later, before the first later one
(R27). -/
theorem insertHold_split (new : Hold) (l : List Hold) :
    ∃ before after, l = before ++ after ∧ insertHold new l = before ++ new :: after ∧
      (∀ x, x ∈ before → x.expiry ≤ new.expiry) ∧
      (∀ x, after.head? = some x → new.expiry < x.expiry) := by
  induction l with
  | nil => exact ⟨[], [], rfl, rfl, by simp, by simp⟩
  | cons h rest ih =>
    unfold insertHold
    split
    · next hle =>
      obtain ⟨b, a, h1, h2, h3, h4⟩ := ih
      exact ⟨h :: b, a, by simp [h1], by simp [h2], by simpa [hle] using h3, h4⟩
    · next hgt => exact ⟨[], h :: rest, rfl, rfl, by simp, by simp; omega⟩

/-! ### Visits -/

/-- Shows visited in order, by an invariant of the unit and the shows still to come. -/
theorem visitEach_induct {visit : TallyUnit → Nat → TallyResult}
    {P : List Nat → TallyUnit → List BoardEvent → Prop}
    (hnil : ∀ t, P [] t []) (t : TallyUnit) (l : List Nat)
    (hcons : ∀ u n rest out, P rest (visitEach visit (visit u n).unit rest).unit out →
      out = (visitEach visit (visit u n).unit rest).out →
      P (n :: rest) (visitEach visit u (n :: rest)).unit ((visit u n).out ++ out)) :
    P l (visitEach visit t l).unit (visitEach visit t l).out := by
  induction l generalizing t with
  | nil => exact hnil t
  | cons n rest ih => exact hcons t n rest _ (ih _) rfl

/-- Visits in two lists one after the other. -/
theorem visitEach_append (visit : TallyUnit → Nat → TallyResult) (t : TallyUnit) (a b : List Nat) :
    visitEach visit t (a ++ b) =
      { unit := (visitEach visit (visitEach visit t a).unit b).unit,
        out := (visitEach visit t a).out ++
          (visitEach visit (visitEach visit t a).unit b).out } := by
  induction a generalizing t with
  | nil => rfl
  | cons n rest ih => simp [visitEach, ih]

/-- A property that each visit keeps holds after all of them. -/
theorem visitEach_keeps {visit : TallyUnit → Nat → TallyResult} {P : TallyUnit → Prop}
    (h : ∀ t n, P t → P (visit t n).unit) {t : TallyUnit} (l : List Nat) (ht : P t) :
    P (visitEach visit t l).unit := by
  induction l generalizing t with
  | nil => exact ht
  | cons n rest ih => exact ih (h t n ht)

/-- A recomputed state is never EMPTY where the state was not, and stays where it was final. -/
theorem recomputed_final {g : TallySettings} {now : Nat} {w : Show}
    (h : w.state = .closed ∨ w.state = .cancelled ∨ w.state = .empty) :
    recomputed g now w = w.state := by
  rcases h with h | h | h <;> simp [recomputed, h]

/-- The time state is one of the four live states (R5). -/
theorem timeState_live (g : TallySettings) (now e : Nat) :
    timeState g now e = .listed ∨ timeState g now e = .boarding ∨ timeState g now e = .started ∨
      timeState g now e = .closed := by
  unfold timeState
  repeat' split
  all_goals simp

end Sys2Proof.Machine
end

