-- ==== Sys2Proof/Laws/Recompute.lean ====
section
/-! SUPPORT. What a recomputation of all shows does: CHANGE_OF_MINUTE, SET_CLOCK, DAY_START and
SET_TALLY rest on it (R4, R7, R22, R34). -/

namespace Sys2Proof.Machine

/-- A recomputation of the shows below `done` under settings `g`: entries, holds and expired-hold list
as they then stand, from the unit `t0` (R4, R7, R34). -/
structure RecomputedBelow (t0 : TallyUnit) (g : TallySettings) (now done : Nat) (t : TallyUnit) :
    Prop where
  len : t.shows.length = 128
  ent : ∀ m, t.entry m = if m < done then recomputedShow g now (t0.entry m) else t0.entry m
  holds : t.holds = t0.holds.filter (fun h =>
    !(decide (h.showNo < done) && recomputed g now (t0.entry h.showNo) == .closed))
  exp : t.expired = lapsedInto t0.expired ((List.range done).flatMap (fun m =>
    if recomputed g now (t0.entry m) = .closed then t0.holds.filter (fun h => h.showNo == m)
    else []))
  set : t.settings = g
  ew : t.expiryWaiting = t0.expiryWaiting
  mw : t.minuteWaiting = t0.minuteWaiting

/-- The visit of a show that closes. -/
theorem visitClock_closes {t0 g now n t} (hi : TallyInv t0) (hn : n < 128) (h : RecomputedBelow t0 g now n t)
    (h1 : ¬ recomputed g now (t0.entry n) = (t0.entry n).state)
    (h2 : recomputed g now (t0.entry n) = .closed) :
    RecomputedBelow t0 g now (n + 1) (t.visitClock now n).unit ∧
    (t.visitClock now n).out = (recomputeEvents g now n (t0.entry n)).map BoardEvent.tally := by
  have he : t.entry n = t0.entry n := by rw [h.ent]; simp
  unfold TallyUnit.visitClock
  rw [h.set, he]
  have hheld := hi.held n
  rw [if_neg h1]
  have hne : (t0.entry n).state ≠ .empty := by
    intro hx; exact h1 (by simp [recomputed, hx])
  rw [if_pos h2]
  dsimp only
  have hln : n < t.shows.length := by rw [h.len]; exact hn
  have hrc : ∀ x, x ∈ t0.holds → x.showNo = n → recomputed g now (t0.entry x.showNo) = .closed := by
    intro x _ hx; rw [hx]; exact h2
  -- the unit before reband
  generalize hu : (t.put n { t0.entry n with state := .closed }).releaseShow n = u
  have hgone : (t.put n { t0.entry n with state := .closed }).holds.filter (fun h => h.showNo == n) = t0.holds.filter (fun h => h.showNo == n) := by
    rw [put_holds, h.holds, List.filter_filter]
    apply List.filter_congr
    intro x hx
    by_cases hxn : x.showNo = n <;> simp [hxn]
  have hul : u.shows.length = 128 := by
    rw [← hu]; unfold TallyUnit.releaseShow; rw [lapseAll_length]; simp [h.len]
  have hue : ∀ m, u.entry m = if m = n then { t0.entry n with state := .closed, held := 0 } else t.entry m := by
    intro m
    rw [← hu]; unfold TallyUnit.releaseShow; rw [hgone, lapseAll_entry]
    show (if m < (t.put n _).shows.length then _ else _) = _
    have : ∀ hs, ({ t.put n { t0.entry n with state := .closed } with holds := hs }).entry m = if m = n then { t0.entry n with state := .closed } else t.entry m := by
      intro hs
      show (t.put n _).entry m = _
      rw [put_entry]; simp [hln]
    rw [this, put_length, h.len]
    by_cases hm : m = n
    · subst hm
      have : heldBy m (t0.holds.filter (fun h => h.showNo == m)) = heldBy m t0.holds := by
        have h1 := heldBy_filter m t0.holds (fun h => h.showNo == m)
        have h2 : heldBy m (t0.holds.filter (fun h => !(h.showNo == m))) = 0 := by
          apply heldBy_eq_zero; intro x hx; simpa using (List.mem_filter.mp hx).2
        omega
      simp [hn, this, hheld]
    · simp only [hm, if_false]
      have : heldBy m (t0.holds.filter (fun h => h.showNo == n)) = 0 := by
        apply heldBy_eq_zero; intro x hx
        have := (List.mem_filter.mp hx).2
        simp at this; omega
      simp [this]
  have hus : u.settings = g := by
    rw [← hu]; unfold TallyUnit.releaseShow; rw [lapseAll_frame]; exact h.set
  have huh : u.holds = t.holds.filter (fun h => h.showNo != n) := by
    rw [← hu]; unfold TallyUnit.releaseShow; rw [lapseAll_frame]; rfl
  have hux : u.expired = lapsedInto t.expired (t0.holds.filter (fun h => h.showNo == n)) := by
    rw [← hu]; unfold TallyUnit.releaseShow; rw [hgone, lapseAll_frame]; rfl
  have huw : u.expiryWaiting = t.expiryWaiting ∧ u.minuteWaiting = t.minuteWaiting := by
    rw [← hu]; unfold TallyUnit.releaseShow; rw [lapseAll_frame]; exact ⟨rfl, rfl⟩
  have hun : u.entry n = { t0.entry n with state := .closed, held := 0 } := by rw [hue]; simp
  have hrs : recomputedShow g now (t0.entry n) = { u.entry n with band := bandOf g (u.entry n) } := by
    unfold recomputedShow
    rw [if_neg hne, h2, hun]; simp
  refine ⟨⟨?_, ?_, ?_, ?_, ?_, ?_, ?_⟩, ?_⟩
  · rw [reband_unit]; simp [hul]
  · intro m
    rw [reband_unit, put_entry, hus, ← hrs, hul]
    rcases Nat.lt_trichotomy m n with hm | hm | hm
    · rw [if_neg (by omega), hue, if_neg (by omega), h.ent, if_pos hm, if_pos (by omega)]
    · subst hm; simp [hn]
    · rw [if_neg (by omega), hue, if_neg (by omega), h.ent, if_neg (by omega), if_neg (by omega)]
  · rw [reband_unit, put_holds, huh, h.holds, List.filter_filter]
    apply List.filter_congr
    intro x hx
    by_cases hxn : x.showNo = n
    · simp [hxn, h2]
    · have : decide (x.showNo < n + 1) = decide (x.showNo < n) := by apply decide_eq_decide.mpr; omega
      rw [this]
      have e : (x.showNo != n) = true := by simpa using hxn
      rw [e, Bool.true_and]
  · rw [reband_unit, put_expired, hux, h.exp, List.range_succ, List.flatMap_append]
    simp [h2, lapsedInto, List.foldl_append]
  · rw [reband_unit, put_settings, hus]
  · rw [reband_unit, put_expiryWaiting, huw.1, h.ew]
  · rw [reband_unit, put_minuteWaiting, huw.2, h.mw]
  · rw [reband_out, hus]
    simp only [recomputeEvents, h2]
    rw [if_neg (by rw [← h2]; exact h1), hrs, hun]
    simp [stateEvent, eventList]

/-- The visit of a show at a change of minute, with the settings unchanged (R7). -/
theorem visitClock_spec {t0 g now n t} (hi : TallyInv t0) (hn : n < 128) (hg : g = t0.settings) (h : RecomputedBelow t0 g now n t) :
    RecomputedBelow t0 g now (n + 1) (t.visitClock now n).unit ∧
    (t.visitClock now n).out = (recomputeEvents g now n (t0.entry n)).map BoardEvent.tally := by
  have he : t.entry n = t0.entry n := by rw [h.ent]; simp
  unfold TallyUnit.visitClock
  rw [h.set, he]
  have band0 := hi.band n
  have holdn : ∀ x, x ∈ t0.holds → x.showNo = n → (t0.entry n).over = false := fun x hx hxn => hxn ▸ hi.current x hx
  have hheld := hi.held n
  by_cases h1 : recomputed g now (t0.entry n) = (t0.entry n).state
  · rw [if_pos h1]
    have hz : recomputed g now (t0.entry n) = .closed → ∀ x, x ∈ t0.holds → x.showNo ≠ n := by
      intro hc x hx hxn
      have := holdn x hx hxn
      rw [h1] at hc
      simp [Show.over, hc] at this
    have hrs : recomputedShow g now (t0.entry n) = t0.entry n := by
      unfold recomputedShow
      split
      · rfl
      · next hne =>
        have hb := band0 hne
        rw [h1]
        have h0 : (if (t0.entry n).state = .closed then 0 else (t0.entry n).held) = (t0.entry n).held := by
          split
          · next hc => rw [hheld, heldBy_eq_zero (hz (h1.trans hc))]
          · rfl
        simp only [h0]
        rw [hg]
        conv => rhs; rw [show t0.entry n = { t0.entry n with band := bandOf t0.settings (t0.entry n) } by rw [← hb]]
    refine ⟨⟨h.len, ?_, ?_, ?_, h.set, h.ew, h.mw⟩, ?_⟩
    · intro m
      rw [h.ent]
      rcases Nat.lt_trichotomy m n with hm | hm | hm
      · simp [hm, Nat.lt_succ_of_lt hm]
      · subst hm; simp [hrs]
      · rw [if_neg (by omega), if_neg (by omega)]
    · rw [h.holds]
      apply List.filter_congr
      intro x hx
      by_cases hxn : x.showNo = n
      · have : recomputed g now (t0.entry x.showNo) ≠ .closed := by
          rw [hxn]; intro hc; exact hz hc x hx hxn
        have e : (recomputed g now (t0.entry x.showNo) == ShowState.closed) = false := by simpa using this
        simp [e]
      · have : decide (x.showNo < n + 1) = decide (x.showNo < n) := by apply decide_eq_decide.mpr; omega
        rw [this]
    · rw [h.exp, List.range_succ, List.flatMap_append]
      simp only [List.flatMap_cons, List.flatMap_nil, List.append_nil]
      have : (if recomputed g now (t0.entry n) = .closed then t0.holds.filter (fun h => h.showNo == n) else []) = [] := by
        split
        · next hc => 
          rw [List.filter_eq_nil_iff]; intro x hx; simpa using hz hc x hx
        · rfl
      rw [this, List.append_nil]
    · simp [recomputeEvents, h1, hrs, bandEvents]
  · rw [if_neg h1]
    have hne : (t0.entry n).state ≠ .empty := by
      intro hx; exact h1 (by simp [recomputed, hx])
    by_cases h2 : recomputed g now (t0.entry n) = .closed
    · have := visitClock_closes hi hn h h1 h2
      unfold TallyUnit.visitClock at this
      rw [h.set, he, if_neg h1, if_pos h2] at this
      rw [if_pos h2]
      exact this
    · rw [if_neg h2]
      have hb := band0 hne
      have hln : n < t.shows.length := by rw [h.len]; exact hn
      have hrs : recomputedShow g now (t0.entry n) = { t0.entry n with state := recomputed g now (t0.entry n) } := by
        unfold recomputedShow
        rw [if_neg hne, if_neg h2]
        simp only
        have e : bandOf g { t0.entry n with state := recomputed g now (t0.entry n) } = (t0.entry n).band := by
          refine (bandOf_congr (w := t0.entry n) g ?_ ?_).trans (by rw [hg, ← hb]) <;> rfl
        exact congrArg (fun b => ({ t0.entry n with state := recomputed g now (t0.entry n), band := b } : Show)) e
      refine ⟨⟨?_, ?_, ?_, ?_, ?_, ?_, ?_⟩, ?_⟩
      · simp [h.len]
      · intro m
        rw [put_entry, ← hrs]
        rcases Nat.lt_trichotomy m n with hm | hm | hm
        · rw [if_neg (by omega), h.ent, if_pos hm, if_pos (by omega)]
        · subst hm; simp [hln]
        · rw [if_neg (by omega), h.ent, if_neg (by omega), if_neg (by omega)]
      · rw [put_holds, h.holds]
        apply List.filter_congr
        intro x hx
        by_cases hxn : x.showNo = n
        · have e : (recomputed g now (t0.entry x.showNo) == ShowState.closed) = false := by rw [hxn]; simpa using h2
          simp [e]
        · have : decide (x.showNo < n + 1) = decide (x.showNo < n) := by apply decide_eq_decide.mpr; omega
          rw [this]
      · rw [put_expired, h.exp, List.range_succ, List.flatMap_append]
        simp [h2]
      · rw [put_settings, h.set]
      · rw [put_expiryWaiting, h.ew]
      · rw [put_minuteWaiting, h.mw]
      · simp only [recomputeEvents]
        rw [if_neg h1, hrs]
        simp only [bandEvents, bandEvent_self]
        cases stateEvent (recomputed g now (t0.entry n)) <;> simp [eventList]


/-- A show whose state stays and is CLOSED has no holds, and its held field stays. -/
theorem state_stays {t0 : TallyUnit} {g now n} (hi : TallyInv t0)
    (h1 : recomputed g now (t0.entry n) = (t0.entry n).state) :
    (∀ x, x ∈ t0.holds → x.showNo = n → recomputed g now (t0.entry n) ≠ .closed) ∧
    (if recomputed g now (t0.entry n) = .closed then 0 else (t0.entry n).held) = (t0.entry n).held := by
  have hz : recomputed g now (t0.entry n) = .closed → ∀ x, x ∈ t0.holds → x.showNo ≠ n := by
    intro hc x hx hxn
    have := hxn ▸ hi.current x hx
    rw [h1] at hc
    simp [Show.over, hc] at this
  refine ⟨fun x hx hxn hc => hz hc x hx hxn, ?_⟩
  split
  · next hc => rw [hi.held n, heldBy_eq_zero (hz hc)]
  · rfl

/-- The visit of a show by SET_TALLY, whatever its band was (R4). -/
theorem visitSettings_spec {t0 g now n t} (hi : TallyInv t0) (hn : n < 128) (h : RecomputedBelow t0 g now n t) :
    RecomputedBelow t0 g now (n + 1) (t.visitSettings now n).unit ∧
    (t.visitSettings now n).out = (recomputeEvents g now n (t0.entry n)).map BoardEvent.tally := by
  have he : t.entry n = t0.entry n := by rw [h.ent]; simp
  have hln : n < t.shows.length := by rw [h.len]; exact hn
  unfold TallyUnit.visitSettings
  rw [he]
  by_cases hem : (t0.entry n).state = .empty
  · rw [if_pos hem]
    have hnh : ∀ x, x ∈ t0.holds → x.showNo ≠ n := by
      intro x hx hxn
      have h1 := hi.vacant n hem
      have h2 := hi.held n
      rw [h1] at h2
      have h3 := le_heldBy hx
      have h4 := hi.counts x hx
      rw [hxn] at h3
      have : Show.vacant.held = 0 := rfl
      omega
    have hrs : recomputedShow g now (t0.entry n) = t0.entry n := by simp [recomputedShow, hem]
    have hrc : recomputed g now (t0.entry n) = .empty := by simp [recomputed, hem]
    refine ⟨⟨h.len, ?_, ?_, ?_, h.set, h.ew, h.mw⟩, ?_⟩
    · intro m
      rw [h.ent]
      rcases Nat.lt_trichotomy m n with hm | hm | hm
      · simp [hm, Nat.lt_succ_of_lt hm]
      · subst hm; simp [hrs]
      · rw [if_neg (by omega), if_neg (by omega)]
    · rw [h.holds]
      apply List.filter_congr
      intro x hx
      have : decide (x.showNo < n + 1) = decide (x.showNo < n) := by
        have := hnh x hx
        apply decide_eq_decide.mpr; omega
      rw [this]
    · rw [h.exp, List.range_succ, List.flatMap_append]
      simp [hrc]
    · simp [recomputeEvents, hrc, hem, hrs, bandEvents]
  · rw [if_neg hem]
    dsimp only
    by_cases h1 : recomputed g now (t0.entry n) = (t0.entry n).state
    · have hv : t.visitClock now n = { unit := t, out := [] } := by
        unfold TallyUnit.visitClock; rw [h.set, he, if_pos h1]
      rw [hv]
      dsimp only
      obtain ⟨hz, hh⟩ := state_stays hi h1
      have hrs : recomputedShow g now (t0.entry n) = { t0.entry n with band := bandOf g (t0.entry n) } := by
        unfold recomputedShow
        rw [if_neg hem, hh, h1]
      refine ⟨⟨?_, ?_, ?_, ?_, ?_, ?_, ?_⟩, ?_⟩
      · rw [reband_unit]; simp [h.len]
      · intro m
        rw [reband_unit, put_entry, he, h.set, ← hrs]
        rcases Nat.lt_trichotomy m n with hm | hm | hm
        · rw [if_neg (by omega), h.ent, if_pos hm, if_pos (by omega)]
        · subst hm; simp [hln]
        · rw [if_neg (by omega), h.ent, if_neg (by omega), if_neg (by omega)]
      · rw [reband_unit, put_holds, h.holds]
        apply List.filter_congr
        intro x hx
        by_cases hxn : x.showNo = n
        · have e : (recomputed g now (t0.entry x.showNo) == ShowState.closed) = false := by
            rw [hxn]; simpa using hz x hx hxn
          simp [e]
        · have : decide (x.showNo < n + 1) = decide (x.showNo < n) := by apply decide_eq_decide.mpr; omega
          rw [this]
      · rw [reband_unit, put_expired, h.exp, List.range_succ, List.flatMap_append]
        simp only [List.flatMap_cons, List.flatMap_nil, List.append_nil]
        have : (if recomputed g now (t0.entry n) = .closed then t0.holds.filter (fun h => h.showNo == n) else []) = [] := by
          split
          · next hc => 
            rw [List.filter_eq_nil_iff]; intro x hx hx2
            exact hz x hx (by simpa using hx2) hc
          · rfl
        rw [this, List.append_nil]
      · rw [reband_unit, put_settings, h.set]
      · rw [reband_unit, put_expiryWaiting, h.ew]
      · rw [reband_unit, put_minuteWaiting, h.mw]
      · rw [reband_out, he, h.set]
        simp only [recomputeEvents, if_pos h1, hrs, List.nil_append]
    · by_cases h2 : recomputed g now (t0.entry n) = .closed
      · obtain ⟨k1, k2⟩ := visitClock_closes hi hn h h1 h2
        have hb : ((t.visitClock now n).unit.entry n).band =
            bandOf (t.visitClock now n).unit.settings ((t.visitClock now n).unit.entry n) := by
          rw [k1.set, k1.ent, if_pos (by omega)]
          unfold recomputedShow
          rw [if_neg hem]
          exact (bandOf_congr g rfl rfl)
        rw [reband_idle hb]
        exact ⟨k1, by rw [k2]; simp⟩
      · have hv : t.visitClock now n =
            TallyResult.mk (t.put n { t0.entry n with state := recomputed g now (t0.entry n) })
              (eventList n (stateEvent (recomputed g now (t0.entry n)))) := by
          unfold TallyUnit.visitClock; rw [h.set, he, if_neg h1, if_neg h2]
        rw [hv]
        dsimp only
        have hpe : (t.put n { t0.entry n with state := recomputed g now (t0.entry n) }).entry n =
            { t0.entry n with state := recomputed g now (t0.entry n) } := by rw [put_entry]; simp [hln]
        have hrs : recomputedShow g now (t0.entry n) = { t0.entry n with state := recomputed g now (t0.entry n), band := bandOf g { t0.entry n with state := recomputed g now (t0.entry n) } } := by
          unfold recomputedShow
          rw [if_neg hem, if_neg h2]
        refine ⟨⟨?_, ?_, ?_, ?_, ?_, ?_, ?_⟩, ?_⟩
        · rw [reband_unit]; simp [h.len]
        · intro m
          rw [reband_unit, hpe, put_settings, h.set, put_put, put_entry]
          rw [show ({ ({ t0.entry n with state := recomputed g now (t0.entry n) } : Show) with band := bandOf g { t0.entry n with state := recomputed g now (t0.entry n) } } : Show) = recomputedShow g now (t0.entry n) from hrs.symm]
          rcases Nat.lt_trichotomy m n with hm | hm | hm
          · rw [if_neg (by omega), h.ent, if_pos hm, if_pos (by omega)]
          · subst hm; simp [hln]
          · rw [if_neg (by omega), h.ent, if_neg (by omega), if_neg (by omega)]
        · rw [reband_unit, put_holds, put_holds, h.holds]
          apply List.filter_congr
          intro x hx
          by_cases hxn : x.showNo = n
          · have e : (recomputed g now (t0.entry x.showNo) == ShowState.closed) = false := by rw [hxn]; simpa using h2
            simp [e]
          · have : decide (x.showNo < n + 1) = decide (x.showNo < n) := by apply decide_eq_decide.mpr; omega
            rw [this]
        · rw [reband_unit, put_expired, put_expired, h.exp, List.range_succ, List.flatMap_append]
          simp [h2]
        · rw [reband_unit, put_settings, put_settings, h.set]
        · rw [reband_unit, put_expiryWaiting, put_expiryWaiting, h.ew]
        · rw [reband_unit, put_minuteWaiting, put_minuteWaiting, h.mw]
        · rw [reband_out, hpe, put_settings, h.set]
          simp only [recomputeEvents]
          rw [if_neg h1, hrs]
          cases stateEvent (recomputed g now (t0.entry n)) <;> simp [eventList]
/-- Every show visited in order, by what one visit does. -/
theorem visitEach_recomputes {visit : TallyUnit → Nat → TallyResult} {t0 : TallyUnit}
    {g : TallySettings} {now : Nat}
    (hv : ∀ n t, n < 128 → RecomputedBelow t0 g now n t →
      RecomputedBelow t0 g now (n + 1) (visit t n).unit ∧
        (visit t n).out = (recomputeEvents g now n (t0.entry n)).map BoardEvent.tally) :
    ∀ k n t, n + k = 128 → RecomputedBelow t0 g now n t →
      RecomputedBelow t0 g now 128 (visitEach visit t (List.range' n k)).unit ∧
        (visitEach visit t (List.range' n k)).out =
          ((List.range' n k).flatMap (fun m => recomputeEvents g now m (t0.entry m))).map
            BoardEvent.tally := by
  intro k
  induction k with
  | zero => intro n t hn h; simp at hn; subst hn; exact ⟨h, rfl⟩
  | succ k ih =>
    intro n t hn h
    obtain ⟨h1, h2⟩ := hv n t (by omega) h
    obtain ⟨h3, h4⟩ := ih (n + 1) _ (by omega) h1
    rw [List.range'_succ]
    exact ⟨h3, by simp [visitEach, h2, h4]⟩

/-- All shows recomputed. -/
theorem recomputedBelow_all {t0 u : TallyUnit} {g : TallySettings} {now : Nat} (hi : TallyInv t0)
    (h : RecomputedBelow t0 g now 128 u) :
    t0.recomputesTo u g now ∧ u.minuteWaiting = t0.minuteWaiting := by
  refine ⟨⟨h.len, ?_, ?_, h.exp, h.set, h.ew⟩, h.mw⟩
  · intro m
    rw [h.ent]
    split
    · rfl
    · next hm =>
      rw [entry_past (t := t0) (by rw [hi.shows_length]; simp only [Config.shows]; omega)]
      rfl
  · rw [h.holds]
    apply List.filter_congr
    intro x hx
    have : x.showNo < 128 := hi.numbers x hx
    simp [this, bne]

/-- The recomputation of a change of minute or clock command, whole (R7, R22). -/
theorem recomputeAll_spec {t0 : TallyUnit} (hi : TallyInv t0) (now : Nat) :
    t0.recomputesTo (t0.recomputeAll now).unit t0.settings now ∧
      (t0.recomputeAll now).unit.minuteWaiting = t0.minuteWaiting ∧
      (t0.recomputeAll now).out = (allRecomputeEvents t0 t0.settings now).map BoardEvent.tally := by
  have h0 : RecomputedBelow t0 t0.settings now 0 t0 :=
    ⟨hi.shows_length, by simp, by simp, by simp [lapsedInto], rfl, rfl, rfl⟩
  have h := visitEach_recomputes (visit := fun u n => u.visitClock now n)
    (fun n t hn h => visitClock_spec hi hn rfl h) 128 0 t0 rfl h0
  rw [show List.range' 0 128 = showNumbers by simp [showNumbers, List.range_eq_range']] at h
  obtain ⟨h1, h2⟩ := recomputedBelow_all hi h.1
  exact ⟨h1, h2, h.2⟩

/-- The recomputation of SET_TALLY, whole (R4). -/
theorem setSettings_spec {t0 : TallyUnit} (hi : TallyInv t0) (now : Nat) (g : TallySettings) :
    t0.recomputesTo (t0.setSettings now g).unit g now ∧
      (t0.setSettings now g).unit.minuteWaiting = t0.minuteWaiting ∧
      (t0.setSettings now g).out = (allRecomputeEvents t0 g now).map BoardEvent.tally := by
  have h0 : RecomputedBelow t0 g now 0 { t0 with settings := g } :=
    ⟨hi.shows_length, fun m => by simp; rfl, by simp, by simp [lapsedInto], rfl, rfl, rfl⟩
  have h := visitEach_recomputes (visit := fun u n => u.visitSettings now n)
    (fun n t hn h => visitSettings_spec hi hn h) 128 0 _ rfl h0
  rw [show List.range' 0 128 = showNumbers by simp [showNumbers, List.range_eq_range']] at h
  obtain ⟨h1, h2⟩ := recomputedBelow_all hi h.1
  exact ⟨h1, h2, h.2⟩

end Sys2Proof.Machine
end

