-- ==== Sys2Proof/Laws/Board.lean ====
section
/-! SUPPORT. What an event at the Board Unit does: the order of a list, a view recomputed, the views
handed on (R42, R43, R46, R53); and what an event at the Tally Unit hands on (R8, R43, R87). -/

namespace Sys2Proof.Machine

/-! ### Events of the Tally Unit -/

/-- An event at the Tally Unit changes no more than its frame. -/
theorem tallyDone_frame (s : State) (u : TallyUnit) (out : List BoardEvent) :
    s.tallyFrame (s.tallyDone u out) := by
  unfold State.tallyFrame; rfl

/-- An event at the Tally Unit hands its tally events to the three units in order. -/
theorem tallyDone_emits (s : State) (u : TallyUnit) (l : List TallyEvent) :
    s.emits (s.tallyDone u (l.map BoardEvent.tally)) l := by
  refine ⟨rfl, ?_, ?_⟩ <;> simp [State.tallyDone, tallyEventsOf_map]

/-! ### The order of a list -/

/-- A show inserted is a member, and so is every member before. -/
theorem mem_insertShow (t : TallyUnit) (m n : Nat) (l : List Nat) :
    n ∈ insertShow t m l ↔ n = m ∨ n ∈ l := by
  induction l with
  | nil => simp [insertShow]
  | cons x rest ih =>
    unfold insertShow
    split
    · simp
    · simp only [List.mem_cons, ih]
      tauto

/-- Putting shows in order keeps the members. -/
theorem mem_orderShows (t : TallyUnit) (n : Nat) (l : List Nat) : n ∈ orderShows t l ↔ n ∈ l := by
  induction l with
  | nil => simp [orderShows]
  | cons x rest ih => simp [orderShows, mem_insertShow, ih]

/-- Of two different shows exactly one stands before the other (R42). -/
theorem standsBefore_total (t : TallyUnit) {m n : Nat} (h : m ≠ n) (hb : standsBefore t m n = false) :
    standsBefore t n m = true := by
  simp only [standsBefore, Bool.or_eq_false_iff, Bool.or_eq_true, Bool.and_eq_true,
    Bool.and_eq_false_iff, decide_eq_true_eq, decide_eq_false_iff_not, beq_iff_eq,
    beq_eq_false_iff_ne] at *
  omega

/-- The order of shows is transitive (R42). -/
theorem standsBefore_trans (t : TallyUnit) {a b c : Nat} (h1 : standsBefore t a b = true)
    (h2 : standsBefore t b c = true) : standsBefore t a c = true := by
  simp only [standsBefore, Bool.or_eq_true, Bool.and_eq_true, decide_eq_true_eq,
    beq_iff_eq] at *
  omega

/-- Shows put in order stand in order, where none is put twice (R42). -/
theorem orderShows_sorted (t : TallyUnit) {l : List Nat} (h : l.Nodup) :
    (orderShows t l).Pairwise (fun m n => standsBefore t m n = true) := by
  have hins : ∀ (m : Nat) (l : List Nat), m ∉ l →
      l.Pairwise (fun m n => standsBefore t m n = true) →
      (insertShow t m l).Pairwise (fun m n => standsBefore t m n = true) := by
    intro m l hm hl
    induction l with
    | nil => simp [insertShow]
    | cons x rest ih =>
      have hp := List.pairwise_cons.mp hl
      have hx : m ≠ x ∧ m ∉ rest := by simpa using hm
      unfold insertShow
      split
      · next hb =>
        refine List.pairwise_cons.mpr ⟨fun y hy => ?_, hl⟩
        rcases List.mem_cons.mp hy with rfl | hy
        · exact hb
        · exact standsBefore_trans t hb (hp.1 y hy)
      · next hb =>
        refine List.pairwise_cons.mpr ⟨fun y hy => ?_, ih hx.2 hp.2⟩
        rcases (mem_insertShow t m y rest).mp hy with rfl | hy
        · exact standsBefore_total t hx.1 (by simpa using hb)
        · exact hp.1 y hy
  induction l with
  | nil => exact List.Pairwise.nil
  | cons x rest ih =>
    have hn := List.nodup_cons.mp h
    exact hins x _ (by rw [mem_orderShows]; exact hn.1) (ih hn.2)

/-! ### Views -/

/-- The views whose list or page differs, as a filter of the view numbers. -/
theorem changedViews_eq (i : Nat) (a b : List BoardView) (h : a.length = b.length) :
    changedViews i a b = ((List.range a.length).filter (fun k =>
      decide ((a[k]?).map (fun v => (v.list, v.page)) ≠
        (b[k]?).map (fun v => (v.list, v.page))))).map (· + i) := by
  induction a generalizing i b with
  | nil => cases b <;> simp [changedViews] at *
  | cons x l ih =>
    rcases b with _ | ⟨y, m⟩
    · simp at h
    simp only [List.length_cons, Nat.add_right_cancel_iff] at h
    rw [changedViews, ih _ m h, List.length_cons, List.range_succ_eq_map]
    simp only [List.filter_cons, List.filter_map]
    have e1 : ((fun x => x + i) ∘ Nat.succ) = (fun x => x + (i + 1)) := by
      funext z; simp; omega
    by_cases hxy : x.list = y.list ∧ x.page = y.page
    · rw [if_pos hxy]
      simp [hxy.1, hxy.2, e1, Function.comp_def]
    · rw [if_neg hxy]
      have : ((x.list, x.page) ≠ (y.list, y.page)) := by simpa using hxy
      simp [this, Function.comp_def]
      intros; omega

/-- The views handed on are those whose list or page differs. -/
theorem changedViews_differ {a b : List BoardView} (h : a.length = b.length) :
    changedViews 0 a b = viewsThatDiffer a b := by
  rw [changedViews_eq 0 a b h]
  simp [viewsThatDiffer]

/-- A view recomputed: its list, and its page and timer where the list grew too short (R42, R46). -/
theorem recompute_spec (v : BoardView) (t : TallyUnit) (now : Nat) :
    ∃ page timer, v.recompute t now =
        { v with list := v.listFor t now, page := page, timer := timer } ∧
      (v.page = 0 ∨ v.page * v.rows < (v.listFor t now).length → page = v.page ∧ timer = v.timer) ∧
      (v.page ≠ 0 → (v.listFor t now).length ≤ v.page * v.rows → page = 0 ∧ timer = v.dwell) := by
  unfold BoardView.recompute
  split
  · next h => exact ⟨0, v.dwell, rfl, by omega, by simp⟩
  · next h => exact ⟨v.page, v.timer, rfl, by simp, by omega⟩

/-- A recomputation of all views changes the views and what the Patch Unit hears of. -/
theorem boardRecompute_eq (s : State) :
    boardRecompute s = { s with
      board := { s.board with
        views := s.board.views.map (fun v => v.recompute s.tally s.clock.minute) }
      patch := { s.patch with
        fromBoard := s.patch.fromBoard ++ changedViews 0 s.board.views
          (s.board.views.map (fun v => v.recompute s.tally s.clock.minute)) } } := rfl

/-- A recomputation of all views leaves them as R42 and R46 say. -/
theorem recompute_follow (l : List BoardView) (t : TallyUnit) (now : Nat) :
    viewsFollow l (l.map (fun v => v.recompute t now)) t now := by
  refine ⟨by simp, fun k v hv => ?_⟩
  obtain ⟨page, timer, h, h1, h2⟩ := recompute_spec v t now
  exact ⟨v.listFor t now, page, timer, by simp [hv, h], rfl, h1, h2⟩

end Sys2Proof.Machine
end

