-- ==== Sys2Proof/Laws/Path.lean ====
section
/-! SUPPORT. Which requests wait at the upstream port has no part in what a taken request does: every
command line and every recognition commutes with another list of waiting requests (R155, R159). -/

namespace Sys2Proof.Machine

/-- Of two lists of waiting requests the second stands. -/
@[simp] theorem awaiting_awaiting (s : State) (p q : List Request) :
    (s.awaiting p).awaiting q = s.awaiting q := rfl

/-! ### Hand-ons and causes -/

/-- Setting causes leaves the waiting requests. -/
theorem raiseAll_awaiting (l : List Cause) (s : State) (q : List Request) :
    (s.awaiting q).raiseAll l = (s.raiseAll l).awaiting q := by
  rw [raiseAll_eq, raiseAll_eq]
  rfl

/-- Taking top notices leaves the waiting requests. -/
theorem applyTops_awaiting (l : List TopHandOn) (s : State) (q : List Request) :
    (s.awaiting q).applyTops l = (s.applyTops l).awaiting q := by
  induction l generalizing s with
  | nil => rfl
  | cons h rest ih => exact ih (s.applyTop h)

/-- Taking every hand-on of the Notice Unit leaves the waiting requests. -/
theorem settleTops_awaiting (s : State) (q : List Request) :
    settleTops (s.awaiting q) = (settleTops s).awaiting q := by
  have h : (s.awaiting q).withPatch { (s.awaiting q).patch with fromNotice := [] } =
      (s.withPatch { s.patch with fromNotice := [] }).awaiting q := rfl
  unfold settleTops
  rw [h, applyTops_awaiting]
  rfl

/-- Deriving cells afresh leaves the waiting requests (R87). -/
theorem derive_awaiting (s : State) (f : Source → Bool) (q : List Request) :
    (s.awaiting q).derive f = (s.derive f).awaiting q := rfl

/-- Handing a view on leaves the waiting requests (R53). -/
theorem handView_awaiting (s : State) (k : Nat) (q : List Request) :
    (s.awaiting q).handView k = (s.handView k).awaiting q := by
  unfold State.handView
  rw [show (s.awaiting q).board = s.board from rfl]
  split <;> rfl

/-- A response leaves the waiting requests (R172). -/
theorem answer_awaiting (s : State) (code tag : Nat) (result : List Byte) (q : List Request) :
    (s.awaiting q).answer code tag result = (s.answer code tag result).awaiting q := rfl

/-- Replacing the clock leaves the waiting requests. -/
theorem withClock_awaiting (s : State) (u : ClockUnit) (q : List Request) :
    (s.awaiting q).withClock u = (s.withClock u).awaiting q := rfl

/-- Replacing the Board Unit leaves the waiting requests. -/
theorem withBoard_awaiting (s : State) (u : BoardUnit) (q : List Request) :
    (s.awaiting q).withBoard u = (s.withBoard u).awaiting q := rfl

/-- Replacing the Patch Unit leaves the waiting requests. -/
theorem withPatch_awaiting (s : State) (u : PatchUnit) (q : List Request) :
    (s.awaiting q).withPatch u = (s.withPatch u).awaiting q := rfl

/-- The recomputation of the views leaves the waiting requests (R43). -/
theorem boardRecompute_awaiting (s : State) (q : List Request) :
    boardRecompute (s.awaiting q) = (boardRecompute s).awaiting q := rfl

/-- An event of the Tally Unit leaves the waiting requests (R8). -/
theorem tallyDone_awaiting (s : State) (u : TallyUnit) (out : List BoardEvent) (q : List Request) :
    (s.awaiting q).tallyDone u out = (s.tallyDone u out).awaiting q := rfl

/-- What SET_CLOCK does at the Tally Unit leaves the waiting requests (R22). -/
theorem tallyClock_awaiting (s : State) (q : List Request) :
    tallyClock (s.awaiting q) = (tallyClock s).awaiting q := by
  unfold tallyClock
  rw [show (s.awaiting q).tally = s.tally from rfl, show (s.awaiting q).clock = s.clock from rfl,
    tallyDone_awaiting]

/-- What DAY_START does at the Tally Unit leaves the waiting requests (R22). -/
theorem tallyDay_awaiting (s : State) (q : List Request) :
    tallyDay (s.awaiting q) = (tallyDay s).awaiting q := by
  unfold tallyDay
  rw [show (s.awaiting q).tally = s.tally from rfl, show (s.awaiting q).clock = s.clock from rfl,
    tallyDone_awaiting]

/-- Committing the IDLE surfaces leaves the waiting requests (R179). -/
theorem commitAll_awaiting (s : State) (q : List Request) :
    (s.awaiting q).commitAll = s.commitAll.awaiting q := by
  unfold State.commitAll
  rw [show (s.awaiting q).patch = s.patch from rfl, withPatch_awaiting]

/-- Clearing CLOCK_HELD leaves the waiting requests. -/
theorem releaseClock_awaiting (s : State) (q : List Request) :
    (s.awaiting q).releaseClock = s.releaseClock.awaiting q := rfl

/-! ### Command lines -/

/-- SET_MODE leaves the waiting requests (R174). -/
theorem cmdSetMode_awaiting (tag mode : Nat) (s : State)
    (q : List Request) :
    cmdSetMode tag mode (s.awaiting q) =
      (cmdSetMode tag mode s).awaiting q := by
  unfold cmdSetMode
  split <;> rfl

/-- SET_CLOCK leaves the waiting requests (R168). -/
theorem cmdSetClock_awaiting (tag minute second : Nat) (s : State)
    (q : List Request) :
    cmdSetClock tag minute second (s.awaiting q) =
      (cmdSetClock tag minute second s).awaiting q := by
  unfold cmdSetClock
  split
  · rfl
  · rw [show (s.awaiting q).clock = s.clock from rfl, withClock_awaiting, releaseClock_awaiting,
      tallyClock_awaiting, boardRecompute_awaiting, derive_awaiting, answer_awaiting]

/-- DAY_START leaves the waiting requests (R169). -/
theorem cmdDayStart_awaiting (tag minute origin : Nat) (s : State)
    (q : List Request) :
    cmdDayStart tag minute origin (s.awaiting q) =
      (cmdDayStart tag minute origin s).awaiting q := by
  unfold cmdDayStart
  split
  · rfl
  · rw [show (s.awaiting q).clock = s.clock from rfl, withClock_awaiting, releaseClock_awaiting,
      tallyDay_awaiting, boardRecompute_awaiting, derive_awaiting, answer_awaiting]

/-- SET_INTAKE leaves the waiting requests (R141). -/
theorem cmdSetIntake_awaiting (tag : Nat) (p : IntakeParams) (s : State)
    (q : List Request) :
    cmdSetIntake tag p (s.awaiting q) =
      (cmdSetIntake tag p s).awaiting q := by
  unfold cmdSetIntake
  rw [show (s.awaiting q).path.mode = s.path.mode from rfl,
    show (s.awaiting q).intakeObstacles = s.intakeObstacles from rfl]
  split
  · rfl
  split
  · rfl
  split
  · rfl
  split <;> rfl

/-- SET_WORDS leaves the waiting requests (R50). -/
theorem cmdSetWords_awaiting (tag : Nat) (words : List Nat) (s : State)
    (q : List Request) :
    cmdSetWords tag words (s.awaiting q) =
      (cmdSetWords tag words s).awaiting q := by
  unfold cmdSetWords
  split <;> rfl

/-- SET_VIEW leaves the waiting requests (R40). -/
theorem cmdSetView_awaiting (tag : Nat) (p : ViewParams) (s : State)
    (q : List Request) :
    cmdSetView tag p (s.awaiting q) =
      (cmdSetView tag p s).awaiting q := by
  unfold cmdSetView
  rw [show (s.awaiting q).board = s.board from rfl, show (s.awaiting q).tally = s.tally from rfl,
    show (s.awaiting q).clock = s.clock from rfl]
  split
  · rfl
  split
  · rfl
  · rw [withBoard_awaiting, handView_awaiting, derive_awaiting, answer_awaiting]

/-- WARM_RESET leaves the waiting requests (R179). -/
theorem cmdWarmReset_awaiting (tag : Nat) (s : State)
    (q : List Request) :
    cmdWarmReset tag (s.awaiting q) =
      (cmdWarmReset tag s).awaiting q := by
  unfold cmdWarmReset
  rw [show (s.awaiting q).resetUnits = s.resetUnits.awaiting q from rfl, derive_awaiting,
    commitAll_awaiting, answer_awaiting]

/-- SET_TALLY leaves the waiting requests (R4). -/
theorem cmdSetTally_awaiting (tag : Nat) (p : TallyParams) (s : State)
    (q : List Request) :
    cmdSetTally tag p (s.awaiting q) =
      (cmdSetTally tag p s).awaiting q := by
  simp only [cmdSetTally]
  rw [show (s.awaiting q).tally = s.tally from rfl, show (s.awaiting q).clock = s.clock from rfl,
    tallyDone_awaiting, answer_awaiting]

/-- SET_SEGMENT leaves the waiting requests (R67). -/
theorem cmdSetSegment_awaiting (tag segment : Nat) (text : List Byte) (s : State)
    (q : List Request) :
    cmdSetSegment tag segment text (s.awaiting q) =
      (cmdSetSegment tag segment text s).awaiting q := by
  unfold cmdSetSegment
  rw [show (s.awaiting q).notice = s.notice from rfl]
  split
  · rfl
  split <;> rfl

/-- SET_TRIGGER leaves the waiting requests (R69). -/
theorem cmdSetTrigger_awaiting (tag : Nat) (p : TriggerParams) (s : State)
    (q : List Request) :
    cmdSetTrigger tag p (s.awaiting q) =
      (cmdSetTrigger tag p s).awaiting q := by
  unfold cmdSetTrigger
  rw [show (s.awaiting q).notice = s.notice from rfl]
  split
  · rfl
  · rw [show ∀ u, (s.awaiting q).noticeDone u = (s.noticeDone u).awaiting q from fun _ => rfl,
      settleTops_awaiting]
    rfl

/-- CLEAR_TRIGGER leaves the waiting requests (R70). -/
theorem cmdClearTrigger_awaiting (tag trigger : Nat) (s : State)
    (q : List Request) :
    cmdClearTrigger tag trigger (s.awaiting q) =
      (cmdClearTrigger tag trigger s).awaiting q := by
  unfold cmdClearTrigger
  rw [show (s.awaiting q).notice = s.notice from rfl]
  split
  · rfl
  · rw [show ∀ u, (s.awaiting q).noticeDone u = (s.noticeDone u).awaiting q from fun _ => rfl,
      settleTops_awaiting]
    rfl

/-- CLEAR_CAUSES leaves the waiting requests (R176). -/
theorem cmdClearCauses_awaiting (tag mask : Nat) (s : State)
    (q : List Request) :
    cmdClearCauses tag mask (s.awaiting q) =
      (cmdClearCauses tag mask s).awaiting q := by
  unfold cmdClearCauses
  split <;> rfl

/-- INSPECT leaves the waiting requests (R178). -/
theorem cmdInspect_awaiting (tag kind index : Nat) (s : State)
    (q : List Request) :
    cmdInspect tag kind index (s.awaiting q) =
      (cmdInspect tag kind index s).awaiting q := by
  unfold cmdInspect
  rw [show inspectCopy (s.awaiting q) = inspectCopy s from rfl]
  split <;> rfl

/-- SET_SURFACE leaves the waiting requests (R76). -/
theorem cmdSetSurface_awaiting (tag : Nat) (p : SurfaceParams) (s : State)
    (q : List Request) :
    cmdSetSurface tag p (s.awaiting q) =
      (cmdSetSurface tag p s).awaiting q := by
  unfold cmdSetSurface
  rw [show (s.awaiting q).path.mode = s.path.mode from rfl,
    show (s.awaiting q).surfaceObstacles p.surface = s.surfaceObstacles p.surface from rfl,
    show (s.awaiting q).strands p = s.strands p from rfl]
  split
  · rfl
  split
  · rfl
  split
  · rfl
  split
  · rfl
  split
  · rfl
  split <;> rfl

/-- SET_CELL leaves the waiting requests (R82). -/
theorem cmdSetCell_awaiting (tag : Nat) (p : CellParams) (s : State)
    (q : List Request) :
    cmdSetCell tag p (s.awaiting q) =
      (cmdSetCell tag p s).awaiting q := by
  unfold cmdSetCell
  rw [show (s.awaiting q).patch = s.patch from rfl]
  split <;> rfl

/-- CLEAR_CELL leaves the waiting requests (R83). -/
theorem cmdClearCell_awaiting (tag cell : Nat) (s : State)
    (q : List Request) :
    cmdClearCell tag cell (s.awaiting q) =
      (cmdClearCell tag cell s).awaiting q := by
  unfold cmdClearCell
  split <;> rfl

/-- LOAD_GLYPHS leaves the waiting requests (R91). -/
theorem cmdLoadGlyphs_awaiting (tag set source sum : Nat) (s : State)
    (q : List Request) :
    cmdLoadGlyphs tag set source sum (s.awaiting q) =
      (cmdLoadGlyphs tag set source sum s).awaiting q := by
  unfold cmdLoadGlyphs
  rw [show (s.awaiting q).patch = s.patch from rfl]
  split
  · rfl
  split <;> rfl

/-- SET_PANE leaves the waiting requests (R110). -/
theorem cmdSetPane_awaiting (tag : Nat) (p : PaneParams) (s : State)
    (q : List Request) :
    cmdSetPane tag p (s.awaiting q) =
      (cmdSetPane tag p s).awaiting q := by
  unfold cmdSetPane
  rw [show (s.awaiting q).path.mode = s.path.mode from rfl,
    show (s.awaiting q).badRectangle p = s.badRectangle p from rfl,
    show (s.awaiting q).badSlotRegion p = s.badSlotRegion p from rfl,
    show (s.awaiting q).badLine p = s.badLine p from rfl,
    show (s.awaiting q).patch = s.patch from rfl]
  split
  · rfl
  split
  · rfl
  split
  · rfl
  split
  · rfl
  split
  · rfl
  split
  · rfl
  split
  · rfl
  split <;> rfl

/-- SET_PLAYLIST leaves the waiting requests (R130). -/
theorem cmdSetPlaylist_awaiting (tag pane first count : Nat) (entries : List EntryParams) (s : State)
    (q : List Request) :
    cmdSetPlaylist tag pane first count entries (s.awaiting q) =
      (cmdSetPlaylist tag pane first count entries s).awaiting q := by
  unfold cmdSetPlaylist
  rw [show (s.awaiting q).pane = s.pane from rfl]
  split
  · rfl
  split
  · rfl
  split <;> rfl

/-- PLAY_START leaves the waiting requests (R134). -/
theorem cmdPlayStart_awaiting (tag pane entry now : Nat) (s : State)
    (q : List Request) :
    cmdPlayStart tag pane entry now (s.awaiting q) =
      (cmdPlayStart tag pane entry now s).awaiting q := by
  unfold cmdPlayStart
  rw [show (s.awaiting q).pane = s.pane from rfl]
  split
  · rfl
  split <;> rfl

/-- PLAY_RESUME leaves the waiting requests (R136). -/
theorem cmdPlayResume_awaiting (tag pane : Nat) (s : State)
    (q : List Request) :
    cmdPlayResume tag pane (s.awaiting q) =
      (cmdPlayResume tag pane s).awaiting q := by
  unfold cmdPlayResume
  rw [show (s.awaiting q).pane = s.pane from rfl]
  split
  · rfl
  split
  · rfl
  · rfl
  · simp only [State.resumed, show (s.awaiting q).tally = s.tally from rfl]
    split <;> rfl

/-- PLAY_STOP leaves the waiting requests (R137). -/
theorem cmdPlayStop_awaiting (tag pane : Nat) (s : State)
    (q : List Request) :
    cmdPlayStop tag pane (s.awaiting q) =
      (cmdPlayStop tag pane s).awaiting q := by
  unfold cmdPlayStop
  rw [show (s.awaiting q).pane = s.pane from rfl]
  split <;> rfl

/-- PANE_CLEAR leaves the waiting requests (R123). -/
theorem cmdPaneClear_awaiting (tag pane : Nat) (s : State)
    (q : List Request) :
    cmdPaneClear tag pane (s.awaiting q) =
      (cmdPaneClear tag pane s).awaiting q := by
  unfold cmdPaneClear
  rw [show (s.awaiting q).pane = s.pane from rfl]
  split <;> rfl

/-- A decoded command leaves the waiting requests. -/
theorem runCommand_awaiting (c : Instr) (s : State) (q : List Request) :
    runCommand c (s.awaiting q) = (runCommand c s).awaiting q := by
  cases c with
  | warmReset a => exact cmdWarmReset_awaiting a s q
  | setTally a b => exact cmdSetTally_awaiting a b s q
  | setMode a b => exact cmdSetMode_awaiting a b s q
  | setClock a b c => exact cmdSetClock_awaiting a b c s q
  | dayStart a b c => exact cmdDayStart_awaiting a b c s q
  | setIntake a b => exact cmdSetIntake_awaiting a b s q
  | setWords a b => exact cmdSetWords_awaiting a b s q
  | setView a b => exact cmdSetView_awaiting a b s q
  | setSegment a b c => exact cmdSetSegment_awaiting a b c s q
  | setTrigger a b => exact cmdSetTrigger_awaiting a b s q
  | clearTrigger a b => exact cmdClearTrigger_awaiting a b s q
  | clearCauses a b => exact cmdClearCauses_awaiting a b s q
  | inspect a b c => exact cmdInspect_awaiting a b c s q
  | setSurface a b => exact cmdSetSurface_awaiting a b s q
  | setCell a b => exact cmdSetCell_awaiting a b s q
  | clearCell a b => exact cmdClearCell_awaiting a b s q
  | loadGlyphs a b c d => exact cmdLoadGlyphs_awaiting a b c d s q
  | setPane a b => exact cmdSetPane_awaiting a b s q
  | setPlaylist a b c d e => exact cmdSetPlaylist_awaiting a b c d e s q
  | playStart a b c d => exact cmdPlayStart_awaiting a b c d s q
  | playResume a b => exact cmdPlayResume_awaiting a b s q
  | playStop a b => exact cmdPlayStop_awaiting a b s q
  | paneClear a b => exact cmdPaneClear_awaiting a b s q
  | setMask a b => rfl
  | resetRelease _ => rfl
  | resetAssert => rfl
  | millisecondTick => rfl
  | secondsTick => rfl
  | changeOfMinute => rfl
  | boardMinuteRecompute => rfl
  | clockCellUpdate => rfl
  | holdExpiry => rfl
  | dwellExpiry _ => rfl
  | timedNoticeExpiry => rfl
  | cyclePhaseExpiry => rfl
  | retryTimerExpiry _ => rfl
  | idleTimerExpiry _ => rfl
  | boardTallyEvent => rfl
  | noticeTallyEvent => rfl
  | paneTallyEvent => rfl
  | patchSourceChange _ => rfl
  | paneFullscreenFlag => rfl
  | upstreamRequest _ => rfl
  | downstreamResponse _ => rfl
  | loadDone => rfl
  | loaderDrainEnd => rfl
  | slotFree _ => rfl
  | downstreamGrant _ => rfl
  | processingStep => rfl
  | anchorLineWrite _ _ _ _ _ => rfl

/-- A command line taken leaves the waiting requests (R171). -/
theorem takeCommand_awaiting (full : Bool) (data : Line) (s : State) (q : List Request) :
    takeCommand full data (s.awaiting q) = (takeCommand full data s).awaiting q := by
  unfold takeCommand
  split
  · rfl
  split
  · rfl
  split
  · rfl
  exact runCommand_awaiting _ _ _

/-! ### Recognition -/

/-- A scan read leaves the waiting requests (R97). -/
theorem scanRead_awaiting (k : Nat) (r : Request) (s : State) (q : List Request) :
    scanRead k r (s.awaiting q) = (scanRead k r s).awaiting q := by
  simp only [scanRead]
  rw [show (s.awaiting q).pane = s.pane from rfl, show (s.awaiting q).patch = s.patch from rfl]
  split <;> rfl

/-- A frame start leaves the waiting requests (R78). -/
theorem frameStart_awaiting (k : Nat) (s : State) (q : List Request) :
    frameStart k (s.awaiting q) = (frameStart k s).awaiting q := by
  simp only [frameStart, ← raiseAll_awaiting]
  rfl

/-- A read taken leaves the waiting requests (R157). -/
theorem takeRead_awaiting (r : Request) (s : State) (q : List Request) :
    takeRead r (s.awaiting q) = (takeRead r s).awaiting q := by
  unfold takeRead
  rw [show (s.awaiting q).pane = s.pane from rfl, show (s.awaiting q).patch = s.patch from rfl]
  split
  · rfl
  split
  · rfl
  split
  · rw [frameStart_awaiting, scanRead_awaiting]
  · exact scanRead_awaiting _ _ _ _

/-- A write taken leaves the waiting requests (R157). -/
theorem takeWrite_awaiting (a : Nat) (full : Bool) (data : Line) (s : State) (q : List Request) :
    takeWrite a full data (s.awaiting q) = (takeWrite a full data s).awaiting q := by
  unfold takeWrite
  rw [show (s.awaiting q).pane = s.pane from rfl, show (s.awaiting q).intake = s.intake from rfl]
  split
  · simp only [takeIntake, ← raiseAll_awaiting]
    rfl
  split
  · simp only [takeMarker, ← raiseAll_awaiting]
    rfl
  · rfl

/-- A recognised request leaves the waiting requests (R155, R157). -/
theorem recognise_awaiting (r : Request) (s : State) (q : List Request) :
    recognise r (s.awaiting q) = (recognise r s).awaiting q := by
  unfold recognise
  rw [show (s.awaiting q).anchorSpan = s.anchorSpan from rfl,
    show (s.awaiting q).path.mode = s.path.mode from rfl]
  split
  · unfold takeAnchor
    rw [show (s.awaiting q).anchorLineOf = s.anchorLineOf from rfl]
    split
    · split
      · rw [takeCommand_awaiting]
        rfl
      · rfl
    · split <;> rfl
  split
  · rfl
  split
  · exact takeRead_awaiting _ _ _
  · rw [takeWrite_awaiting]
    rfl

/-- The request taken is recognised, whether it is the one offered or the oldest that waits, and the
others go on waiting (R155, R159). -/
theorem takeOldest_recognises {s : State} {offer : Option Request} {r : Request}
    {rest : List Request} (hr : s.path.resetHeld = false)
    (hw : s.path.waiting ++ offer.toList = r :: rest)
    (ht : s.path.table.length < 64) (hn : r.txn < 64)
    (hp : ∀ e, e ∈ s.path.table → ¬(e.initiator = r.initiator ∧ e.txn = r.txn)) :
    exec (.upstreamRequest offer) s = .next ((recognise r s).awaiting rest) := by
  have he : s.path.entry r.initiator r.txn = none := by
    simp only [PathUnit.entry, List.find?_eq_none]
    intro e h
    simpa [InFlight.hasPair] using hp e h
  have ho : takeOldest (offerRequest offer s) = takeRequest r (s.awaiting rest) := by
    rw [takeOldest, if_neg (by simpa [offerRequest] using ht),
      show (offerRequest offer s).path.waiting = r :: rest from hw]
    rfl
  change unlessReset (fun t => takeOldest (offerRequest offer t)) s = _
  rw [unlessReset_runs hr, ho, takeRequest, if_neg (show ¬ 64 ≤ r.txn by omega),
    show (s.awaiting rest).path.entry r.initiator r.txn = s.path.entry r.initiator r.txn from rfl, he,
    recognise_awaiting]
  rfl

end Sys2Proof.Machine
end

