-- ==== Sys2Proof/WellFormed.lean ====
section
/-! DEFINITION. Which commands a port or a line can carry: every parameter at the width of R173,
every request and response within R154. A command that is not well formed stands for no event of
the part; its meaning is total all the same. -/

namespace Sys2Proof

/-- The number fits in `w` bytes. -/
def fits (w n : Nat) : Bool := n < 256 ^ w

/-- A line has 64 bytes (00_scope.md, Conventions). -/
def Line.wf (l : Line) : Bool := l.length == 64

/-- Each channel of a colour fits in a byte (R173). -/
def Colour.wf (c : Colour) : Bool := fits 1 c.r && fits 1 c.g && fits 1 c.b

/-- The data of a write is a line (R154). -/
def Access.wf : Access → Bool
  | .read => true
  | .write _ data => Line.wf data

/-- A 40-bit line address, an initiator 0..15 and a transaction number 0..127 (R154). -/
def Request.wf (r : Request) : Bool :=
  fits 5 r.addr && r.addr % 64 == 0 && r.initiator < 16 && r.txn < 128 && r.access.wf

/-- The data of a response is a line, its pair that of a request (R154). -/
def Response.wf (r : Response) : Bool :=
  r.initiator < 16 && r.txn < 128 &&
    (match r.reply with
     | .data l => Line.wf l
     | .ack => true
     | .error => true)

/-- SET_INTAKE's widths (R173). -/
def IntakeParams.wf (p : IntakeParams) : Bool :=
  fits 5 p.base && fits 2 p.length && fits 1 p.upper && fits 1 p.lower && fits 1 p.interval

/-- SET_TALLY's widths (R173). -/
def TallyParams.wf (p : TallyParams) : Bool :=
  fits 1 p.lead && fits 1 p.linger && fits 1 p.fillingPct && fits 1 p.almostPct &&
    fits 1 p.almostAbs

/-- SET_VIEW's widths (R173). -/
def ViewParams.wf (p : ViewParams) : Bool :=
  fits 1 p.view && fits 3 p.filter && fits 2 p.horizon && fits 1 p.rows && fits 1 p.dwell &&
    fits 1 p.linger

/-- SET_SURFACE's widths (R173). -/
def SurfaceParams.wf (p : SurfaceParams) : Bool :=
  fits 1 p.surface && fits 5 p.base && fits 4 p.stride && fits 2 p.width && fits 2 p.height &&
    fits 1 p.scan && p.plate.wf

/-- SET_CELL's widths (R173). -/
def CellParams.wf (p : CellParams) : Bool :=
  fits 1 p.cell && fits 1 p.surface && fits 2 p.x && fits 2 p.y && fits 1 p.chars &&
    fits 1 p.scale && fits 1 p.layer && fits 1 p.glyphSet && fits 1 p.just && p.fg.wf &&
    p.plate.wf && fits 1 p.alpha && fits 1 p.fullScreen && fits 1 p.twelveHour && fits 1 p.kind &&
    fits 1 p.param1 && fits 1 p.param2 && fits 1 p.param3

/-- The widths of the timing fields (R173). -/
def TimingParams.wf (p : TimingParams) : Bool :=
  fits 1 p.mode && fits 2 p.lifetime && fits 2 p.dwell && fits 2 p.gap && fits 1 p.repeats &&
    fits 1 p.endAction

/-- SET_TRIGGER's widths (R173). -/
def TriggerParams.wf (p : TriggerParams) : Bool :=
  fits 1 p.trigger && fits 1 p.event && fits 1 p.filter && fits 1 p.notice && fits 1 p.priority &&
    fits 2 p.screens && p.timing.wf && fits 1 p.count && p.items.length == 6 &&
    p.items.all (fits 1)

/-- SET_PANE's widths (R173). -/
def PaneParams.wf (p : PaneParams) : Bool :=
  fits 1 p.pane && fits 1 p.surface && fits 2 p.px && fits 2 p.py && fits 2 p.pw && fits 2 p.ph &&
    fits 5 p.slotBase && fits 4 p.slotSize && fits 1 p.slotCount && fits 5 p.marker &&
    fits 5 p.cue && fits 1 p.scanRate && fits 1 p.clipRate && fits 1 p.upper && fits 1 p.lower &&
    fits 1 p.starvation && fits 1 p.deglitch && fits 1 p.retryTime && fits 1 p.retryLimit

/-- The widths of a playlist entry (R173). -/
def EntryParams.wf (p : EntryParams) : Bool :=
  fits 1 p.valid && fits 2 p.clip && fits 1 p.showNo && fits 1 p.repeats && fits 1 p.flags

/-- The commands that stand for an event of the part. SET_PLAYLIST carries the entries its line
has room for: as many as its count says, and eight at most (R173). -/
def Instr.wf : Instr → Bool
  | .resetRelease straps => fits 1 straps
  | .resetAssert => true
  | .millisecondTick => true
  | .secondsTick => true
  | .changeOfMinute => true
  | .boardMinuteRecompute => true
  | .clockCellUpdate => true
  | .holdExpiry => true
  | .dwellExpiry view => view < 4
  | .timedNoticeExpiry => true
  | .cyclePhaseExpiry => true
  | .retryTimerExpiry pane => pane < 8
  | .idleTimerExpiry surface => surface < 12
  | .boardTallyEvent => true
  | .noticeTallyEvent => true
  | .paneTallyEvent => true
  | .patchSourceChange _ => true
  | .paneFullscreenFlag => true
  | .upstreamRequest offer => offer.all Request.wf
  | .downstreamResponse response => response.wf
  | .loadDone => true
  | .loaderDrainEnd => true
  | .slotFree response => response.wf
  | .downstreamGrant own => own < 128
  | .processingStep => true
  | .setMode tag mode => fits 1 tag && fits 1 mode
  | .warmReset tag => fits 1 tag
  | .setClock tag minute second => fits 1 tag && fits 2 minute && fits 1 second
  | .dayStart tag minute origin => fits 1 tag && fits 2 minute && fits 2 origin
  | .setIntake tag params => fits 1 tag && params.wf
  | .setTally tag params => fits 1 tag && params.wf
  | .setWords tag words => fits 1 tag && words.length == 7 && words.all (fits 1)
  | .setView tag params => fits 1 tag && params.wf
  | .setSurface tag params => fits 1 tag && params.wf
  | .setCell tag params => fits 1 tag && params.wf
  | .clearCell tag cell => fits 1 tag && fits 1 cell
  | .loadGlyphs tag set source sum => fits 1 tag && fits 1 set && fits 5 source && fits 2 sum
  | .setSegment tag segment text => fits 1 tag && fits 1 segment && text.length == 24
  | .setTrigger tag params => fits 1 tag && params.wf
  | .clearTrigger tag trigger => fits 1 tag && fits 1 trigger
  | .setPane tag params => fits 1 tag && params.wf
  | .setPlaylist tag pane first count entries =>
      fits 1 tag && fits 1 pane && fits 1 first && fits 1 count &&
        entries.length == min count 8 && entries.all EntryParams.wf
  | .playStart tag pane entry now => fits 1 tag && fits 1 pane && fits 1 entry && fits 1 now
  | .playResume tag pane => fits 1 tag && fits 1 pane
  | .playStop tag pane => fits 1 tag && fits 1 pane
  | .paneClear tag pane => fits 1 tag && fits 1 pane
  | .setMask tag mask => fits 1 tag && fits 2 mask
  | .clearCauses tag mask => fits 1 tag && fits 2 mask
  | .inspect tag kind index => fits 1 tag && fits 1 kind && fits 2 index
  | .anchorLineWrite line initiator txn _ data =>
      1 ≤ line && line ≤ 7 && initiator < 16 && txn < 128 && Line.wf data

end Sys2Proof
end

