-- ==== Sys2Proof/Laws/PerInstr.lean ====
section
/-! SUPPORT. The shape of every command: what a command line decodes to is well formed, carries the
line's code, and so fits the widths of R173; no line decodes to a row that is no command line. -/

namespace Sys2Proof

/-! ### Numbers of a line -/

/-- A byte of a line lies below 256. -/
theorem byteAt_lt (l : Line) (i : Nat) : byteAt l i < 256 := (l.getD i 0).isLt

/-- A number of `w` bytes lies below 256 ^ w. -/
theorem numAt_lt (l : Line) (i w : Nat) : numAt l i w < 256 ^ w := by
  induction w generalizing i with
  | zero => simp [numAt]
  | succ w ih =>
    have h1 := byteAt_lt l i
    have h2 := ih (i + 1)
    rw [numAt, Nat.pow_succ]
    omega

/-- A byte of a line fits one byte. -/
@[simp] theorem fits_byteAt (l : Line) (i : Nat) : fits 1 (byteAt l i) = true := by
  simpa [fits] using byteAt_lt l i

/-- A number of a line fits its width. -/
@[simp] theorem fits_numAt (l : Line) (i w : Nat) : fits w (numAt l i w) = true := by
  simpa [fits] using numAt_lt l i w

/-- A colour of a line fits its three bytes. -/
@[simp] theorem colourAt_wf (l : Line) (i : Nat) : (colourAt l i).wf = true := by
  simp [Colour.wf, colourAt]

/-- Timing fields of a line fit their widths. -/
@[simp] theorem timingAt_wf (l : Line) (i : Nat) : (timingAt l i).wf = true := by
  simp [TimingParams.wf, timingAt]

/-- A playlist entry of a line fits its widths. -/
@[simp] theorem entryAt_wf (l : Line) (i : Nat) : (entryAt l i).wf = true := by
  simp [EntryParams.wf, entryAt]

/-- A number is packed in as many bytes as its width. -/
theorem leBytes_length (w n : Nat) : (leBytes w n).length = w := by
  induction w generalizing n with
  | zero => rfl
  | succ w ih => simp [leBytes, ih]

end Sys2Proof

namespace Sys2Proof.Laws

open Sys2Proof.Machine

/-- A command that a line decodes to is well formed and has the code of the line (R171, R173). -/
def Shape.Statement (c : Instr) : Prop :=
  ∀ l : Line, l.length = 64 → decodeCommand l = some c →
    c.wf = true ∧ commandCode c = some (byteAt l 0)

/-- Whatever a line decodes to has the shape (R171, R173). -/
theorem decodeCommand_shape (c : Instr) : Shape.Statement c := by
  intro l hl h
  unfold decodeCommand at h
  split at h
  case h_25 => cases h
  all_goals
    next hc =>
      injection h with h
      subst h
      refine ⟨?_, by rw [hc]; rfl⟩
      simp [Instr.wf, IntakeParams.wf, TallyParams.wf, ViewParams.wf, SurfaceParams.wf,
        CellParams.wf, TriggerParams.wf, PaneParams.wf, bytesAt, hl]

theorem Shape.resetRelease (straps : Nat) :
    Shape.Statement (.resetRelease straps) := decodeCommand_shape _
theorem Shape.resetAssert : Shape.Statement .resetAssert := decodeCommand_shape _
theorem Shape.millisecondTick : Shape.Statement .millisecondTick := decodeCommand_shape _
theorem Shape.secondsTick : Shape.Statement .secondsTick := decodeCommand_shape _
theorem Shape.changeOfMinute : Shape.Statement .changeOfMinute := decodeCommand_shape _
theorem Shape.boardMinuteRecompute : Shape.Statement .boardMinuteRecompute := decodeCommand_shape _
theorem Shape.clockCellUpdate : Shape.Statement .clockCellUpdate := decodeCommand_shape _
theorem Shape.holdExpiry : Shape.Statement .holdExpiry := decodeCommand_shape _
theorem Shape.dwellExpiry (view : Nat) :
    Shape.Statement (.dwellExpiry view) := decodeCommand_shape _
theorem Shape.timedNoticeExpiry : Shape.Statement .timedNoticeExpiry := decodeCommand_shape _
theorem Shape.cyclePhaseExpiry : Shape.Statement .cyclePhaseExpiry := decodeCommand_shape _
theorem Shape.retryTimerExpiry (pane : Nat) :
    Shape.Statement (.retryTimerExpiry pane) := decodeCommand_shape _
theorem Shape.idleTimerExpiry (surface : Nat) :
    Shape.Statement (.idleTimerExpiry surface) := decodeCommand_shape _
theorem Shape.boardTallyEvent : Shape.Statement .boardTallyEvent := decodeCommand_shape _
theorem Shape.noticeTallyEvent : Shape.Statement .noticeTallyEvent := decodeCommand_shape _
theorem Shape.paneTallyEvent : Shape.Statement .paneTallyEvent := decodeCommand_shape _
theorem Shape.patchSourceChange (source : PatchSource) :
    Shape.Statement (.patchSourceChange source) := decodeCommand_shape _
theorem Shape.paneFullscreenFlag : Shape.Statement .paneFullscreenFlag := decodeCommand_shape _
theorem Shape.upstreamRequest (offer : Option Request) :
    Shape.Statement (.upstreamRequest offer) := decodeCommand_shape _
theorem Shape.downstreamResponse (response : Response) :
    Shape.Statement (.downstreamResponse response) := decodeCommand_shape _
theorem Shape.loadDone : Shape.Statement .loadDone := decodeCommand_shape _
theorem Shape.loaderDrainEnd : Shape.Statement .loaderDrainEnd := decodeCommand_shape _
theorem Shape.slotFree (response : Response) :
    Shape.Statement (.slotFree response) := decodeCommand_shape _
theorem Shape.downstreamGrant (own : Nat) :
    Shape.Statement (.downstreamGrant own) := decodeCommand_shape _
theorem Shape.processingStep : Shape.Statement .processingStep := decodeCommand_shape _
theorem Shape.setMode (tag : Nat) (mode : Nat) :
    Shape.Statement (.setMode tag mode) := decodeCommand_shape _
theorem Shape.warmReset (tag : Nat) : Shape.Statement (.warmReset tag) := decodeCommand_shape _
theorem Shape.setClock (tag : Nat) (minute : Nat) (second : Nat) :
    Shape.Statement (.setClock tag minute second) := decodeCommand_shape _
theorem Shape.dayStart (tag : Nat) (minute : Nat) (origin : Nat) :
    Shape.Statement (.dayStart tag minute origin) := decodeCommand_shape _
theorem Shape.setIntake (tag : Nat) (params : IntakeParams) :
    Shape.Statement (.setIntake tag params) := decodeCommand_shape _
theorem Shape.setTally (tag : Nat) (params : TallyParams) :
    Shape.Statement (.setTally tag params) := decodeCommand_shape _
theorem Shape.setWords (tag : Nat) (words : List Nat) :
    Shape.Statement (.setWords tag words) := decodeCommand_shape _
theorem Shape.setView (tag : Nat) (params : ViewParams) :
    Shape.Statement (.setView tag params) := decodeCommand_shape _
theorem Shape.setSurface (tag : Nat) (params : SurfaceParams) :
    Shape.Statement (.setSurface tag params) := decodeCommand_shape _
theorem Shape.setCell (tag : Nat) (params : CellParams) :
    Shape.Statement (.setCell tag params) := decodeCommand_shape _
theorem Shape.clearCell (tag : Nat) (cell : Nat) :
    Shape.Statement (.clearCell tag cell) := decodeCommand_shape _
theorem Shape.loadGlyphs (tag : Nat) (set : Nat) (source : Nat) (sum : Nat) :
    Shape.Statement (.loadGlyphs tag set source sum) := decodeCommand_shape _
theorem Shape.setSegment (tag : Nat) (segment : Nat) (text : List Byte) :
    Shape.Statement (.setSegment tag segment text) := decodeCommand_shape _
theorem Shape.setTrigger (tag : Nat) (params : TriggerParams) :
    Shape.Statement (.setTrigger tag params) := decodeCommand_shape _
theorem Shape.clearTrigger (tag : Nat) (trigger : Nat) :
    Shape.Statement (.clearTrigger tag trigger) := decodeCommand_shape _
theorem Shape.setPane (tag : Nat) (params : PaneParams) :
    Shape.Statement (.setPane tag params) := decodeCommand_shape _
theorem Shape.setPlaylist (tag : Nat) (pane : Nat) (first : Nat) (count : Nat) (entries : List EntryParams) :
    Shape.Statement (.setPlaylist tag pane first count entries) := decodeCommand_shape _
theorem Shape.playStart (tag : Nat) (pane : Nat) (entry : Nat) (now : Nat) :
    Shape.Statement (.playStart tag pane entry now) := decodeCommand_shape _
theorem Shape.playResume (tag : Nat) (pane : Nat) :
    Shape.Statement (.playResume tag pane) := decodeCommand_shape _
theorem Shape.playStop (tag : Nat) (pane : Nat) :
    Shape.Statement (.playStop tag pane) := decodeCommand_shape _
theorem Shape.paneClear (tag : Nat) (pane : Nat) :
    Shape.Statement (.paneClear tag pane) := decodeCommand_shape _
theorem Shape.setMask (tag : Nat) (mask : Nat) :
    Shape.Statement (.setMask tag mask) := decodeCommand_shape _
theorem Shape.clearCauses (tag : Nat) (mask : Nat) :
    Shape.Statement (.clearCauses tag mask) := decodeCommand_shape _
theorem Shape.inspect (tag : Nat) (kind : Nat) (index : Nat) :
    Shape.Statement (.inspect tag kind index) := decodeCommand_shape _
theorem Shape.anchorLineWrite (line : Nat) (initiator : Nat) (txn : Nat) (enables : BitVec 64) (data : Line) :
    Shape.Statement (.anchorLineWrite line initiator txn enables data) := decodeCommand_shape _

end Sys2Proof.Laws
end

