-- ==== Sys2Proof/Tests/Slice0.lean ====
section
/-! SUPPORT. Tests: the ill-formed terms the checks refuse, lines written out by the layouts of
chapter 13, the manual's worked cases, one step of each command, and for every statement with
hypotheses a state and operands that meet them. -/

namespace Sys2Proof.Tests

set_option Elab.async false

open Sys2Proof.Machine

/-! ### Ill-formed terms are refused -/

/-- A well-formed pane for the smoke tests to spoil. -/
def plainPane : PaneParams :=
  { pane := 1, surface := 1, px := 16, py := 0, pw := 32, ph := 20, slotBase := 1610612736,
    slotSize := 4096, slotCount := 4, marker := 1627389952, cue := 1627390016, scanRate := 60,
    clipRate := 30, upper := 3, lower := 1, starvation := 2, deglitch := 3, retryTime := 5,
    retryLimit := 2 }

/-- The timing fields of a notice of one mode. -/
def timingOfMode (mode : Nat) : TimingParams :=
  { mode := mode, lifetime := 120, dwell := 20, gap := 40, repeats := 3, endAction := 0 }

/-- A read by initiator 1 under transaction 2. -/
def readAt (a : Nat) : Request := { addr := a, initiator := 1, txn := 2, access := .read }

/-- A full-line write by initiator 3 under transaction 4. -/
def writeAt (a : Nat) (data : Line) : Request :=
  { addr := a, initiator := 3, txn := 4, access := .write (BitVec.allOnes 64) data }

theorem test_wf_line : Line.wf (List.replicate 63 0) = false ∧ Line.wf (List.replicate 64 0) := by
  decide
theorem test_wf_colour : Colour.wf { r := 256, g := 0, b := 0 } = false := by decide
theorem test_wf_access : Access.wf (.write 0 []) = false := by decide
theorem test_wf_request_unaligned : (readAt 65).wf = false ∧ (readAt 64).wf := by decide
theorem test_wf_request_address : (readAt (256 ^ 5)).wf = false := by decide
theorem test_wf_request_pair : Request.wf { readAt 0 with initiator := 16 } = false ∧
    Request.wf { readAt 0 with txn := 128 } = false := by decide
theorem test_wf_response :
    Response.wf { initiator := 0, txn := 5, reply := .data [] } = false := by decide
theorem test_wf_intake : IntakeParams.wf
    { base := 0, length := 65536, upper := 24, lower := 8, interval := 8 } = false := by decide
theorem test_wf_tally : TallyParams.wf
    { lead := 256, linger := 0, fillingPct := 0, almostPct := 0, almostAbs := 0 } = false := by decide
theorem test_wf_view : ViewParams.wf
    { view := 0, filter := 16777216, horizon := 0, rows := 1, dwell := 5, linger := 0 } = false := by
  decide
theorem test_wf_surface : SurfaceParams.wf
    { surface := 0, base := 0, stride := 64, width := 65536, height := 16, scan := 0,
      plate := { r := 0, g := 0, b := 0 } } = false := by decide
theorem test_wf_cell : CellParams.wf
    { cell := 256, surface := 0, x := 0, y := 0, chars := 1, scale := 1, layer := 0, glyphSet := 0,
      just := 0, fg := { r := 0, g := 0, b := 0 }, plate := { r := 0, g := 0, b := 0 }, alpha := 0,
      fullScreen := 0, twelveHour := 0, kind := 4, param1 := 0, param2 := 0, param3 := 0 } = false := by
  decide
theorem test_wf_timing : TimingParams.wf { timingOfMode 2 with repeats := 256 } = false := by decide
theorem test_wf_trigger : TriggerParams.wf
    { trigger := 0, event := 0, filter := 255, notice := 0, priority := 0, screens := 1,
      timing := timingOfMode 0, count := 1, items := [0] } = false := by decide
theorem test_wf_pane : PaneParams.wf { plainPane with marker := 256 ^ 5 } = false ∧ plainPane.wf := by
  decide
theorem test_wf_entry : EntryParams.wf
    { valid := 1, clip := 65536, showNo := 255, repeats := 1, flags := 0 } = false := by decide
theorem test_wf_commands : (Instr.dwellExpiry 4).wf = false ∧ (Instr.retryTimerExpiry 8).wf = false ∧
    (Instr.idleTimerExpiry 12).wf = false ∧ (Instr.downstreamGrant 128).wf = false ∧
    (Instr.resetRelease 256).wf = false ∧ (Instr.setWords 0 []).wf = false ∧
    (Instr.setSegment 0 0 []).wf = false ∧ (Instr.setPlaylist 0 0 0 3 []).wf = false ∧
    (Instr.anchorLineWrite 8 0 0 0 (List.replicate 64 0)).wf = false ∧
    (Instr.setMode 256 0).wf = false ∧ (Instr.inspect 0 0 65536).wf = false := by decide

/-! ### Lines written out -/

/-- Bytes from numbers. -/
def bytes (l : List Nat) : List Byte := l.map byte

/-- A field of zero bytes up to `n` bytes. -/
def padTo (n : Nat) (l : List Byte) : List Byte := l ++ List.replicate (n - l.length) 0

/-- A command line or marker line: bytes 0 and 1, the check word that brings the sum of the 32 words
to 0xFFFF, then the bytes from byte 4 on. -/
def checkedLine (b0 b1 : Nat) (rest : List Nat) : Line :=
  bytes [b0, b1] ++ leBytes 2 (65535 - onesSum (padTo 64 (bytes ([b0, b1, 0, 0] ++ rest))) 32) ++
    padTo 60 (bytes rest)

/-- Bytes 0 to 57 of an intake record: the bytes given, and the check word over words 0 to 27. -/
def recordData (l : List Nat) : Line :=
  padTo 56 (bytes l) ++ leBytes 2 (65535 - onesSum (padTo 56 (bytes l)) 28)

/-- An intake line: a record, its state byte, and an empty verdict area. -/
def intakeLine (state : Nat) (l : List Nat) : Line :=
  recordData l ++ padTo 6 (bytes [state])

/-- R92's example: 0x1234, 0xF00F, 0x8001 sum to 0x0244, then 0x8245; R147's worked case. -/
theorem test_onesSum : onesSum (bytes [0x34, 0x12, 0x0F, 0xF0]) 2 = 0x0244 ∧
    onesSum (bytes [0x34, 0x12, 0x0F, 0xF0, 0x01, 0x80]) 28 = 0x8245 ∧
    recordData [0x34, 0x12, 0x0F, 0xF0, 0x01, 0x80] =
      padTo 56 (bytes [0x34, 0x12, 0x0F, 0xF0, 0x01, 0x80]) ++ bytes [0xBA, 0x7D] := by
  decide +kernel

/-- The worked case's damaged record sums to 0x0100 (chapter 9). -/
theorem test_onesSum_damaged :
    onesSum (padTo 56 (bytes [0x34, 0x12, 0x0F, 0xF0, 0x01, 0x81]) ++ bytes [0xBA, 0x7D]) 29 =
      0x0100 := by decide +kernel

/-- SET_CLOCK (minute 690, second 0) with tag 0x31 (chapter 12; R173: code 3, minute 2, second 1). -/
theorem test_decode_setClock :
    decodeCommand (bytes [3, 0x31, 0, 0, 0xB2, 0x02, 0]) = some (.setClock 0x31 690 0) := by
  decide +kernel

/-- SET_SURFACE: surface 1, base 5, stride 4, width 2, height 2, scan 1, plate blue, green, red. -/
theorem test_decode_setSurface :
    decodeCommand (bytes [9, 7, 0, 0, 2, 0, 0, 0, 0x40, 0, 0, 0x1E, 0, 0, 0x80, 0x07, 0x38, 0x04, 3,
      10, 20, 30]) = some (.setSurface 7 {
        surface := 2, base := 0x40000000, stride := 7680, width := 1920, height := 1080, scan := 3,
        plate := { r := 30, g := 20, b := 10 } }) := by
  decide +kernel

/-- SET_TRIGGER: the timing fields, the count and six items; item 66 is the field TITLE. -/
theorem test_decode_setTrigger :
    decodeCommand (bytes [14, 0, 0, 0, 2, 0, 17, 20, 5, 0x30, 0, 1, 120, 0, 1, 0, 2, 0, 3, 0, 4, 5, 66,
      6, 64, 0, 0]) = some (.setTrigger 0 {
        trigger := 2, event := 0, filter := 17, notice := 20, priority := 5, screens := 48,
        timing := {
          mode := 1, lifetime := 120, dwell := 1, gap := 2, repeats := 3, endAction := 0 }
        count := 4, items := [5, 66, 6, 64, 0, 0] }) := by
  decide +kernel

/-- SET_PLAYLIST: two entries of six bytes. -/
theorem test_decode_setPlaylist :
    decodeCommand (bytes [17, 1, 0, 0, 3, 1, 2, 1, 217, 0, 17, 2, 8, 1, 230, 0, 22, 1, 24]) =
      some (.setPlaylist 1 3 1 2 [{ valid := 1, clip := 217, showNo := 17, repeats := 2, flags := 8 },
        { valid := 1, clip := 230, showNo := 22, repeats := 1, flags := 24 }]) := by decide +kernel

/-- Codes 0 and 25 name no command (R171). -/
theorem test_decode_badCode : decodeCommand (bytes [0, 1]) = none ∧ decodeCommand (bytes [25]) = none := by
  decide

/-- SHOW_DEFINE (17, 5, 540, 120, "AB"): byte 1 is not read (R180). -/
theorem test_decode_showDefine :
    decodeRecord (bytes [8, 9, 17, 5, 0x1C, 0x02, 120, 0, 65, 66]) =
      some (.showDefine 17 5 540 120 (bytes [65, 66])) := by decide +kernel

/-- HOLD by desk 41: ID 7001, show 8, 4 seats, lifetime 300 (chapter 2). -/
theorem test_decode_hold :
    decodeRecord (bytes [5, 41, 0x59, 0x1B, 8, 4, 0x2C, 0x01]) = some (.hold 41 7001 8 4 300) := by
  decide +kernel

/-- Kinds 0 and 15 are no kind (R182). -/
theorem test_decode_badKind : decodeRecord [] = none ∧ decodeRecord (bytes [15]) = none := by decide

/-- A marker reads place 0 of byte 4 alone (R180). -/
theorem test_decode_marker :
    decodeMarker (bytes [2, 7, 0, 0, 0xFF]) = { slot := 2, generation := 7, last := true } ∧
      decodeMarker (bytes [2, 7, 0, 0, 0xFE]) = { slot := 2, generation := 7, last := false } := by
  decide

/-- The opcode table gives no row any bits. -/
theorem test_decodeTableWord : decodeTableWord 8 3 = none := rfl

/-! ### The manual's worked cases -/

/-- A LISTED show of a capacity with some seats sold. -/
def seatsOf (capacity sold held blocked : Nat) : Show :=
  { Show.vacant with
    state := .listed, auditorium := 5, start := 1000, capacity := capacity, sold := sold,
    held := held, blocked := blocked }

/-- Capacity 250 with 14 left at almost_pct 6 is ALMOST; the ranges of capacity 120; capacity 8 is
ALMOST unsold (chapter 1, Band worked out). -/
theorem test_bands :
    bandOf { TallySettings.powerOn with almostPct := 6, almostAbs := 0 } (seatsOf 250 220 12 4) =
      .almost ∧
    [120, 119, 108, 107, 72, 71, 0].map (fun n => bandOf TallySettings.powerOn (seatsOf 120 n 0 0)) =
      [.soldOut, .almost, .almost, .filling, .filling, .plenty, .plenty] ∧
    bandOf TallySettings.powerOn (seatsOf 8 0 0 0) = .almost := by decide +kernel

/-- The times of 1.7: at minutes 520, 525 with the start at 555, 535, 555 and 565 (chapter 1). -/
theorem test_timeState : [(520, 540), (525, 555), (535, 555), (555, 555), (565, 555)].map
    (fun p => timeState TallySettings.powerOn p.1 p.2) =
      [.boarding, .listed, .boarding, .started, .closed] := by decide

/-- START with origin 600: 540 is 19:00 or 7:00p, 900 is 01:00 (chapters 3 and 11). -/
theorem test_timeText : timeText false (timeOfDay 600 540) = [49, 57, 58, 48, 48] ∧
    timeText true (timeOfDay 600 540) = [55, 58, 48, 48, 112] ∧
    timeText false (timeOfDay 600 900) = [48, 49, 58, 48, 48] := by decide +kernel

/-- 1234 seats in 3 characters render "99+", 20 render "20", and 9 in one character (R52). -/
theorem test_seatsText : seatsText 1234 3 = [57, 57, 43] ∧ seatsText 20 3 = [50, 48] ∧
    seatsText 9 1 = [57] ∧ seatsText 10 1 = [43] := by decide +kernel

/-- "SOLD OUT" centred in 12 characters has two spaces on each side; " 14" is RIGHT in 3; "+240" cut
to 2 (R86, chapter 5). -/
theorem test_fitText :
    fitText .centre 12 [83, 79, 76, 68, 32, 79, 85, 84] =
      [32, 32, 83, 79, 76, 68, 32, 79, 85, 84, 32, 32] ∧
    fitText .right 3 [49, 52] = [32, 49, 52] ∧ fitText .left 2 [43, 50, 52, 48] = [43, 50] := by decide

/-- The plate stage of the worked line: (100, 50, 0) under (20, 20, 20) at 192 (chapter 6). -/
theorem test_blend : blendColour { r := 100, g := 50, b := 0 } { r := 20, g := 20, b := 20 } 192 =
    { r := 40, g := 27, b := 15 } := by decide

/-- The worked line's place: row 100, pixel 640 (chapter 6). -/
theorem test_place :
    Surface.row { Surface.vacant with base := 0x40000000, stride := 7680 } 0x400BC200 = 100 ∧
      Surface.firstPixel { Surface.vacant with base := 0x40000000, stride := 7680 } 0x400BC200 = 640 := by
  decide

/-- The line of a verdict DONE with 44 seats left, LISTED, FILLING (R181). -/
theorem test_verdictBytes : Verdict.bytes
    { addr := 0, reason := .none, left := 44, state := .listed, band := .filling } =
      bytes [2, 0, 44, 0, 1, 1] := by decide

/-! ### A state of the part in use

The statements' hypotheses are met by this state and by states that differ from it in what the
hypothesis asks. Its invariants are checked by the decidable forms below. -/

/-- A list with some of its entries replaced. -/
def putAll {α : Type} (l : List α) (ps : List (Nat × α)) : List α :=
  ps.foldl (fun l p => l.set p.1 p.2) l

/-- What holds of the default and of every member holds of every entry. -/
theorem getD_all {α : Type} {P : α → Prop} {l : List α} {d : α} (hd : P d) (h : ∀ x, x ∈ l → P x)
    (n : Nat) : P (l.getD n d) := by
  rcases getD_mem_or l n d with h1 | h1
  · exact h _ h1
  · rw [h1]; exact hd

/-! #### The Tally Unit -/

/-- An entry with the band the power-on settings give it. -/
def banded (w : Show) : Show := { w with band := bandOf TallySettings.powerOn w }

/-- An entry in a state, with its start, capacity and seats. -/
def entryOf (state : ShowState) (start capacity sold held blocked : Nat) : Show :=
  banded { Show.vacant with
    state := state, auditorium := 1, start := start, capacity := capacity, sold := sold,
    held := held, blocked := blocked, title := [65, 66] }

/-- Shows in every state at minute 900; show 5 is due for BOARDING and show 6 for CLOSED. -/
def tallySample : TallyUnit :=
  { TallyUnit.powerOn with
    shows := putAll (List.replicate 128 Show.vacant) [
      (0, entryOf .listed 1000 250 100 5 2), (1, entryOf .boarding 910 120 100 0 10),
      (2, entryOf .started 895 8 8 0 0), (3, entryOf .closed 880 100 40 0 4),
      (4, { entryOf .cancelled 950 100 40 0 0 with cancelMinute := some 890 }),
      (5, entryOf .listed 920 100 0 0 0), (6, entryOf .started 890 100 10 3 0),
      (127, { entryOf .listed 2159 4000 0 0 0 with delay := 240 })]
    holds := [
      { desk := 1, holdId := 7, showNo := 0, n := 4, expiry := 500 },
      { desk := 2, holdId := 7, showNo := 6, n := 3, expiry := 501 },
      { desk := 1, holdId := 9, showNo := 0, n := 1, expiry := 900 }]
    expired := [(3, 9), (63, 1)] }

/-- The conditions of `TallyInv`, each over the entries and holds that there are. -/
abbrev TallySound (t : TallyUnit) : Prop :=
  t.shows.length = 128 ∧
    (∀ w, w ∈ t.shows → (w.state = .empty → w = Show.vacant) ∧
      w.sold + w.held + w.blocked ≤ w.capacity ∧
      (w.state ≠ .empty → w.band = bandOf t.settings w) ∧
      w.cancelMinute.isSome = (w.state == .cancelled)) ∧
    (∀ m, m < 128 → (t.entry m).held = heldBy m t.holds) ∧
    (∀ h, h ∈ t.holds → (t.entry h.showNo).over = false ∧ h.showNo < 128 ∧ 1 ≤ h.n) ∧
    (t.holds.map Hold.pair).Nodup ∧ t.holds.Pairwise (fun a b => a.expiry ≤ b.expiry) ∧
    t.holds.length ≤ 256 ∧ t.expired.length ≤ 16

theorem tallyInv_of {t : TallyUnit} (h : TallySound t) : TallyInv t := by
  obtain ⟨h1, h2, h3, h4, h5, h6, h7, h8⟩ := h
  have he := getD_all (P := fun w => (w.state = .empty → w = Show.vacant) ∧
      w.sold + w.held + w.blocked ≤ w.capacity ∧
      (w.state ≠ .empty → w.band = bandOf t.settings w) ∧
      w.cancelMinute.isSome = (w.state == .cancelled)) (l := t.shows) (d := Show.vacant)
      (by simp [Show.vacant]) h2
  refine ⟨h1, fun m => (he m).1, fun m => (he m).2.1, fun m => ?_, fun h hm => (h4 h hm).1,
    fun m => (he m).2.2.1, fun m => (he m).2.2.2, fun h hm => (h4 h hm).2.1,
    fun h hm => (h4 h hm).2.2, h5, h6, h7, h8⟩
  by_cases hm : m < 128
  · exact h3 m hm
  · rw [heldBy_eq_zero (fun x hx => by have := (h4 x hx).2.1; omega),
      entry_past (by omega)]
    rfl

theorem tallySample_sound : TallyInv tallySample := tallyInv_of (by decide +kernel)

/-! #### The Notice Unit -/

/-- A notice with its source, priority, timing, phase and timer, on surfaces 0 and 11. -/
def noticeOf (source : NoticeSource) (priority : Nat) (timing : Timing) (shown : Bool)
    (remaining : Nat) (timer : Option Nat) : Notice :=
  { source := source, priority := priority, screens := 2049#12, timing := timing, shown := shown,
    remaining := remaining, timer := timer, text := [72, 73] }

/-- A trigger's settings: event, filter, notice ID and template. -/
def triggerOf (event : TallyKind) (filter : Option Nat) (notice : Nat)
    (template : List TemplateItem) : TriggerSettings :=
  { event := event, filter := filter, notice := notice, priority := 5, screens := 3#12,
    timing := .timed 120, template := template }

/-- Notices of every timing, with timers about to expire, and triggers in every state. Triggers 2
and 3 name the same free ID, trigger 4 one in use. -/
def noticeSample : NoticeUnit :=
  { NoticeUnit.powerOn with
    notices := putAll (List.replicate 64 none) [
      (0, some (noticeOf (.desk 5) 7 (.timed 100) true 0 (some 1))),
      (1, some (noticeOf (.trigger 0) 6 (.cycle 5 6 2 false) true 2 (some 1))),
      (2, some (noticeOf (.desk 5) 5 (.cycle 5 6 2 false) false 2 (some 1))),
      (3, some (noticeOf (.desk 5) 4 (.cycle 5 6 2 false) false 1 (some 1))),
      (4, some (noticeOf (.desk 5) 3 (.cycle 5 6 2 true) false 1 (some 1))),
      (5, some (noticeOf (.desk 5) 3 .steady true 0 none)),
      (6, some (noticeOf (.desk 5) 2 (.timed 100) true 0 (some 50))),
      (7, some (noticeOf (.trigger 1) 1 (.timed 100) true 0 (some 1))),
      (63, some (noticeOf (.desk 63) 0 .steady true 0 none))]
    noticeStacks := putAll (List.replicate 12 []) [
      (0, [0, 1, 2, 3, 4, 5, 6, 7, 63]), (11, [0, 1, 2, 3, 4, 5, 6, 7, 63])]
    triggers := putAll (List.replicate 32 { state := .empty, settings := none, blocked := 0 }) [
      (0, { state := .spent, settings := some (triggerOf .soldOut none 1 [.segment 0]), blocked := 3 }),
      (1, { state := .spent, settings := some (triggerOf .almost none 7 [.segment 0]), blocked := 0 }),
      (2, { state := .armed, settings := some (triggerOf .soldOut none 20 [.field .title, .segment 0]), blocked := 0 }),
      (3, { state := .armed, settings := some (triggerOf .soldOut (some 2) 20 [.segment 0]), blocked := 65535 }),
      (4, { state := .armed, settings := some (triggerOf .soldOut none 5 [.segment 0]), blocked := 0 }),
      (5, { state := .armed, settings := some (triggerOf .almost none 22 [.segment 0]), blocked := 0 }),
      (31, { state := .armed, settings := some (triggerOf .soldOut (some 2) 21 [.field .seats]), blocked := 0 })]
    segments := (List.replicate 64 { isDefined := false, text := [] }).set 0
      { isDefined := true, text := [79, 75] } }

/-- Whether the notice an ID holds was raised by a trigger. -/
def raisedBy (u : NoticeUnit) (t n : Nat) : Bool :=
  (u.at? n).any (fun x => x.source == .trigger t)

/-- The conditions of `NoticeInv`, each over the IDs, surfaces and triggers that there are. -/
abbrev NoticeSound (u : NoticeUnit) : Prop :=
  u.notices.length = 64 ∧ u.noticeStacks.length = 12 ∧ u.triggers.length = 32 ∧
    (∀ k, k < 12 → ∀ n, n < 64 →
      (n ∈ u.noticeStacks.getD k [] ↔ (u.at? n).any (fun x => x.screens.getLsbD k) = true)) ∧
    (∀ l, l ∈ u.noticeStacks → (∀ n, n ∈ l → n < 64) ∧ l.Nodup ∧
      l.Pairwise (fun a b => u.priorityOf b ≤ u.priorityOf a)) ∧
    (∀ t, t < 32 →
      ((u.trigger t).state = .spent ↔ (List.range 64).any (raisedBy u t) = true)) ∧
    (∀ n, n < 64 → ∀ x, x ∈ u.at? n → ∀ m, m < 64 → ∀ y, y ∈ u.at? m → n ≠ m →
      x.source = y.source → ∀ t, t < 32 → x.source ≠ .trigger t) ∧
    (∀ n, n < 64 → ∀ x, x ∈ u.at? n →
      (match x.source with | .desk _ => true | .trigger t => decide (t < 32)) = true) ∧
    (∀ x, x ∈ u.triggers → (x.state = .empty ↔ x.settings = none) ∧
      ∀ g, g ∈ x.settings → g.notice < 64)

theorem at?_lt {u : NoticeUnit} (h : u.notices.length = 64) {n : Nat} {x : Notice}
    (hx : u.at? n = some x) : n < 64 := by
  by_contra hn
  simp [NoticeUnit.at?, List.getElem?_eq_none (by omega : u.notices.length ≤ n)] at hx

theorem noticeInv_of {u : NoticeUnit} (h : NoticeSound u) : NoticeInv u := by
  obtain ⟨h1, h2, h3, h4, h5, h6, h7, h8, h9⟩ := h
  have hs := getD_all (P := fun l => (∀ n, n ∈ l → n < 64) ∧ l.Nodup ∧
      l.Pairwise (fun a b => u.priorityOf b ≤ u.priorityOf a)) (l := u.noticeStacks) (d := [])
      (by simp) h5
  have ht := getD_all (P := fun x : Trigger => (x.state = .empty ↔ x.settings = none) ∧
      ∀ g, g ∈ x.settings → g.notice < 64) (l := u.triggers)
      (d := { state := .empty, settings := none, blocked := 0 }) (by simp) h9
  have hr : ∀ t n x, u.at? n = some x → x.source = .trigger t → t < 32 := by
    intro t n x hx hxs
    have := h8 n (at?_lt h1 hx) x hx
    rw [hxs] at this
    simpa using this
  refine ⟨h1, h2, h3, ?_, fun k => (hs k).2.1, fun k => (hs k).2.2, ?_, ?_, fun t => (ht t).1,
    fun t g hg => (ht t).2 g hg⟩
  · intro k hk n
    constructor
    · intro hn
      have hx := (h4 k hk n ((hs k).1 n hn)).mp hn
      cases ho : u.at? n with
      | none => simp [ho] at hx
      | some x => exact ⟨x, rfl, by simpa [ho] using hx⟩
    · rintro ⟨x, hx1, hx2⟩
      exact (h4 k hk n (at?_lt h1 hx1)).mpr (by simp [hx1, hx2])
  · intro t
    by_cases htr : t < 32
    · rw [h6 t htr, List.any_eq_true]
      constructor
      · rintro ⟨n, -, hn⟩
        unfold raisedBy at hn
        cases hx : u.at? n with
        | none => simp [hx] at hn
        | some x => exact ⟨n, x, hx, by simpa [hx] using hn⟩
      · rintro ⟨n, x, hx, hxs⟩
        exact ⟨n, by simpa using at?_lt h1 hx, by simp [raisedBy, hx, hxs]⟩
    · constructor
      · intro hsp
        have : u.triggers.length ≤ t := by omega
        simp [NoticeUnit.trigger, List.getElem?_eq_none this] at hsp
      · rintro ⟨n, x, hx, hxs⟩
        exact absurd (hr t n x hx hxs) htr
  · intro t n m x y hx hy hxs hys
    by_contra hne
    exact h7 n (at?_lt h1 hx) x hx m (at?_lt h1 hy) y hy hne (hxs.trans hys.symm) t
      (hr t n x hx hxs) hxs

theorem noticeSample_sound : NoticeInv noticeSample := noticeInv_of (by decide +kernel)

/-! #### The Patch Unit -/

/-- A colour for the samples. -/
def grey : Colour := { r := 20, g := 20, b := 20 }

/-- A 1920 by 1080 surface in a state. -/
def surfaceOf (state : SurfaceState) (base scan gen : Nat) (idleTimer : Option Nat) : Surface :=
  { Surface.vacant with
    state := state, base := base, stride := 8192, width := 1920, height := 1080, scan := scan,
    plate := grey, gen := gen, idleTimer := idleTimer }

/-- A cell of four characters. -/
def cellOf (surface x y : Nat) (source : Source) (target : Text) : Option Cell :=
  some {
    config := {
      surface := surface, x := x, y := y, chars := 4, scale := 1, layer := 0, glyphSet := 0,
      just := .left, fg := grey, plate := grey, alpha := 192, fullScreen := false,
      twelveHour := false, source := source }
    target := target }

/-- A record of one character at the top left corner of a surface, by its layer, glyph set and mode. -/
def recordOf (layer glyphSet : Nat) (fullScreen : Bool) : CellRecord :=
  { x := 0, y := 0, chars := 1, scale := 1, layer := layer, glyphSet := glyphSet, just := .left,
    fg := grey, plate := grey, alpha := 192, fullScreen := fullScreen, text := [32] }

/-- A committed picture: of the records drawn at the corner, 5 and 9 have the highest layer. -/
def pictureSample : Picture :=
  { records := [(2, recordOf 1 0 false), (5, recordOf 3 0 false), (9, recordOf 3 1 false),
      (10, recordOf 7 0 true)]
    fullScreen := false, valid0 := true, valid1 := false }

/-- Surface 0 ACTIVE, 1 IDLE, 2 ACTIVE with its timer expired, 11 IDLE; a cell of each source on an
ACTIVE and on an IDLE surface; set 0 VALID, set 1 LOADING with the loader busy. -/
def patchSample : PatchUnit :=
  { PatchUnit.powerOn with
    surfaces := putAll (List.replicate 12 Surface.vacant) [
      (0, { surfaceOf .active 0x10000000 1 5 (some 100) with current := pictureSample }), (1, surfaceOf .idle 0x12000000 2 0 none),
      (2, surfaceOf .active 0x14000000 3 255 (some 0)), (11, surfaceOf .idle 0x16000000 15 9 none)]
    cells := putAll (List.replicate 256 none) [
      (0, cellOf 0 0 0 (.fixed 0) [32, 32, 32, 32]),
      (1, cellOf 1 0 0 (.showField 0 .seats) [32, 32, 32, 32]),
      (2, cellOf 1 64 0 (.board 0 0 .title) [32, 32, 32, 32]),
      (3, cellOf 1 128 0 (.notice 0) [32, 32, 32, 32]),
      (4, cellOf 1 192 0 .clock [49, 57, 58, 48]), (5, cellOf 0 64 0 (.showField 0 .status) [32, 32, 32, 32]),
      (255, cellOf 11 1856 1056 .clock [49, 57, 58, 48])]
    sets := [{ state := .valid, bytes := [(0, 200#8), (36863, 7#8)] },
      { state := .loading, bytes := [] }]
    loader := .busy { set := 1, source := 64, sum := 5, next := 3,
                      outstanding := [(68, 1), (79, 2)], failed := false }
    viewPages := (List.replicate 4 { list := [], page := 0, rows := 8 }).set 0
      { list := [6, 2, 1, 5, 0], page := 2, rows := 2 } }

/-- A surface's soundness, decidable. -/
abbrev SurfaceSound (f : Surface) : Prop :=
  match f.state with
  | .active => f.idleTimer.isSome = true ∧ f.idleTimer.getD 0 ≤ 250
  | .idle => f.idleTimer = none
  | .unset => f.idleTimer = none

theorem surface_sound_of {f : Surface} (h : SurfaceSound f) : f.sound := by
  unfold SurfaceSound at h
  unfold Surface.sound
  cases hs : f.state <;> cases ht : f.idleTimer <;> simp_all

/-- The conditions of `ScreenInv`, each over the surfaces and cells that there are. -/
abbrev ScreenSound (p : PatchUnit) : Prop :=
  p.surfaces.length = 12 ∧ p.cells.length = 256 ∧
    (∀ f, f ∈ p.surfaces → (match f.state with
      | .active => f.idleTimer.isSome && decide (f.idleTimer.getD 0 ≤ 250)
      | .idle => f.idleTimer.isNone
      | .unset => f.idleTimer.isNone) = true) ∧
    (∀ f, f ∈ p.surfaces → f.current.records.Pairwise (fun a b => a.1 < b.1) ∧
      f.previous.records.Pairwise (fun a b => a.1 < b.1)) ∧
    (∀ x, x ∈ p.cells → ∀ c, c ∈ x → c.config.surface < 12 ∧
      (p.surface c.config.surface).state ≠ .unset ∧
      fitsSurface c.config.x c.config.y c.config.chars c.config.scale
        (p.surface c.config.surface).width (p.surface c.config.surface).height = true ∧
      c.target.length = c.config.chars)

theorem screenInv_of {p : PatchUnit} (h : ScreenSound p) : ScreenInv p := by
  obtain ⟨h1, h2, h3, ho, h4⟩ := h
  refine ⟨h1, h2, fun k => ?_, getD_all
    (P := fun f : Surface => f.current.ordered ∧ f.previous.ordered) (d := Surface.vacant)
    ⟨.nil, .nil⟩ ho, fun n c hc => ?_⟩
  · refine surface_sound_of (getD_all (P := SurfaceSound) (d := Surface.vacant) rfl ?_ k)
    intro f hf
    have := h3 f hf
    unfold SurfaceSound
    cases hs : f.state <;> simp_all
  · unfold PatchUnit.cell at hc
    cases hx : p.cells[n]? with
    | none => simp [hx] at hc
    | some x =>
      have hm : x ∈ p.cells := List.mem_of_getElem? hx
      simp only [hx, Option.join_some] at hc
      exact h4 x hm c hc

theorem patchSample_screens : ScreenInv patchSample := screenInv_of (by decide +kernel)

/-- The conditions of `GlyphInv` but the loader's, over the two sets. -/
abbrev GlyphSound (p : PatchUnit) : Prop :=
  p.sets.length = 2 ∧ ∀ g, g ∈ p.sets →
    Memory.wf g.bytes = true ∧ ∀ c, c ∈ g.bytes → c.1 < 36864

theorem glyphInv_of {p : PatchUnit} (h : GlyphSound p) (hl : p.loader.sound) : GlyphInv p := by
  have hs := getD_all (P := fun g : GlyphSet =>
      Memory.wf g.bytes = true ∧ ∀ c, c ∈ g.bytes → c.1 < 36864) (l := p.sets)
      (d := { state := .empty, bytes := [] }) (by simp [Memory.wf, Memory.wfFrom]) h.2
  exact ⟨h.1, fun k => (hs k).1, fun k => (hs k).2, hl⟩

theorem patchSample_glyphs : GlyphInv patchSample :=
  glyphInv_of (by decide +kernel) (by simp only [patchSample, Loader.sound]; decide)

/-! #### The Pane Unit -/

/-- A pane's settings: surface, place, slot region and lines; scan rate 60, clip rate 24. -/
def paneOf (surface px slotBase marker : Nat) : PaneSettings :=
  { surface := surface, px := px, py := 8, pw := 640, ph := 360, slotBase := slotBase,
    slotSize := 1048576, slotCount := 4, marker := marker, cue := marker + 64, scanRate := 60,
    clipRate := 24, upper := 3, lower := 1, starvation := .retry, deglitch := 3, retryTime := 5,
    retryLimit := some 2 }

/-- Sixteen entries: 0 to 3 valid, 2 skipped when its show is sold out, 15 valid. -/
def entriesSample : List PlayEntry :=
  putAll (List.replicate 16 PlayEntry.clear) [
    (0, { PlayEntry.clear with valid := true, clip := 101, repeats := 2 }),
    (1, { PlayEntry.clear with valid := true, clip := 217, suspends := true }),
    (2, { PlayEntry.clear with valid := true, clip := 230, showNo := some 2, skipSold := true }),
    (3, { PlayEntry.clear with valid := true, clip := 305, endOfList := true }),
    (4, { PlayEntry.clear with valid := true, showNo := some 4, loops := true }),
    (15, { PlayEntry.clear with valid := true, showNo := some 6, skipStarted := true })]

/-- An ACTIVE playlist at entry 0 of those, generation 3. -/
def playlistSample : Playlist :=
  { entries := entriesSample, state := .active, cueEntry := some 0, pass := 1, generation := 3,
    startRequest := none, resumeRequest := false, successor := none }

/-- Pane 0: SHOWING on surface 0 with one frame queued. -/
def pane0 : Pane :=
  { Pane.vacant with
    settings := some (paneOf 0 16 0x20000000 0x30000000), display := .showing,
    displayed := some { slot := 0, endsPass := false },
    queue := [{ slot := 1, endsPass := false }], acc := 24,
    outstanding := [2, 0, 1, 0, 0, 0, 0, 0], playlist := playlistSample }

/-- Pane 1: in FALLBACK_WAIT on surface 1, its playlist SUSPENDED. -/
def pane1 : Pane :=
  { Pane.vacant with
    settings := some (paneOf 1 16 0x21000000 0x30001000), display := .fallbackWait,
    displayed := some { slot := 3, endsPass := true }, retryTimer := some 1, retriesUsed := 10,
    playlist := { playlistSample with state := .suspended, cueEntry := none, pass := 0,
                                      successor := some 2 }, tickWaiting := true }

/-- Pane 2: DARK on surface 1 with a frame queued, its playlist IDLE. -/
def pane2 : Pane :=
  { Pane.vacant with
    settings := some (paneOf 1 656 0x22000000 0x30002000),
    queue := [{ slot := 2, endsPass := true }],
    playlist := { playlistSample with state := .idle, cueEntry := none, pass := 0 } }

/-- Panes 0 to 2 in use, the rest unconfigured. -/
def paneSample : PaneUnit :=
  { PaneUnit.powerOn with
    panes := putAll (List.replicate 8 Pane.vacant) [(0, pane0), (1, pane1), (2, pane2)]
    flags := (List.replicate 12 false).set 11 true }

/-- A pane's soundness, decidable. -/
abbrev PaneSound (p : Pane) : Prop :=
  ∀ g, g ∈ p.settings →
    (2 ≤ g.slotCount ∧ g.slotCount ≤ 8) ∧ (g.lower < g.upper ∧ g.upper < g.slotCount) ∧
    (24 ≤ g.scanRate ∧ g.scanRate ≤ 120 ∧ 1 ≤ g.clipRate ∧ g.clipRate ≤ 120) ∧
    p.acc < g.scanRate ∧ p.queue.length < g.slotCount ∧
    (∀ f, f ∈ p.queue → f.slot < g.slotCount ∧ p.shows f.slot = false) ∧
    (∀ f, f ∈ p.displayed → f.slot < g.slotCount) ∧ (p.queue.map (fun f => f.slot)).Nodup ∧
    (p.queue.length = 0 → p.flow = .go) ∧ p.underrunRun < g.deglitch

theorem paneInv_of {p : Pane} {g : PaneSettings} (h : PaneSound p) (hg : p.settings = some g) :
    PaneInv p g := by
  obtain ⟨h1, h2, h3, h4, h5, h6, h7, h8, h9, h10⟩ := h g hg
  exact ⟨h1, h2, h3, h4, h5, h6, h7, h8, h9, h10⟩

theorem panesInv_of {u : PaneUnit} (h : u.panes.length = 8) (hp : ∀ p, p ∈ u.panes → PaneSound p) :
    PanesInv u :=
  ⟨h, fun k _ hg =>
    paneInv_of (getD_all (P := PaneSound) (d := Pane.vacant) (fun _ h => by cases h) hp k) hg⟩

theorem paneSample_sound : PanesInv paneSample :=
  panesInv_of (by decide +kernel) (by decide +kernel)

/-! #### The other units -/

/-- A window of sixteen lines, two records queued, one verdict queued and two issued, one of them
cancelled; back-pressure raised. -/
def intakeSample : IntakeUnit :=
  { IntakeUnit.powerOn with
    window := some (0x1000000, 1024), upper := 4, lower := 2, interval := 4,
    queue := [{ addr := 0x1000000, data := recordData [1, 5, 0, 1] },
      { addr := 0x1000040, data := recordData [1, 5, 1, 64] },
      { addr := 0x1000080, data := recordData [12, 0, 5] }]
    verdicts := [{ addr := 0x10000C0, reason := .none, left := 44, state := .listed, band := .filling }]
    issued := [{ txn := 64, cancelled := false, verdict := {
        addr := 0x1000040, reason := .none, left := 3, state := .listed, band := .almost } },
      { txn := 67, cancelled := true, verdict := {
        addr := 0x1000100, reason := .noSeats, left := 3, state := .listed, band := .almost } }]
    raised := true, since := 3
    counters := { IntakeCounters.zero with taken := 9, done := 4, refused := 1, superseded := 1 } }

theorem intakeSample_sound : IntakeInv intakeSample := by
  refine ⟨?_, ?_, ?_, ?_, ?_, ?_, ?_, ?_⟩ <;> decide +kernel

/-- A view with a list of five shows, on its second page. -/
def viewSample : BoardView :=
  { BoardView.powerOn with
    filter := 0xFFFFFF#24, rows := 2, timer := 1, page := 2, list := [6, 2, 1, 5, 0],
    tickWaiting := true }

/-- View 0 in use, the words naming segment 0 and none. -/
def boardSample : BoardUnit :=
  { BoardUnit.powerOn with
    views := (List.replicate 4 BoardView.powerOn).set 0 viewSample,
    words := [some 0, some 0, none, none, none, none, some 0] }

theorem boardSample_sound : BoardInv boardSample := by
  refine ⟨rfl, fun v hv => ?_⟩
  have h : v = viewSample ∨ v = BoardView.powerOn := by
    simp only [boardSample, List.replicate, List.set, List.mem_cons, List.not_mem_nil, or_false] at hv
    tauto
  rcases h with rfl | rfl <;> constructor <;> decide

/-- Minute 900, second 30, origin 600, uptime 500. -/
def clockSample : ClockUnit :=
  { ClockUnit.powerOn with uptime := 500, minute := 900, second := 30, origin := 600 }

theorem clockSample_sound : ClockInv clockSample := by
  constructor <;> decide

/-- A tracked read of each kind, and one of them redirected. -/
def tableSample : List InFlight := [
  { initiator := 1, txn := 10, tracked := .scan 0 5 0 0 none },
  { initiator := 1, txn := 11, tracked := .scan 0 4 0 0 none },
  { initiator := 1, txn := 12, tracked := .scan 0 3 0 0 none },
  { initiator := 1, txn := 13, tracked := .scan 0 5 8 16 (some (0, 2)) },
  { initiator := 2, txn := 10, tracked := .anchor 1 },
  { initiator := 2, txn := 63, tracked := .cue 0 }]

/-- ENABLED, straps 2, the table as above, a run of 7. -/
def pathSample : PathUnit :=
  { PathUnit.powerOn 2 with mode := .enabled, table := tableSample, run := 7 }

theorem pathSample_sound : PathInv pathSample := by
  refine ⟨?_, ?_, ?_, ?_⟩ <;> decide +kernel

/-- The part in use. -/
def sample : State :=
  { path := pathSample, clock := clockSample, tally := tallySample, board := boardSample,
    notice := noticeSample, patch := patchSample, pane := paneSample, intake := intakeSample,
    command := { CommandUnit.powerOn with
      causes := 0x021#12, mask := 0xFFF#12,
      response := { code := 3, tag := 49, status := .ok, count := 17, result := [] } }
    pending := [] }

theorem sample_panes : sample.pane.panes[0]? = some pane0 ∧ sample.pane.panes[1]? = some pane1 ∧
    sample.pane.panes[2]? = some pane2 ∧ sample.pane.panes[7]? = some Pane.vacant := by
  decide +kernel

theorem sample_handed : HandedInv sample := by
  refine ⟨by decide, fun k v hv hk => ?_⟩
  have h : ∀ k, k < 4 → ∀ v, v ∈ sample.board.views[k]? →
      sample.patch.viewPages[k]? = some { list := v.list, page := v.page, rows := v.rows } := by
    decide +kernel
  by_cases hk4 : k < 4
  · exact h k hk4 v hv
  · exfalso
    rw [List.getElem?_eq_none (by
      have : sample.board.views.length = 4 := by decide
      omega)] at hv
    cases hv

/-- The ten invariants of the safety claims hold of it together, and so does each claim's premise. -/
theorem witness_StaySound : TallyInv sample.tally ∧ NoticeInv sample.notice ∧
    ScreenInv sample.patch ∧ GlyphInv sample.patch ∧ PanesInv sample.pane ∧
    IntakeInv sample.intake ∧ PathInv sample.path ∧ ClockInv sample.clock ∧ BoardInv sample.board ∧
    HandedInv sample :=
  ⟨tallySample_sound, noticeSample_sound, patchSample_screens, patchSample_glyphs, paneSample_sound,
    intakeSample_sound, pathSample_sound, clockSample_sound, boardSample_sound,
    sample_handed⟩

/-! ### One step of a command, on the manual's worked sequences -/

/-- The state a command leaves, if it leaves one. -/
def ran (c : Instr) (s : State) : Option State :=
  match exec c s with
  | .next t => some t
  | .fault _ => none
  | .refused _ => none

/-- The tally events handed on for one show. -/
def kindsOf (s : State) : List TallyKind := s.notice.inbox.map (fun e => e.kind)

/-- The part with one show of chapter 1's evening at a minute, and one record of it queued. -/
def evening (minute : Nat) (w : Show) (record : List Nat) : State :=
  { State.reset with
    clock := { ClockUnit.powerOn with minute := minute }
    tally := { TallyUnit.powerOn with shows := (List.replicate 128 Show.vacant).set 17 w }
    intake := { IntakeUnit.powerOn with queue := [{ addr := 64, data := recordData record }] } }

/-- Row 1 of the evening: LISTED, PLENTY, with LISTED emitted. -/
theorem test_showDefine : (ran .processingStep (evening 300 Show.vacant [8, 0, 17, 5, 28, 2, 120, 0, 65])).map
    (fun t => ((t.tally.entry 17).state, (t.tally.entry 17).band, (t.tally.entry 17).left,
      kindsOf t)) = some (.listed, .plenty, 120, [.listed]) := by decide +kernel

/-- Row 6: SHOW_DELAY of 15 in BOARDING at minute 525 goes back to LISTED; DELAYED stands first. -/
theorem test_showDelay : (ran .processingStep (evening 525 (entryOf .boarding 540 120 70 0 4) [10, 0, 17, 15])).map
    (fun t => ((t.tally.entry 17).state, (t.tally.entry 17).delay, kindsOf t)) =
      some (.listed, 15, [.delayed, .listed]) := by decide +kernel

/-- Row 9: a sale of 12 with 10 left is refused and reports the 10. -/
theorem test_sale_refused : (ran .processingStep (evening 530 (entryOf .listed 555 120 100 6 4) [1, 5, 17, 12])).map
    (fun t => (t.intake.verdicts, (t.tally.entry 17).sold)) =
      some ([{ addr := 64, reason := .noSeats, left := 10, state := .listed, band := .almost }], 100) := by
  decide +kernel

/-- Row 12: a sale of exactly the seats left sells the show out. -/
theorem test_sale : (ran .processingStep (evening 550 (entryOf .boarding 555 120 100 0 4) [1, 7, 17, 16])).map
    (fun t => ((t.tally.entry 17).sold, (t.tally.entry 17).band, kindsOf t)) =
      some (116, .soldOut, [.soldOut]) := by decide +kernel

/-- Row 15: at minute 565 the show closes. -/
theorem test_changeOfMinute :
    (ran .changeOfMinute { evening 565 (entryOf .started 555 120 114 0 4) [] with
      tally := { (evening 565 (entryOf .started 555 120 114 0 4) []).tally with minuteWaiting := true } }).map
    (fun t => ((t.tally.entry 17).state, kindsOf t)) = some (.closed, [.closed]) := by decide +kernel

/-- Row 11: the kiosk's hold expires, 16 seats are left, FILLING, with BAND_DOWN. -/
theorem test_holdExpiry :
    (ran .holdExpiry { evening 540 (entryOf .boarding 555 120 100 6 4) [] with
      tally := {
        (evening 540 (entryOf .boarding 555 120 100 6 4) []).tally with
        holds := [{ desk := 40, holdId := 1, showNo := 17, n := 6, expiry := 840 }]
        expiryWaiting := some 840 } }).map
    (fun t => ((t.tally.entry 17).left, (t.tally.entry 17).band, t.tally.expired, kindsOf t)) =
      some (16, .filling, [(40, 1)], [.bandDown]) := by decide +kernel

/-- The clock at the end of a long Saturday, a seconds tick due. -/
def saturday (second : Nat) (holding : Bool) : State :=
  { State.reset with
    clock := {
      ClockUnit.powerOn with
      due := 1, uptime := 129541, minute := 2159, second := second, holding := holding, origin := 600 } }

/-- Rows 2 and 3: the tick that would pass 2159:59 holds with CLOCK_HELD; the next sets nothing. -/
theorem test_secondsTick_holds :
    (ran .secondsTick (saturday 59 false)).map (fun t => (t.clock.holding, t.clock.uptime,
      t.command.isSet .clockHeld, t.tally.minuteWaiting)) = some (true, 129542, true, false) ∧
    (ran .secondsTick (saturday 59 true)).map (fun t => (t.clock.holding, t.clock.uptime,
      t.command.isSet .clockHeld)) = some (true, 129542, false) := by decide +kernel

/-- Row 6: DAY_START (0, 600) sets 0:00 and ends holding. -/
theorem test_dayStart : (ran (.dayStart 0 0 600) (saturday 59 true)).map
    (fun t => (t.clock.minute, t.clock.second, t.clock.holding, t.clock.origin, t.clock.uptime)) =
      some (0, 0, false, 600, 129541) := by decide +kernel

/-- The 1000th millisecond tick makes a seconds tick due (R164). -/
theorem test_millisecondTick :
    (ran .millisecondTick { State.reset with clock := { ClockUnit.powerOn with msCount := 999 } }).map
      (fun t => (t.clock.msCount, t.clock.due)) = some (0, 1) := by decide +kernel

/-- The example of the response: SET_CLOCK answered with count 18 and the uptime, INSPECT (SHOW, 140)
refused PARAM with count 19 (chapter 12). -/
theorem test_response :
    (ran (.setClock 0x31 690 0) sample).map (fun t => t.command.response) =
      some { code := 3, tag := 0x31, status := .ok, count := 18, result := bytes [0xF4, 1, 0, 0] } ∧
    (ran (.inspect 0x32 0 140) { sample with command := { sample.command with
        response := { code := 3, tag := 0x31, status := .ok, count := 18, result := [] } } }).map
      (fun t => (t.command.response, t.command.copyKind)) =
      some ({ code := 24, tag := 0x32, status := .param, count := 19, result := [] }, none) := by
  decide +kernel

/-- Grants 8, 9 and 14 of the port shared: P8 raises the run to 8, v1 goes next, and v2 on an empty
stream (chapter 10). -/
theorem test_downstreamGrant :
    (ran (.downstreamGrant 65) { sample with path := { pathSample with stream := [readAt 0] } }).map
      (fun t => (t.path.run, t.path.downOut, t.intake.verdicts.length)) = some (8, [readAt 0], 1) ∧
    (ran (.downstreamGrant 65)
        { sample with path := { pathSample with stream := [readAt 0], run := 8 } }).map
      (fun t => (t.path.run, t.path.downOut.map (fun r => (r.addr, r.txn)), t.path.stream)) =
      some (0, [(0x10000C0, 65)], [readAt 0]) := by decide +kernel

/-- A read under a reserved number is answered with an error and counted (R156). -/
theorem test_reserved :
    (ran (.upstreamRequest (some { readAt 64 with txn := 100 })) State.reset).map
      (fun t => (t.path.upOut, t.path.reservedCount, t.path.stream)) =
      some ([{ initiator := 1, txn := 100, reply := .error }], 1, []) := by decide +kernel

/-- The command line is decoded, judged and forwarded: SET_MODE (1) in PASS mode (R157, R171). -/
theorem test_commandLine :
    (ran (.upstreamRequest (some (writeAt 0 (checkedLine 1 9 [1])))) State.reset).map
      (fun t => (t.path.mode, t.command.response.status, t.path.stream.length)) =
      some (.enabled, .ok, 1) := by decide +kernel

/-- Row 6 of chapter 7's sequence: a marker of the displayed slot is refused SLOT_CONFLICT; a marker of
a free slot is taken. -/
theorem test_marker :
    (ran (.upstreamRequest (some (writeAt 0x30000000 (checkedLine 0 3 [0])))) sample).map
      (fun t => ((t.pane.pane 0).verdict, (t.pane.pane 0).counters.refused)) =
      some (.slotConflict, 1) ∧
    (ran (.upstreamRequest (some (writeAt 0x30000000 (checkedLine 3 3 [0])))) sample).map
      (fun t => ((t.pane.pane 0).verdict, (t.pane.pane 0).queue.map (fun f => f.slot))) =
      some (.taken, [1, 3]) := by decide +kernel

/-- Frame starts 3, 4 and 6 of the cadence worked out: acc 48 stays on A, 72 leaves 12 and 60 leaves 0
(chapter 7). -/
theorem test_cadence :
    [24, 48, 36].map (fun acc =>
      ((({ pane0 with acc := acc } : Pane).frameStart (paneOf 0 16 0 0) false).pane.acc,
        ((({ pane0 with acc := acc } : Pane).frameStart (paneOf 0 16 0 0) false).pane.displayed.map
          (fun f => f.slot)))) = [(48, some 0), (12, some 1), (0, some 1)] := by decide +kernel

/-- Row 10 of chapter 9's sequence: a line written again loses its queued verdict. -/
theorem test_intake_supersedes :
    (ran (.upstreamRequest (some (writeAt 0x10000C0 (intakeLine 1 [7, 3, 1, 0])))) sample).map
      (fun t => (t.intake.queue.length, t.intake.verdicts.length, t.intake.counters.lost,
        t.command.isSet .verdictLost)) = some (4, 0, 1, true) := by decide +kernel

/-- 9 seats left at 19:00 compose "LAST 9 SEATS FOR 19:00"
(chapter 4, event 1). -/
theorem test_template :
    templateText [] { NoticeUnit.powerOn with
        segments := [{ isDefined := true, text := [76, 65, 83, 84, 32] },
          { isDefined := true, text := [32, 83, 69, 65, 84, 83, 32, 70, 79, 82, 32] }] } 600
      { entryOf .listed 540 120 111 0 0 with title := [] }
      [.segment 0, .field .seats, .segment 1, .field .start] =
      [76, 65, 83, 84, 32, 57, 32, 83, 69, 65, 84, 83, 32, 70, 79, 82, 32, 49, 57, 58, 48, 48] := by
  decide +kernel

/-- A CYCLE notice whose dwell timer expires is HIDDEN for its gap (R65). -/
theorem test_cycle : (ran .cyclePhaseExpiry
    { sample with notice := { noticeSample with tickWaiting := true } }).map
      (fun t => ((t.notice.at? 1).map (fun x => (x.shown, x.timer)), (t.notice.at? 0).isSome)) =
      some (some (false, some 6), false) := by decide +kernel

/-- A sold-out event fires trigger 2 and is blocked at trigger 4 (R71, R72). -/
theorem test_trigger : (ran .noticeTallyEvent { sample with
    notice := { noticeSample with inbox := [{ showNo := 2, kind := .soldOut }] } }).map
      (fun t => ((t.notice.at? 20).map (fun x => x.text), (t.notice.trigger 2).state,
        (t.notice.trigger 4).blocked, t.command.isSet .triggerBlocked)) =
      some (some [65, 66, 79, 75], .spent, 1, true) := by decide +kernel

/-- A dwell timer's expiry on the last page wraps to page 0 (R45). -/
theorem test_dwell : (ran (.dwellExpiry 0) sample).map
    (fun t => (t.board.views.map (fun v => v.page), t.patch.fromBoard)) =
      some ([0, 0, 0, 0], [0]) := by decide +kernel

/-- A page turn that waits to be handed on is shown by no cell: SET_WORDS derives a STATUS cell from
the page the Patch Unit holds, and the cell turns when the view is taken (R53, log entry 29). -/
theorem test_pageTurn :
    (((ran (.dwellExpiry 0) { sample with patch := { patchSample with
        cells := patchSample.cells.set 2 (cellOf 1 64 0 (.board 0 0 .status) [32, 32, 32, 32]) } }).bind
      (ran (.setWords 0 [255, 255, 255, 255, 255, 255, 0]))).bind (fun t =>
        (ran (.patchSourceChange .board) t).map (fun u => [t, u].map (fun x =>
          (x.patch.cell 2).map (fun c => c.target))))) =
      some [some [79, 75, 32, 32], some [32, 32, 32, 32]] := by decide +kernel

/-- A frame start: the generation rises, the old picture becomes that of g − 1, the read is tagged with
the new generation (chapter 5, row 3). -/
theorem test_frameStart :
    (ran (.upstreamRequest (some { readAt 0x10000000 with initiator := 1 })) sample).map
      (fun t => ((t.patch.surface 0).gen, (t.patch.surface 0).idleTimer,
        (t.path.table.map (fun e => e.tracked)).getLast?)) =
      some (6, some 250, some (.scan 0 6 0 0 none)) := by decide +kernel

/-- A line under a generation older than g − 1 returns as it came, with LATE_PATCH (R99). -/
theorem test_latePatch :
    (ran (.downstreamResponse { initiator := 1, txn := 12, reply := .data (List.replicate 64 9) })
      sample).map (fun t => (t.path.upOut.map (fun r => r.reply), t.patch.latePatch,
        t.command.isSet .latePatch, t.path.table.length)) =
      some ([.data (List.replicate 64 9)], 1, true, 5) := by decide +kernel

/-- The error of a tracked read passes up and is counted (R100, R160). -/
theorem test_readError :
    (ran (.downstreamResponse { initiator := 1, txn := 13, reply := .error }) sample).map
      (fun t => (t.path.readErrors, (t.pane.pane 0).outstanding.getD 2 9, t.command.isSet .readError)) =
      some (1, 0, true) := by decide +kernel

/-- Data on a number whose write was issued is no response of the link (R154, log entry 6). -/
theorem test_wrongReply :
    exec (.downstreamResponse { initiator := 0, txn := 64, reply := .data [] }) sample =
      .fault .wrongReply := rfl

/-- SET_SURFACE of a surface in use advances g by 2, and one of an UNSET entry makes it 0 (R77). -/
theorem test_setSurface :
    (ran (.setSurface 0 {
        surface := 11, base := 0x16000000, stride := 8192, width := 1920, height := 1080, scan := 1,
        plate := grey })
      { sample with path := { pathSample with mode := .pass } }).map
      (fun t => ((t.patch.surface 11).gen, t.command.response.status)) = some (11, .ok) := by
  decide +kernel

/-- A completed load with a read that was answered with an error is BAD (R92). -/
theorem test_loadDone : (ran .loadDone { sample with patch := { patchSample with
    loader := .busy { set := 1, source := 0, sum := 0, next := 576, outstanding := [], failed := true } } }).map
      (fun t => ((t.patch.set 1).state, t.patch.loader, t.command.isSet .glyphBad)) =
      some (.bad, .idle, true) := by decide +kernel

/-- Rows 1 and 2 of chapter 8's sequence: PLAY_START gives a new generation and pass 1. -/
theorem test_playStart : (ran (.playStart 0 2 0 0) sample).map
    (fun t => ((t.pane.pane 2).playlist.state, (t.pane.pane 2).playlist.cueEntry,
      (t.pane.pane 2).playlist.pass, (t.pane.pane 2).playlist.generation)) =
      some (.active, some 0, 1, 4) := by decide +kernel

/-- WARM_RESET empties the shows and keeps the clock and the tracked reads (R179). -/
theorem test_warmReset : (ran (.warmReset 0) sample).map
    (fun t => ((t.tally.entry 0).state, t.clock.minute, t.path.table.length, t.path.run,
      (t.notice.trigger 0).state, t.command.causes)) =
      some (.empty, 900, 6, 0, .armed, 0#12) := by decide +kernel

/-- CLEAR_CAUSES reports the causes as they stood (R176). -/
theorem test_clearCauses : (ran (.clearCauses 0 0x20) sample).map
    (fun t => (t.command.causes, t.command.response.result)) =
      some (1#12, bytes [0x21, 0]) := by decide +kernel

/-- While the reset input is asserted a command has no effect, and the release of the input ends that
(R163). -/
theorem test_reset : (ran .resetAssert sample).bind (ran (.setMode 0 0)) = ran .resetAssert sample ∧
    ((ran .resetAssert sample).bind (ran (.resetRelease 3))).map
      (fun t => (t.path.mode, t.anchorSpan.base)) = some (.pass, 0x3000000) := by decide +kernel

/-! ### States that meet the hypotheses of the statements

A theorem `witness_<Statement>` shows states and operands that meet the hypotheses of
`Obligations.<Statement>`, clause by clause where it has clauses. -/

/-- What holds of every pane's settings holds of the panes there are. -/
theorem panes_all {u : PaneUnit} {Q : Nat → PaneSettings → Prop} (hl : u.panes.length = 8)
    (h : ∀ j, j < 8 → ∀ g, g ∈ (u.pane j).settings → Q j g) :
    ∀ j g, (u.pane j).settings = some g → Q j g := by
  intro j g hg
  by_cases hj : j < 8
  · exact h j hj g hg
  · exfalso
    unfold PaneUnit.pane at hg
    rw [List.getD_eq_default _ _ (by omega : u.panes.length ≤ j)] at hg
    simp [Pane.vacant] at hg

theorem witness_StepRunsFrontCommand : sample.pending = [] ∧
    ({ sample with pending := [.resetAssert, .secondsTick] } : State).pending =
      .resetAssert :: [.secondsTick] := ⟨rfl, rfl⟩

/-- The part with the reset input asserted. -/
def heldSample : State := { sample with path := { sample.path with resetHeld := true } }

theorem witness_AssertedResetHoldsThePart : heldSample.path.resetHeld = true ∧
    ∀ straps, Instr.secondsTick ≠ .resetRelease straps := ⟨rfl, fun _ h => by cases h⟩

/-- The part a millisecond before a second, no idle timer at 0. -/
def countingSample : State :=
  { sample with
    clock := { clockSample with msCount := 999 }
    patch := { patchSample with
      surfaces := patchSample.surfaces.set 2 (surfaceOf .active 0x14000000 3 255 (some 250)) } }

theorem witness_MillisecondTickCountsDown : countingSample.path.resetHeld = false ∧
    countingSample.clock.msCount < 1000 ∧
    (∀ k, (countingSample.patch.surface k).idleTimer ≠ some 0) ∧
    (countingSample.patch.surface 2).idleTimer = some 250 :=
  ⟨rfl, by decide,
    fun k => getD_all (P := fun f : Surface => f.idleTimer ≠ some 0) (d := Surface.vacant)
      (by decide) (by decide +kernel) k, by decide +kernel⟩

/-- The part with a seconds tick due at some time of the clock and no event of the last one waiting. -/
def dueSample (minute second : Nat) (holding : Bool) : State :=
  { sample with
    clock := { clockSample with due := 1, minute := minute, second := second, holding := holding }
    board := BoardUnit.powerOn
    pane := { paneSample with
      panes := paneSample.panes.map (fun p => { p with tickWaiting := false }) } }

/-- The premise of the statement about a seconds tick. -/
abbrev TickDue (s : State) : Prop :=
  s.path.resetHeld = false ∧ 0 < s.clock.due ∧ s.tally.expiryWaiting = none ∧
    s.tally.minuteWaiting = false ∧ s.board.minuteWaiting = false ∧
    s.patch.minuteWaiting = false ∧ s.notice.tickWaiting = false ∧
    (∀ v, v ∈ s.board.views → v.tickWaiting = false) ∧
    (∀ p, p ∈ s.pane.panes → p.tickWaiting = false)

theorem witness_SecondsTickAdvancesTheClock :
    (TickDue (dueSample 900 58 false) ∧ ClockInv (dueSample 900 58 false).clock) ∧
    (TickDue (dueSample 2158 59 false) ∧ ClockInv (dueSample 2158 59 false).clock) ∧
    (TickDue (dueSample 2159 59 false) ∧ ClockInv (dueSample 2159 59 false).clock) ∧
    (TickDue (dueSample 2159 59 true) ∧ ClockInv (dueSample 2159 59 true).clock) := by
  refine ⟨⟨by decide +kernel, ?_⟩, ⟨by decide +kernel, ?_⟩, ⟨by decide +kernel, ?_⟩,
    ⟨by decide +kernel, ?_⟩⟩ <;> constructor <;> decide

/-- The part with the tick events of the Tally Unit waiting, at the uptime of the earliest hold. -/
def tallyTickSample : State :=
  { sample with tally := { tallySample with expiryWaiting := some 500, minuteWaiting := true } }

theorem tallyTickSample_sound : TallyInv tallyTickSample.tally := tallyInv_of (by decide +kernel)

theorem witness_ChangeOfMinuteRecomputesShows : tallyTickSample.path.resetHeld = false ∧
    tallyTickSample.tally.minuteWaiting = true ∧ TallyInv tallyTickSample.tally :=
  ⟨rfl, rfl, tallyTickSample_sound⟩

theorem witness_HoldExpiryReturnsSeats : tallyTickSample.path.resetHeld = false ∧
    tallyTickSample.tally.expiryWaiting = some 500 ∧ TallyInv tallyTickSample.tally ∧
    (tallyTickSample.tally.entry 7).state = .empty ∧
    (tallyTickSample.tally.entry 0).state ≠ .empty :=
  ⟨rfl, rfl, tallyTickSample_sound, by decide +kernel, by decide +kernel⟩

/-- The part with a tally event, a delay notice and a change of minute waiting at the Board Unit. -/
def boardEventSample : State :=
  { sample with board := { boardSample with
      inbox := [.tally { showNo := 2, kind := .soldOut }, .delayNotice 0], minuteWaiting := true } }

/-- The tables at their ends: B and G of 20 and 10 about minute 100, and the bands of 120
seats from 49 left down to none. -/
theorem witness_ChangeOfMinuteRecomputesShows_tables :
    (100 + TallySettings.powerOn.lead < 121 ∧ (100 < 101 ∧ 120 ≤ 100 + TallySettings.powerOn.lead) ∧
      (100 ≤ 100 ∧ 100 < 91 + TallySettings.powerOn.linger) ∧
      90 + TallySettings.powerOn.linger ≤ 100) ∧
    (∀ left, left = 0 ∨ left = 1 ∨ left = 12 ∨ left = 13 ∨ left = 48 ∨ left = 49 →
      ∃ w : Show, w.sold + w.held + w.blocked + left = w.capacity ∧ w.capacity = 120) ∧
    (12 * 100 ≤ 120 * TallySettings.powerOn.almostPct ∧
      120 * TallySettings.powerOn.almostPct < 13 * 100 ∧ TallySettings.powerOn.almostAbs < 13 ∧
      120 * TallySettings.powerOn.fillingPct ≤ (120 - 48) * 100 ∧
      (120 - 49) * 100 < 120 * TallySettings.powerOn.fillingPct) := by
  refine ⟨by decide, fun left h => ?_, by decide⟩
  exact ⟨{ Show.vacant with capacity := 120, sold := 120 - left }, by
    show 120 - left + 0 + 0 + left = 120
    omega, rfl⟩

/-- A pair joins a list of fifteen, one of sixteen, and one of sixteen that holds it. -/
theorem witness_HoldExpiryReturnsSeats_list : ∃ l : List (Nat × Nat), l.length = 16 ∧
    ((16, 16) ∉ l.take 15 ∧ (l.take 15).length < 16 ∧
      appendExpired (l.take 15) (16, 16) = l.take 15 ++ [(16, 16)]) ∧
    ((16, 16) ∉ l ∧ l = (0, 0) :: l.drop 1 ∧ appendExpired l (16, 16) = l.drop 1 ++ [(16, 16)]) ∧
    (l = l.take 3 ++ (3, 3) :: l.drop 4 ∧ (3, 3) ∉ l.take 3 ∧ (3, 3) ∉ l.drop 4 ∧
      appendExpired l (3, 3) = l.take 3 ++ l.drop 4 ++ [(3, 3)]) :=
  ⟨(List.range 16).map (fun k => (k, k)), by decide +kernel⟩

/-- Below two HIDDEN notices the third is the top notice; on another surface one of priority 7 is; a
third surface has none. -/
theorem witness_NoticeTimersExpire_tops :
    ({ noticeSample with noticeStacks := noticeSample.noticeStacks.set 1 [2, 3, 5] } :
      NoticeUnit).top 1 = some 5 ∧
    (noticeSample.top 0 = some 0 ∧ noticeSample.isFull 0 = true) ∧ noticeSample.top 2 = none ∧
    (handOns noticeSample (noticeSample.leave 0)).map (fun h => (h.surface, h.fullScreen)) =
      [(0, false), (11, false)] := by decide +kernel

theorem witness_BoardEventsRecomputeViews : boardEventSample.path.resetHeld = false ∧
    boardEventSample.board.inbox =
      .tally { showNo := 2, kind := .soldOut } :: [.delayNotice 0] ∧
    boardEventSample.board.minuteWaiting = true := ⟨rfl, rfl, rfl⟩

/-- The part with one view replaced. -/
def withView (v : BoardView) : State :=
  { sample with board := { boardSample with views := boardSample.views.set 3 v } }

theorem witness_DwellExpiryTurnsThePage :
    (∀ v, v ∈ [viewSample, { viewSample with page := 1 }, { viewSample with timer := 2 }] →
      (withView v).path.resetHeld = false ∧ (withView v).board.views[3]? = some v ∧
        v.tickWaiting = true) ∧
    viewSample.timer ≤ 1 ∧ viewSample.list.length ≤ (viewSample.page + 1) * viewSample.rows ∧
    (1 + 1) * viewSample.rows < viewSample.list.length := by decide +kernel

/-! #### The Notice Unit's statements -/

/-- The part with the Notice Unit's tick waiting. -/
def noticeTickSample : State := { sample with notice := { noticeSample with tickWaiting := true } }

theorem witness_NoticeTimersExpire : noticeTickSample.path.resetHeld = false ∧
    noticeTickSample.notice.tickWaiting = true ∧ NoticeInv noticeTickSample.notice :=
  ⟨rfl, rfl, noticeInv_of (by decide +kernel)⟩

/-- Its notices meet every clause: TIMED and CYCLE about to expire, a timer above 1, no timer, and a
notice a trigger raised. -/
theorem witness_NoticeTimersExpire_clauses :
    (noticeTickSample.notice.at? 8 = none) ∧
    (∃ x : Notice, noticeTickSample.notice.at? 0 = some x ∧ x.timer = some 1 ∧ x.timing = .timed 100) ∧
    (∃ x : Notice, noticeTickSample.notice.at? 1 = some x ∧ x.timer = some 1 ∧
      x.timing = .cycle 5 6 2 false ∧ x.shown = true ∧ x.source = .trigger 0) ∧
    (∃ x : Notice, noticeTickSample.notice.at? 2 = some x ∧ x.timer = some 1 ∧
      x.timing = .cycle 5 6 2 false ∧ x.shown = false ∧ 1 < x.remaining) ∧
    (∃ x : Notice, noticeTickSample.notice.at? 3 = some x ∧ x.timer = some 1 ∧
      x.timing = .cycle 5 6 2 false ∧ x.shown = false ∧ x.remaining ≤ 1) ∧
    (∃ x : Notice, noticeTickSample.notice.at? 4 = some x ∧ x.timer = some 1 ∧
      x.timing = .cycle 5 6 2 true ∧ x.shown = false ∧ x.remaining ≤ 1) ∧
    (∃ x : Notice, noticeTickSample.notice.at? 5 = some x ∧ x.timer = none) ∧
    (∃ x : Notice, noticeTickSample.notice.at? 6 = some x ∧ x.timer = some 50) ∧
    (noticeTickSample.notice.trigger 2).state ≠ .spent :=
  ⟨rfl, ⟨_, rfl, rfl, rfl⟩, ⟨_, rfl, rfl, rfl, rfl, rfl⟩, ⟨_, rfl, rfl, rfl, rfl, by decide⟩,
    ⟨_, rfl, rfl, rfl, rfl, by decide⟩, ⟨_, rfl, rfl, rfl, rfl, by decide⟩, ⟨_, rfl, rfl⟩,
    ⟨_, rfl, rfl⟩, by decide +kernel⟩

/-- The part with one tally event waiting at the Notice Unit. -/
def eventSample (e : TallyEvent) : State := { sample with notice := { noticeSample with inbox := [e] } }

/-- Show 2 has sold out. -/
def soldOut2 : TallyEvent := { showNo := 2, kind := .soldOut }

/-- Show 0 is ALMOST. -/
def almost0 : TallyEvent := { showNo := 0, kind := .almost }

theorem witness_TallyEventsFireTriggers : (eventSample soldOut2).path.resetHeld = false ∧
    (eventSample soldOut2).notice.inbox = soldOut2 :: [] ∧
    NoticeInv (eventSample soldOut2).notice ∧
    (eventSample soldOut2).notice.fires soldOut2 2 ∧
    (eventSample soldOut2).notice.fires soldOut2 31 ∧
    ¬ (eventSample soldOut2).notice.meets soldOut2 0 ∧
    ¬ (eventSample soldOut2).notice.meets soldOut2 5 := by
  refine ⟨rfl, rfl, noticeInv_of (by decide +kernel), ?_, ?_, ?_, ?_⟩
  · refine ⟨⟨rfl, _, rfl, rfl, .inl rfl⟩, _, rfl, rfl, fun q h hq _ hs => ?_⟩
    exact (by decide +kernel : ∀ q, q < 2 → ∀ h, h ∈ (noticeSample.trigger q).settings →
      h.notice ≠ 20) q hq h hs
  · refine ⟨⟨rfl, _, rfl, rfl, .inr rfl⟩, _, rfl, rfl, fun q h hq _ hs => ?_⟩
    exact (by decide +kernel : ∀ q, q < 31 → ∀ h, h ∈ (noticeSample.trigger q).settings →
      h.notice ≠ 21) q hq h hs
  · rintro ⟨h, -⟩
    exact absurd h (by decide +kernel)
  · rintro ⟨-, g, hg, he, -⟩
    obtain rfl : triggerOf .almost none 22 [.segment 0] = g := Option.some.inj hg
    cases he

/-- Trigger 3 is blocked by trigger 2, which names its ID for the same event, and trigger 4 by the
notice its ID holds. -/
theorem witness_TallyEventsFireTriggers_blocked :
    ((eventSample soldOut2).notice.meets soldOut2 3 ∧
      ¬ (eventSample soldOut2).notice.fires soldOut2 3) ∧
    ((eventSample soldOut2).notice.meets soldOut2 4 ∧
      ¬ (eventSample soldOut2).notice.fires soldOut2 4) := by
  refine ⟨⟨⟨rfl, _, rfl, rfl, .inr rfl⟩, ?_⟩, ⟨rfl, _, rfl, rfl, .inl rfl⟩, ?_⟩
  · rintro ⟨-, g, hg, -, h⟩
    obtain rfl : triggerOf .soldOut (some 2) 20 [.segment 0] = g := Option.some.inj hg
    exact h 2 _ (by decide) ⟨rfl, _, rfl, rfl, .inl rfl⟩ rfl rfl
  · rintro ⟨-, g, hg, h, -⟩
    obtain rfl : triggerOf .soldOut none 5 [.segment 0] = g := Option.some.inj hg
    cases h

/-- Of an event for which every trigger that meets it fires. -/
theorem witness_TallyEventsFireTriggers_all : NoticeInv (eventSample almost0).notice ∧
    ∀ r, (eventSample almost0).notice.meets almost0 r →
      (eventSample almost0).notice.fires almost0 r := by
  refine ⟨noticeInv_of (by decide +kernel), fun r hr => ⟨hr, ?_⟩⟩
  obtain ⟨ha, g, hg, hk, -⟩ := hr
  have h5 : r = 5 := by
    by_cases hr : r < 32
    · exact (by decide +kernel : ∀ r, r < 32 → (noticeSample.trigger r).state = .armed →
        ∀ g, g ∈ (noticeSample.trigger r).settings → g.event = .almost → r = 5) r hr ha g hg hk
    · exfalso
      have : noticeSample.triggers.length ≤ r := by
        have : noticeSample.triggers.length = 32 := by decide +kernel
        omega
      simp only [eventSample, NoticeUnit.trigger, List.getD_eq_default _ _ this] at ha
      cases ha
  subst h5
  refine ⟨_, rfl, rfl, fun q h hq _ hs => ?_⟩
  exact (by decide +kernel : ∀ q, q < 5 → ∀ h, h ∈ (noticeSample.trigger q).settings →
    h.notice ≠ 22) q hq h hs

/-! #### Timers and hand-ons -/

theorem witness_RetryAndIdleTimersExpire : sample.path.resetHeld = false ∧
    (∃ p : Pane, sample.pane.panes[1]? = some p ∧ p.tickWaiting = true ∧ p.retryTimer = some 1 ∧
      p.display = .fallbackWait) ∧
    (∃ f : Surface, sample.patch.surfaces[2]? = some f ∧ f.state = .active ∧ f.idleTimer = some 0) :=
  ⟨rfl, ⟨pane1, sample_panes.2.1, rfl, rfl, rfl⟩, surfaceOf .active 0x14000000 3 255 (some 0),
    by decide +kernel, rfl, rfl⟩

/-- A pane whose retry timer runs or is stopped. -/
def retryPane (timer : Option Nat) : Pane :=
  { Pane.vacant with retryTimer := timer, tickWaiting := true }

/-- The part with a retry timer well before its expiry, and with none. -/
def retrySample (timer : Option Nat) : State :=
  { sample with pane := { paneSample with
      panes := paneSample.panes.set 7 (retryPane timer) } }

theorem witness_RetryAndIdleTimersExpire_running :
    (∃ p : Pane, (retrySample none).pane.panes[7]? = some p ∧ p.tickWaiting = true ∧
      p.retryTimer = none) ∧
    ∃ p : Pane, (retrySample (some 2)).pane.panes[7]? = some p ∧ p.tickWaiting = true ∧
      p.retryTimer = some 2 :=
  ⟨⟨retryPane none, by decide +kernel, rfl, rfl⟩, retryPane (some 2), by decide +kernel, rfl, rfl⟩

/-- The part with changes waiting at the Patch and Pane Units. -/
def handedSample : State :=
  { sample with
    patch := { patchSample with
      fromTally := [0, 127], fromBoard := [0, 3], minuteWaiting := true
      fromNotice := [{ surface := 1, text := [72, 73], fullScreen := true }] }
    pane := { paneSample with
      inbox := [soldOut2, almost0], flagInbox := [(11, false), (0, true)] } }

theorem witness_PaneHandOnsAreTaken : handedSample.path.resetHeld = false ∧
    handedSample.pane.inbox = soldOut2 :: [almost0] ∧
    handedSample.pane.flagInbox = (11, false) :: [(0, true)] := ⟨rfl, rfl, rfl⟩

theorem witness_CellsFollowTheirSources : handedSample.path.resetHeld = false ∧
    handedSample.patch.fromTally = 0 :: [127] ∧ handedSample.patch.fromBoard = 0 :: [3] ∧
    handedSample.patch.fromNotice =
      { surface := 1, text := [72, 73], fullScreen := true } :: [] ∧
    handedSample.patch.minuteWaiting = true ∧ (handedSample.patch.surface 1).state = .idle ∧
    (handedSample.patch.surface 0).state ≠ .idle ∧ (1 < 12) ∧
    handedSample.board.views[0]? = some viewSample :=
  ⟨rfl, rfl, rfl, rfl, rfl, by decide +kernel, by decide +kernel, by decide, rfl⟩

/-! #### Scan reads, frame starts and panes -/

/-- A read by an initiator under transaction 5. -/
def scanOf (initiator a : Nat) : Request :=
  { addr := a, initiator := initiator, txn := 5, access := .read }

/-- The decidable conditions of a scan read of one surface, the cue lines but for. -/
abbrev ScansOnly (s : State) (r : Request) (k : Nat) : Prop :=
  s.path.mode = .enabled ∧ r.access = .read ∧ s.anchorSpan.holds r.addr = false ∧ k < 12 ∧
    (s.patch.surface k).scans r.initiator r.addr = true ∧
    (∀ j, j < 12 → j ≠ k → (s.patch.surface j).scans r.initiator r.addr = false) ∧
    s.pane.panes.length = 8 ∧
    ∀ j, j < 8 → ∀ g, g ∈ (s.pane.pane j).settings → g.cue ≠ r.addr

theorem scans_iff (f : Surface) (initiator a : Nat) :
    f.scans initiator a = true ↔ f.isScanRead initiator a := by
  simp only [Surface.scans, Surface.isScanRead, Surface.span, Span.holds, Surface.firstPixel,
    Bool.and_eq_true, bne_iff_ne, beq_iff_eq, and_assoc]
  exact ⟨fun ⟨h1, h2, h3, h4, h5⟩ =>
      ⟨h1, h2, of_decide_eq_true h3, of_decide_eq_true h4, of_decide_eq_true h5⟩,
    fun ⟨h1, h2, h3, h4, h5⟩ =>
      ⟨h1, h2, decide_eq_true h3, decide_eq_true h4, decide_eq_true h5⟩⟩

theorem scansOnly_of {s : State} {r : Request} {k : Nat} (h : ScansOnly s r k) :
    s.scansOnly r k := by
  obtain ⟨h1, h2, h3, h4, h5, h6, h7, h8⟩ := h
  refine ⟨h1, h2, h3, panes_all (Q := fun _ g => g.cue ≠ r.addr) h7 h8, h4, (scans_iff _ _ _).mp h5,
    fun j hj hne hs => ?_⟩
  have := h6 j hj hne
  rw [(scans_iff _ _ _).mpr hs] at this
  cases this

/-- The decidable form of `takesAtOnce`. -/
abbrev TakesAtOnce (s : State) (r : Request) : Prop :=
  s.path.resetHeld = false ∧ s.path.waiting = [] ∧ s.path.table.length < 64 ∧ r.txn < 64 ∧
    ∀ e, e ∈ s.path.table → ¬(e.initiator = r.initiator ∧ e.txn = r.txn)

theorem takesAtOnce_of {s : State} {r : Request} (h : TakesAtOnce s r) : s.takesAtOnce r := h

theorem witness_FrameStartBeginsAPicture : sample.takesAtOnce (scanOf 2 0x12000000) ∧
    sample.scansOnly (scanOf 2 0x12000000) 1 ∧
    (scanOf 2 0x12000000).addr = (sample.patch.surface 1).base ∧
    sample.patch.surfaces.length = 12 ∧
    (∃ g : PaneSettings, (sample.pane.pane 1).settings = some g ∧ g.surface = 1) ∧
    ∀ g, (sample.pane.pane 0).settings = some g → g.surface ≠ 1 :=
  ⟨takesAtOnce_of (by decide +kernel), scansOnly_of (by decide +kernel), by decide +kernel,
    by decide +kernel, ⟨_, rfl, rfl⟩, by decide +kernel⟩

/-- Pane 0 over the first line of surface 0. -/
def firstLinePane : Pane :=
  { pane0 with settings := some { paneOf 0 0 0x20000000 0x30000000 with py := 0 } }

/-- The part with that pane. -/
def cornerSample : State :=
  { sample with pane := { paneSample with panes := paneSample.panes.set 0 firstLinePane } }

/-- The Pane Unit of that part after a frame start of surface 0. -/
def cornerLeft : PaneUnit :=
  { cornerSample.pane with panes := cornerSample.pane.panes.map (fun p =>
      match p.settings with
      | none => p
      | some g => if g.surface = 0 then (p.frameStart g (cornerSample.pane.flag 0)).pane else p) }

/-- Of a pane that shows a frame over the first line, and is left so: the read goes to its slot. -/
theorem witness_FrameStartBeginsAPicture_redirected :
    cornerSample.takesAtOnce (scanOf 1 0x10000000) ∧
    cornerSample.scansOnly (scanOf 1 0x10000000) 0 ∧
    (scanOf 1 0x10000000).addr = (cornerSample.patch.surface 0).base ∧
    cornerLeft.redirect 0 0 0 = some { pane := 0, slot := 0, addr := 0x20000000 } ∧
    (∃ g : PaneSettings, (cornerLeft.pane 0).settings = some g ∧ g.frames 0 0 0) ∧
    (∀ i h, (cornerLeft.pane i).settings = some h → h.frames 0 0 0 → i = 0) ∧
    (cornerLeft.pane 0).display = .showing ∧ cornerSample.pane.flag 0 = false ∧
    (cornerLeft.pane 0).displayed = some { slot := 0, endsPass := false } := by
  refine ⟨takesAtOnce_of (by decide +kernel), scansOnly_of (by decide +kernel), by decide +kernel,
    by decide +kernel, ⟨_, rfl, ?_⟩, panes_all (by decide +kernel) ?_, by decide +kernel,
    by decide +kernel, by decide +kernel⟩
  · unfold PaneSettings.frames
    decide +kernel
  · unfold PaneSettings.frames
    decide +kernel

/-- Of a surface that no pane lies on, whose generation wraps. -/
theorem witness_FrameStartBeginsAPicture_noPane : sample.takesAtOnce (scanOf 3 0x14000000) ∧
    sample.scansOnly (scanOf 3 0x14000000) 2 ∧
    (scanOf 3 0x14000000).addr = (sample.patch.surface 2).base ∧
    (∀ j g, (sample.pane.pane j).settings = some g → g.surface ≠ 2) :=
  ⟨takesAtOnce_of (by decide +kernel), scansOnly_of (by decide +kernel), by decide +kernel,
    panes_all (Q := fun _ g => g.surface ≠ 2) (by decide +kernel) (by decide +kernel)⟩

/-- The row above the rectangle of pane 0, and the line left of it. -/
theorem witness_ScanReadsAreTracked_plain :
    ∀ a, a = 0x10000000 + 7 * 8192 + 64 ∨ a = 0x10000000 + 8 * 8192 →
      sample.takesAtOnce (scanOf 1 a) ∧ sample.scansOnly (scanOf 1 a) 0 ∧
      (scanOf 1 a).addr ≠ (sample.patch.surface 0).base ∧
      ∀ j g, (sample.pane.pane j).settings = some g →
        ¬ g.frames 0 ((a - 0x10000000) / 8192) ((a - 0x10000000) % 8192 / 4) := by
  have h : ∀ a, a ∈ [0x10000000 + 7 * 8192 + 64, 0x10000000 + 8 * 8192] →
      TakesAtOnce sample (scanOf 1 a) ∧ ScansOnly sample (scanOf 1 a) 0 ∧
      (scanOf 1 a).addr ≠ (sample.patch.surface 0).base := by decide +kernel
  have hp : ∀ a, a ∈ [0x10000000 + 7 * 8192 + 64, 0x10000000 + 8 * 8192] → ∀ j, j < 8 →
      ∀ g, g ∈ (sample.pane.pane j).settings →
        ¬ (g.surface = 0 ∧ g.py ≤ (a - 0x10000000) / 8192 ∧ (a - 0x10000000) / 8192 < g.py + g.ph ∧
          g.px ≤ (a - 0x10000000) % 8192 / 4 ∧ (a - 0x10000000) % 8192 / 4 < g.px + g.pw) := by
    decide +kernel
  intro a ha
  have hm : a ∈ [0x10000000 + 7 * 8192 + 64, 0x10000000 + 8 * 8192] := by simpa using ha
  exact ⟨takesAtOnce_of (h a hm).1, scansOnly_of (h a hm).2.1, (h a hm).2.2,
    panes_all (by decide +kernel) (hp a hm)⟩

/-- The first line of pane 0's rectangle: row 8, pixel 16. -/
theorem witness_ScanReadsAreTracked_redirected :
    sample.takesAtOnce (scanOf 1 (0x10000000 + 8 * 8192 + 64)) ∧
    sample.scansOnly (scanOf 1 (0x10000000 + 8 * 8192 + 64)) 0 ∧
    (scanOf 1 (0x10000000 + 8 * 8192 + 64)).addr ≠ (sample.patch.surface 0).base ∧
    (∃ g : PaneSettings, (sample.pane.pane 0).settings = some g ∧ g.frames 0 8 16) ∧
    (∀ i h, (sample.pane.pane i).settings = some h → h.frames 0 8 16 → i = 0) ∧
    (sample.pane.pane 0).display = .showing ∧ sample.pane.flag 0 = false ∧
    (sample.pane.pane 0).displayed = some { slot := 0, endsPass := false } := by
  refine ⟨takesAtOnce_of (by decide +kernel), scansOnly_of (by decide +kernel), by decide +kernel,
    ⟨_, rfl, ?_⟩, panes_all (by decide +kernel) ?_, rfl, rfl, rfl⟩
  · unfold PaneSettings.frames
    decide +kernel
  · unfold PaneSettings.frames
    decide +kernel

/-- The settings of the cadence worked out in chapter 7, with a clip rate. -/
def cadenceSettings (clipRate : Nat) : PaneSettings := { paneOf 0 16 0 0 with clipRate := clipRate }

/-- A pane with an accumulator, a display, queued slots and an underrun run. -/
def cadencePane (acc : Nat) (display : Display) (slots : List Nat) (run : Nat) : Pane :=
  { Pane.vacant with
    display := display, acc := acc, underrunRun := run
    displayed := if display = .dark then none else some { slot := 0, endsPass := true }
    queue := slots.map (fun k => { slot := k, endsPass := false })
    playlist := playlistSample }

/-- A pane's soundness under settings, decidable. -/
abbrev PaneFits (p : Pane) (g : PaneSettings) : Prop := PaneSound { p with settings := some g }

theorem paneInv_fits {p : Pane} {g : PaneSettings} (h : PaneFits p g) : PaneInv p g := by
  obtain ⟨h1, h2, h3, h4, h5, h6, h7, h8, h9, h10⟩ := h g rfl
  exact ⟨h1, h2, h3, h4, h5, h6, h7, h8, h9, h10⟩

/-- A first frame; acc 36 with no advance; acc 59 with one; clip rate 120 with two of them. -/
theorem witness_CadencePacesFrames :
    (PaneInv (cadencePane 0 .dark [1, 2] 0) (cadenceSettings 24) ∧
      (cadencePane 0 .dark [1, 2] 0).display = .dark ∧
      (cadencePane 0 .dark [1, 2] 0).queue =
        { slot := 1, endsPass := false } :: [{ slot := 2, endsPass := false }]) ∧
    (PaneInv (cadencePane 35 .showing [1] 0) (cadenceSettings 24) ∧
      (cadencePane 35 .showing [1] 0).display ≠ .dark ∧ 35 + 24 < 60) ∧
    (PaneInv (cadencePane 36 .fallbackLatched [1] 0) (cadenceSettings 24) ∧
      (cadencePane 36 .fallbackLatched [1] 0).display ≠ .dark ∧
      (cadencePane 36 .fallbackLatched [1] 0).queue = { slot := 1, endsPass := false } :: [] ∧
      60 ≤ 36 + 24 ∧ 36 + 24 < 2 * 60) ∧
    (PaneInv (cadencePane 59 .showing [1, 2] 0) (cadenceSettings 120) ∧
      (cadencePane 59 .showing [1, 2] 0).display ≠ .dark ∧
      (cadencePane 59 .showing [1, 2] 0).queue =
        { slot := 1, endsPass := false } :: { slot := 2, endsPass := false } :: [] ∧
      2 * 60 ≤ 59 + 120 ∧ 59 + 120 < 3 * 60) := by
  refine ⟨⟨paneInv_fits (by decide), by decide⟩, ⟨paneInv_fits (by decide), by decide⟩,
    ⟨paneInv_fits (by decide), by decide⟩, ⟨paneInv_fits (by decide), by decide⟩⟩

/-- Underruns short of the deglitch setting and at it, in each starvation mode; and the end of a
stopped pane's showing, with a frame that ends its pass and one that does not. -/
theorem witness_CadencePacesFrames_empty :
    (∀ run, run < 3 → PaneInv (cadencePane 40 .showing [] run) (cadenceSettings 24) ∧
      (cadencePane 40 .showing [] run).display = .showing ∧
      (cadencePane 40 .showing [] run).queue = [] ∧
      (cadencePane 40 .showing [] run).playlist.state = .active ∧ 60 ≤ 40 + 24 ∧
      40 + 24 < 2 * 60) ∧
    (∀ mode, PaneInv (cadencePane 40 .showing [] 2)
      { cadenceSettings 24 with starvation := mode } ∧ 3 ≤ 2 + 1) ∧
    (cadencePane 40 .showing [] 2).retriesUsed < 2 ∧
    (∀ used, used = 2 ∨ used = 10 →
      PaneInv { cadencePane 40 .showing [] 2 with retriesUsed := used } (cadenceSettings 24) ∧
      (cadenceSettings 24).starvation = .retry ∧ (cadenceSettings 24).retryLimit = some 2 ∧
      2 ≤ used) ∧
    (∀ ends, PaneInv { cadencePane 40 .showing [] 0 with
        displayed := some { slot := 0, endsPass := ends },
        playlist := { playlistSample with state := .idle } } (cadenceSettings 24)) := by
  refine ⟨fun run hr => ⟨?_, rfl, rfl, rfl, by decide, by decide⟩, fun mode => ⟨?_, by decide⟩, by decide,
    fun used hu => ⟨?_, rfl, rfl, by omega⟩, fun ends => ?_⟩
  · interval_cases run <;> exact paneInv_fits (by decide)
  · cases mode <;> exact paneInv_fits (by decide)
  · rcases hu with rfl | rfl <;> exact paneInv_fits (by decide)
  · cases ends <;> exact paneInv_fits (by decide)

/-- Settings with which a frame start of a pane at acc 23 has 143/24, five, advances fall due. -/
def burstSettings (starvation : Starvation) : PaneSettings :=
  { paneOf 0 16 0 0 with
    scanRate := 24, clipRate := 120, slotCount := 8, starvation := starvation }

/-- A pane at acc 23 with a playlist state and slots queued, whose frames end their pass or not. -/
def burstPane (display : Display) (slots : List Nat) (state : PlaylistState) (ends : Bool) : Pane :=
  { cadencePane 23 display slots 0 with
    queue := slots.map (fun k => { slot := k, endsPass := ends })
    playlist := { playlistSample with state := state } }

/-- A DARK pane with nothing queued; five advances over a queue of five and of seven frames; and over
one of two frames, which empties partway, in each display and playlist state. -/
theorem witness_CadencePacesFrames_many :
    (PaneInv (cadencePane 0 .dark [] 0) (cadenceSettings 24) ∧
      (cadencePane 0 .dark [] 0).display = .dark ∧ (cadencePane 0 .dark [] 0).queue = []) ∧
    (∀ display, display ∈ [Display.showing, .fallbackWait, .fallbackLatched] → display ≠ .dark ∧
      (∀ slots, slots ∈ [[1, 2, 3, 4, 5], [1, 2, 3, 4, 5, 6, 7]] →
        PaneInv (burstPane display slots .active false) (burstSettings .hold) ∧
        (23 + 120) / 24 ≤ (burstPane display slots .active false).queue.length) ∧
      (∀ state, state ∈ [PlaylistState.suspended, .idle, .active] →
        PaneInv (burstPane display [1, 2] state false) (burstSettings .hold) ∧
        (burstPane display [1, 2] state false).queue.length < (23 + 120) / 24)) ∧
    (∀ f, ((burstPane .showing [1, 2] .idle false).advancedBy (burstSettings .hold) 5).displayed =
      some f → f.endsPass = false) ∧
    (PaneInv (burstPane .showing [1, 2] .idle true) (burstSettings .hold) ∧
      ((burstPane .showing [1, 2] .idle true).advancedBy (burstSettings .hold) 5).displayed =
        some { slot := 2, endsPass := true }) := by
  refine ⟨⟨paneInv_fits (by decide), rfl, rfl⟩, ?_, ?_, paneInv_fits (by decide), by decide⟩
  · have h : ∀ display, display ∈ [Display.showing, .fallbackWait, .fallbackLatched] →
        display ≠ .dark ∧ (∀ slots, slots ∈ [[1, 2, 3, 4, 5], [1, 2, 3, 4, 5, 6, 7]] →
          PaneFits (burstPane display slots .active false) (burstSettings .hold) ∧
          (23 + 120) / 24 ≤ (burstPane display slots .active false).queue.length) ∧
        (∀ state, state ∈ [PlaylistState.suspended, .idle, .active] →
          PaneFits (burstPane display [1, 2] state false) (burstSettings .hold) ∧
          (burstPane display [1, 2] state false).queue.length < (23 + 120) / 24) := by
      decide +kernel
    intro display hd
    obtain ⟨h1, h2, h3⟩ := h display hd
    exact ⟨h1, fun slots hs => ⟨paneInv_fits (h2 slots hs).1, (h2 slots hs).2⟩,
      fun state hs => ⟨paneInv_fits (h3 state hs).1, (h3 state hs).2⟩⟩
  · intro f hf
    obtain rfl : { slot := 2, endsPass := false } = f := Option.some.inj hf
    rfl

/-- An ACTIVE playlist whose queue empties partway: two underruns stay below the deglitch setting and
three reach it, in each starvation mode, with retries left and with none. -/
theorem witness_CadencePacesFrames_partway :
    (((burstPane .showing [1, 2, 3] .active false).advancedBy (burstSettings .hold) 5).underrunRun +
        (5 - 3) < 3 ∧
      3 ≤ ((burstPane .showing [1, 2] .active false).advancedBy (burstSettings .hold) 5).underrunRun +
        (5 - 2)) ∧
    (∀ mode, PaneInv (burstPane .showing [1, 2] .active false) (burstSettings mode)) ∧
    (burstSettings .retry).retryLimit = some 2 ∧
    (burstPane .showing [1, 2] .active false).retriesUsed < 2 ∧
    PaneInv { burstPane .showing [1, 2] .active false with retriesUsed := 2 }
      (burstSettings .retry) := by
  refine ⟨by decide, fun mode => ?_, rfl, by decide, paneInv_fits (by decide)⟩
  cases mode <;> exact paneInv_fits (by decide)

/-- The playlist at a pass of an entry, with its requests. -/
def cueAt (e pass : Nat) (start : Option Nat) (resume : Bool) : Playlist :=
  { playlistSample with cueEntry := some e, pass := pass, startRequest := start,
                        resumeRequest := resume }

/-- Entry 0 between its passes, and at the last one with a request for a valid entry, for one that is
not valid, and none; entry 1 suspends, entry 3 ends the list. -/
theorem witness_CueAdvanceChoosesTheNextClip :
    (cueAt 0 1 none false).cueEntry = some 0 ∧
    1 < ((cueAt 0 1 none false).entry 0).repeats ∧
    ((cueAt 0 2 (some 15) false).entry 0).repeats ≤ 2 ∧
    ((cueAt 0 2 (some 15) false).startRequest = some 15 ∧
      ((cueAt 0 2 (some 15) false).entry 15).valid = true) ∧
    ((cueAt 0 2 (some 16) false).startRequest = some 16 ∧
      ((cueAt 0 2 (some 16) false).entry 16).valid = false) ∧
    ((cueAt 3 1 none false).startRequest = none ∧
      ((cueAt 3 1 none false).entry 3).endOfList = true) ∧
    ((cueAt 1 1 none false).startRequest = none ∧
      ((cueAt 1 1 none false).entry 1).endOfList = false ∧
      ((cueAt 1 1 none false).entry 1).suspends = true ∧
      (cueAt 1 1 none false).resumeRequest = false) ∧
    (((cueAt 1 1 none true).entry 1).endOfList = false ∧
      (cueAt 1 1 none true).resumeRequest = true) ∧
    ((cueAt 0 2 none false).entry 0).suspends = false := by decide +kernel

/-! #### The memory path -/

/-- The part in PASS mode. -/
def passSample : State := { sample with path := { pathSample with mode := .pass } }

/-- The part with the in-flight patch table full. -/
def fullSample : State :=
  { sample with path := { pathSample with
      table := (List.range 64).map (fun k =>
        { initiator := 0, txn := k, tracked := .anchor 1 }) } }

theorem witness_PlainTrafficPassesUnchanged :
    (passSample.takesAtOnce (readAt 0x2001000) ∧ passSample.path.mode = .pass ∧
      passSample.anchorSpan.holds (readAt 0x2001000).addr = false) ∧
    (∀ line, line = 1 ∨ line = 7 →
      sample.takesAtOnce (writeAt (sample.anchorSpan.base + 64 * line) []) ∧ 1 ≤ line ∧
        line ≤ 7) ∧
    (∀ txn, txn = 63 ∨ txn = 80 → (txn < 64 ∨ 80 ≤ txn) ∧
      ∀ e, e ∈ sample.path.table → ¬ (e.initiator = 15 ∧ e.txn = txn)) ∧
    (sample.path.waiting = [] ∧ sample.path.table.length < 64 ∧
      64 ≤ ({ readAt 0 with txn := 64 } : Request).txn) ∧
    (fullSample.path.resetHeld = false ∧ 64 ≤ fullSample.path.table.length) := by
  refine ⟨⟨takesAtOnce_of (by decide +kernel), rfl, by decide +kernel⟩, ?_, ?_, by decide +kernel,
    rfl, by decide +kernel⟩
  · rintro line (rfl | rfl) <;> exact ⟨takesAtOnce_of (by decide +kernel), by decide⟩
  · rintro txn (rfl | rfl) <;> decide +kernel

theorem isScanRead_of {f : Surface} {initiator a : Nat} (h : f.scans initiator a = false) :
    ¬ f.isScanRead initiator a := by
  rw [← scans_iff, h]
  exact Bool.false_ne_true

/-- In ENABLED mode a read beside the surfaces, by the scan initiator of one, and writes on both sides
of the intake window, are plain. -/
theorem sample_plain : sample.plain (readAt 0x11FFFFC0) ∧
    ∀ a, a = 0x1000000 - 64 ∨ a = 0x1010000 → sample.plain (writeAt a []) := by
  refine ⟨.inr ⟨by decide +kernel, .inr (.inl ⟨rfl,
    panes_all (Q := fun _ g => g.cue ≠ 0x11FFFFC0) (by decide +kernel) (by decide +kernel),
    fun k hk => isScanRead_of ((by decide +kernel : ∀ k, k < 12 →
      (sample.patch.surface k).scans 1 0x11FFFFC0 = false) k hk)⟩)⟩, fun a ha => ?_⟩
  have h : ∀ a, a ∈ [0x1000000 - 64, 0x1010000] → sample.anchorSpan.holds a = false ∧
      (a < 0x1000000 ∨ 0x1000000 + 64 * 1024 ≤ a) ∧
      ∀ j, j < 8 → ∀ g, g ∈ (sample.pane.pane j).settings → g.marker ≠ a := by decide +kernel
  obtain ⟨h1, h2, h3⟩ := h a (by simpa using ha)
  refine .inr ⟨h1, .inr (.inr ⟨_, _, rfl, fun base length hw => ?_,
    panes_all (by decide +kernel) h3⟩)⟩
  obtain ⟨rfl, rfl⟩ : 0x1000000 = base ∧ 1024 = length := by
    have := Option.some.inj (hw : some ((0x1000000 : Nat), (1024 : Nat)) = some (base, length))
    simpa using this
  exact h2

/-- In the anchor page, in both modes: reads of the lines 0, 8 and 63 and writes of the lines 1, 7, 8
and 63 are plain. -/
theorem sample_plain_anchor : ∀ s, s = sample ∨ s = passSample →
    (∀ line, line = 0 ∨ line = 8 ∨ line = 63 → s.plain (readAt (0x2000000 + 64 * line))) ∧
    ∀ line, line = 1 ∨ line = 7 ∨ line = 8 ∨ line = 63 →
      s.plain (writeAt (0x2000000 + 64 * line) []) := by
  rintro s (rfl | rfl) <;> refine ⟨fun line h => ?_, fun line h => ?_⟩
  · rcases h with rfl | rfl | rfl <;> exact .inl ⟨by decide +kernel, .inl ⟨rfl, by decide +kernel⟩⟩
  · rcases h with rfl | rfl | rfl | rfl <;>
      exact .inl ⟨by decide +kernel, .inr ⟨_, _, rfl, by decide +kernel⟩⟩
  · rcases h with rfl | rfl | rfl <;> exact .inl ⟨by decide +kernel, .inl ⟨rfl, by decide +kernel⟩⟩
  · rcases h with rfl | rfl | rfl | rfl <;>
      exact .inl ⟨by decide +kernel, .inr ⟨_, _, rfl, by decide +kernel⟩⟩

/-- The part with requests that wait. -/
def waitingSample (l : List Request) : State :=
  { sample with path := { pathSample with waiting := l } }

/-- A plain request taken at once; one that waited, taken with none offered and with one offered; a
reserved number that waited; nothing to take, and no room. -/
theorem witness_PlainTrafficPassesUnchanged_waiting :
    (sample.takesAtOnce (readAt 0x11FFFFC0) ∧ sample.plain (readAt 0x11FFFFC0)) ∧
    (∀ offer, offer = none ∨ offer = some (readAt 0x40) →
      (waitingSample [readAt 0x11FFFFC0]).path.resetHeld = false ∧
      (waitingSample [readAt 0x11FFFFC0]).path.waiting ++ offer.toList =
        readAt 0x11FFFFC0 :: offer.toList ∧
      (waitingSample [readAt 0x11FFFFC0]).path.table.length < 64 ∧
      (readAt 0x11FFFFC0).txn < 64 ∧
      (∀ e, e ∈ (waitingSample [readAt 0x11FFFFC0]).path.table →
        ¬ (e.initiator = (readAt 0x11FFFFC0).initiator ∧ e.txn = (readAt 0x11FFFFC0).txn)) ∧
      (waitingSample [readAt 0x11FFFFC0]).plain (readAt 0x11FFFFC0)) ∧
    (64 ≤ ({ readAt 0 with txn := 64 } : Request).txn ∧
      (waitingSample [{ readAt 0 with txn := 64 }]).path.waiting ++ (none : Option Request).toList =
        { readAt 0 with txn := 64 } :: []) ∧
    sample.path.waiting ++ (none : Option Request).toList = [] ∧
    64 ≤ fullSample.path.table.length := by
  refine ⟨⟨takesAtOnce_of (by decide +kernel), sample_plain.1⟩, fun offer _ =>
    ⟨rfl, rfl, (by decide : sample.path.table.length < 64), by decide,
      (by decide +kernel : ∀ e, e ∈ sample.path.table →
        ¬ (e.initiator = (readAt 0x11FFFFC0).initiator ∧ e.txn = (readAt 0x11FFFFC0).txn)),
      sample_plain.1⟩, ⟨by decide, rfl⟩, rfl, by decide +kernel⟩

/-- Waiting requests that are no plain ones: an anchor read, a cue read, a frame start and a command
line, with another offered behind each. -/
theorem witness_PlainTrafficPassesUnchanged_handed :
    ∀ a, a = 0x2000040 ∨ a = 0x30000040 ∨ a = 0x12000000 ∨ a = 0x2000000 →
      ((waitingSample [scanOf 2 a]).awaiting []).takesAtOnce (scanOf 2 a) ∧
      (waitingSample [scanOf 2 a]).path.waiting ++ (some (readAt 0x40)).toList =
        scanOf 2 a :: [readAt 0x40] := by
  have h : sample.path.resetHeld = false ∧ sample.path.table.length < 64 ∧
      ∀ e, e ∈ sample.path.table → ¬ (e.initiator = 2 ∧ e.txn = 5) := by decide +kernel
  exact fun a _ => ⟨⟨h.1, rfl, h.2.1, (by decide : 5 < 64), h.2.2⟩, rfl⟩

/-- Reads of the cue lines of the first and the last configured pane, by any initiator. -/
theorem witness_AnchorReadsReturnThePart_cue : ∀ i k, i < 16 → k = 0 ∨ k = 2 →
    sample.takesAtOnce (scanOf i (0x30000040 + 0x1000 * k)) ∧
      sample.cuesOnly (scanOf i (0x30000040 + 0x1000 * k)) k := by
  intro i k hi hk
  have h : sample.path.resetHeld = false ∧ sample.path.table.length < 64 ∧
      ∀ e, e ∈ sample.path.table → e.txn ≠ 5 := by decide +kernel
  refine ⟨⟨h.1, rfl, h.2.1, (by decide : 5 < 64), fun e he hp => h.2.2 e he hp.2⟩, rfl, rfl, ?_⟩
  have hs : ∀ i, i < 16 → ∀ k, k ∈ [0, 2] → ∀ j, j < 12 →
      (sample.patch.surface j).scans i (0x30000040 + 0x1000 * k) = false := by decide +kernel
  rcases hk with rfl | rfl
  · exact ⟨(by decide +kernel : sample.anchorSpan.holds 0x30000040 = false), ⟨_, rfl, rfl⟩,
      fun j g hj hg => panes_all (Q := fun j g => j ≠ 0 → g.cue ≠ 0x30000040)
        (by decide +kernel) (by decide +kernel) j g hg hj,
      fun j hj => isScanRead_of (hs i hi 0 (by decide) j hj)⟩
  · exact ⟨(by decide +kernel : sample.anchorSpan.holds 0x30002040 = false), ⟨_, rfl, rfl⟩,
      fun j g hj hg => panes_all (Q := fun j g => j ≠ 2 → g.cue ≠ 0x30002040)
        (by decide +kernel) (by decide +kernel) j g hg hj,
      fun j hj => isScanRead_of (hs i hi 2 (by decide) j hj)⟩

theorem witness_AnchorReadsReturnThePart :
    (∀ line, line = 1 ∨ line = 7 →
      sample.takesAtOnce (readAt (sample.anchorSpan.base + 64 * line)) ∧ 1 ≤ line ∧ line ≤ 7 ∧
      (readAt (sample.anchorSpan.base + 64 * line)).access = .read) ∧
    (sample.path.resetHeld = false ∧ PathInv sample.path ∧
      ({ initiator := 2, txn := 10, tracked := .anchor 1 } : InFlight) ∈ sample.path.table) ∧
    sample.command.response.result.length ≤ 8 ∧
    (∀ n, n = 0 ∨ n = 252 →
      ({ sample.command with copyBytes := List.replicate n 1 } : CommandUnit).copyBytes.length ≤
        252) := by
  refine ⟨?_, ⟨rfl, pathSample_sound, by decide +kernel⟩, by decide, ?_⟩
  rotate_left
  · intro n hn
    show (List.replicate n (1 : Byte)).length ≤ 252
    rw [List.length_replicate]
    omega
  rintro line (rfl | rfl) <;> exact ⟨takesAtOnce_of (by decide +kernel), by decide⟩

/-- Scan reads under g, g − 1 and an older generation, a redirected one whose slot drains, and a cue
read. -/
theorem witness_TrackedReadsReturn : sample.path.resetHeld = false ∧ PathInv sample.path ∧
    (∀ e, e ∈ [({ initiator := 1, txn := 10, tracked := .scan 0 5 0 0 none } : InFlight),
        { initiator := 1, txn := 11, tracked := .scan 0 4 0 0 none },
        { initiator := 1, txn := 12, tracked := .scan 0 3 0 0 none },
        { initiator := 1, txn := 13, tracked := .scan 0 5 8 16 (some (0, 2)) },
        { initiator := 2, txn := 63, tracked := .cue 0 }] → e ∈ sample.path.table) ∧
    (sample.patch.surface 0).gen = 5 ∧ (5 ≠ 4 ∧ 4 = (5 + 255) % 256) ∧
    (3 ≠ (5 + 255) % 256) ∧
    (sample.pane.pane 0).settings = some (paneOf 0 16 0x20000000 0x30000000) ∧
    ((∀ f, f ∈ (sample.pane.pane 0).displayed → f.slot ≠ 2) ∧
      (∀ f, f ∈ (sample.pane.pane 0).queue → f.slot ≠ 2) ∧
      (sample.pane.pane 0).outstanding.getD 2 0 = 1) :=
  ⟨rfl, pathSample_sound, by decide +kernel, by decide +kernel, by decide, by decide,
    by decide +kernel, by decide +kernel⟩

theorem witness_VerdictResponsesAreCounted : sample.path.resetHeld = false ∧
    IntakeInv sample.intake ∧
    (∃ w, w ∈ sample.intake.issued ∧ w.txn = 64 ∧ w.cancelled = false) ∧
    (∃ w, w ∈ sample.intake.issued ∧ w.txn = 67 ∧ w.cancelled = true) ∧
    (∀ txn, txn = 65 ∨ txn = 66 → 64 ≤ txn ∧ txn < 68 ∧
      ∀ w, w ∈ sample.intake.issued → w.txn ≠ txn) := by
  refine ⟨rfl, intakeSample_sound, ⟨_, .head _, rfl, rfl⟩, ⟨_, .tail _ (.head _), rfl, rfl⟩, ?_⟩
  rintro txn (rfl | rfl) <;> decide +kernel

/-- The part with the loader in a state. -/
def withLoader (l : Loader) : State := { sample with patch := { patchSample with loader := l } }

/-- A load of set 1 with its next line and the reads outstanding. -/
def loadAt (next : Nat) (outstanding : List (Nat × Nat)) : Load :=
  { set := 1, source := 64, sum := 0, next := next, outstanding := outstanding, failed := false }

theorem witness_GlyphLinesAreWritten : sample.path.resetHeld = false ∧ GlyphInv sample.patch ∧
    (∃ l, sample.patch.loader = .busy l ∧ (68, 1) ∈ l.outstanding ∧ (79, 2) ∈ l.outstanding) ∧
    (List.replicate 64 (3 : Byte)).length = 64 ∧
    ((withLoader (.draining [68, 79])).patch.loader = .draining [68, 79] ∧
      GlyphInv (withLoader (.draining [68, 79])).patch ∧
      ∀ txn, txn = 68 ∨ txn = 79 → txn ∈ [68, 79] ∧ 68 ≤ txn ∧ txn < 80) := by
  refine ⟨rfl, patchSample_glyphs, ⟨_, rfl, by decide, by decide⟩, by decide, rfl,
    glyphInv_of (by decide +kernel) (by simp only [withLoader, Loader.sound]; decide), ?_⟩
  rintro txn (rfl | rfl) <;> decide

/-- The part with a stream of two reads, a run, the verdicts and the writes issued, and a loader. -/
def portSample (stream : List Request) (run : Nat) (verdicts : List Verdict)
    (issued : List IssuedWrite) (l : Loader) : State :=
  { withLoader l with
    path := { pathSample with stream := stream, run := run }
    intake := { intakeSample with verdicts := verdicts, issued := issued } }

/-- A stream of two reads. -/
def streamSample : List Request := [readAt 0, readAt 64]

/-- The four rows of the arbiter: the stream alone; the stream at a run of 7 with a verdict waiting;
a verdict at a run of 8 with three writes issued, and with the stream empty; a glyph read at the last
line with eleven outstanding, all four verdict numbers in use. -/
theorem witness_ArbiterSharesThePort :
    ((portSample streamSample 8 [] [] .idle).path.stream = readAt 0 :: [readAt 64] ∧
      ¬ (portSample streamSample 8 [] [] .idle).ownRequest) ∧
    ((portSample streamSample 7 intakeSample.verdicts [] .idle).ownRequest ∧
      (portSample streamSample 7 intakeSample.verdicts [] .idle).path.run < 8) ∧
    (∀ stream, stream = [] ∨ stream = streamSample →
      ((portSample stream 8 intakeSample.verdicts intakeSample.issued .idle).path.stream = [] ∨
        (portSample stream 8 intakeSample.verdicts intakeSample.issued .idle).path.run = 8) ∧
      IntakeInv (portSample stream 8 intakeSample.verdicts intakeSample.issued .idle).intake ∧
      intakeSample.issued.length < 4) ∧
    (GlyphInv (portSample [] 0 [] [] (.busy (loadAt 575 ((List.range 11).map
        (fun k => (68 + k, 500 + k)))))).patch ∧
      (loadAt 575 ((List.range 11).map (fun k => (68 + k, 500 + k)))).next < 576 ∧
      (loadAt 575 ((List.range 11).map (fun k => (68 + k, 500 + k)))).outstanding.length < 12) := by
  refine ⟨⟨rfl, ?_⟩, ⟨.inl (by decide +kernel), by decide⟩, ?_,
    glyphInv_of (by decide +kernel) ?_, by decide, by decide⟩
  · rintro (⟨h, -⟩ | ⟨l, h, -⟩)
    · exact h rfl
    · cases h
  · intro stream hs
    exact ⟨.inr rfl, intakeSample_sound, by decide⟩
  · simp only [portSample, withLoader, loadAt, Loader.sound]
    decide +kernel

/-- The bytes of each kind of command line: a wrong sum, unknown codes, and codes 1 and 24. -/
theorem witness_CommandLineIsTested :
    (∀ data, data ∈ [List.replicate 64 0, checkedLine 25 1 [], checkedLine 0 1 [],
        checkedLine 24 1 [0, 140], checkedLine 1 9 [1]] →
      sample.takesAtOnce (writeAt sample.anchorSpan.base data) ∧
      (writeAt sample.anchorSpan.base data).access = .write (BitVec.allOnes 64) data) ∧
    onesSum (List.replicate 64 0) 32 ≠ 65535 ∧
    (∀ code, code = 0 ∨ code = 25 → onesSum (checkedLine code 1 []) 32 = 65535 ∧
      byteAt (checkedLine code 1 []) 0 = code) ∧
    (onesSum (checkedLine 24 1 [0, 140]) 32 = 65535 ∧
      byteAt (checkedLine 24 1 [0, 140]) 0 = 24) ∧
    (onesSum (checkedLine 1 9 [1]) 32 = 65535 ∧ byteAt (checkedLine 1 9 [1]) 0 = 1) ∧
    (1#64 ≠ BitVec.allOnes 64) := by
  refine ⟨fun data _ => ⟨takesAtOnce_of ?_, rfl⟩, by decide +kernel, ?_, by decide +kernel,
    by decide +kernel, by decide⟩
  · have h : TakesAtOnce sample (writeAt sample.anchorSpan.base []) := by decide +kernel
    exact h
  · rintro code (rfl | rfl) <;> decide +kernel

/-! #### Glyph loads -/

/-- The last source address, with the loader idle; a load whose lines have all returned, whole and
with an error; and a draining at its end. -/
theorem witness_GlyphLoadRuns :
    ((withLoader .idle).path.resetHeld = false ∧ (1 : Nat) ≤ 1 ∧
      (1099511627776 - 36864) % 64 = 0 ∧ (1099511627776 - 36864) + 36864 ≤ 1099511627776 ∧
      (withLoader .idle).patch.loader = .idle ∧ (withLoader .idle).patch.sets.length = 2) ∧
    (∀ failed, (withLoader (.busy { loadAt 576 [] with failed := failed })).patch.loader =
        .busy { loadAt 576 [] with failed := failed } ∧ (loadAt 576 []).next = 576 ∧
      (loadAt 576 []).outstanding = [] ∧ (loadAt 576 []).set ≤ 1) ∧
    (withLoader (.draining [])).patch.loader = .draining [] :=
  ⟨⟨rfl, by decide, by decide, by decide, rfl, rfl⟩, fun _ => ⟨rfl, rfl, rfl, by decide⟩, rfl⟩

/-! #### Intake and markers -/

/-- The address of intake line `k`. -/
def lineAt (k : Nat) : Nat := 0x1000000 + 64 * k

/-- The part with an intake queue of 32 other lines. -/
def queueFullSample : State :=
  { sample with intake := { intakeSample with
      queue := (List.range 32).map (fun k => { addr := lineAt (k + 8), data := recordData [12, 0, k] }) } }

theorem writesOutside_of {s : State} {r : Request} {enables : BitVec 64} {data : Line}
    (h : TakesAtOnce s r) (h1 : s.path.mode = .enabled) (h2 : s.anchorSpan.holds r.addr = false)
    (h3 : r.access = .write enables data) : s.writesOutside r enables data := ⟨h, h1, h2, h3⟩

/-- The first and the last line of the window: a partial write, a state byte that is not POSTED, a
POSTED record that supersedes, one for which there is room, and one for which there is none. -/
theorem witness_IntakeWritesAreSorted :
    (∀ a, a = lineAt 0 ∨ a = lineAt 1023 → ∀ enables data,
      sample.writesOutside { writeAt a [] with access := .write enables data } enables data ∧
      queueFullSample.writesOutside { writeAt a [] with access := .write enables data } enables
        data ∧ sample.intake.window = some (0x1000000, 1024) ∧ 0x1000000 ≤ a ∧
      a < 0x1000000 + 64 * 1024) ∧
    byteAt (intakeLine 2 [12, 0, 7]) 58 ≠ 1 ∧ byteAt (intakeLine 1 [12, 0, 7]) 58 = 1 ∧
    (32 ≤ queueFullSample.intake.queue.length ∧
      ∀ q, q ∈ queueFullSample.intake.queue → q.addr ≠ lineAt 0) ∧
    (sample.intake.queue.length < 32 ∧ ∃ q, q ∈ sample.intake.queue ∧ q.addr = lineAt 0) := by
  refine ⟨?_, by decide +kernel, by decide +kernel, by decide +kernel, by decide +kernel, _,
    .head _, rfl⟩
  intro a ha enables data
  have h : ∀ a, a ∈ [lineAt 0, lineAt 1023] → (TakesAtOnce sample (writeAt a []) ∧
      TakesAtOnce queueFullSample (writeAt a []) ∧ sample.anchorSpan.holds a = false ∧
      0x1000000 ≤ a ∧ a < 0x1000000 + 64 * 1024) := by decide +kernel
  obtain ⟨h1, h2, h3, h4, h5⟩ := h a (by simpa using ha)
  exact ⟨⟨h1, rfl, h3, rfl⟩, ⟨h2, rfl, h3, rfl⟩, rfl, h4, h5⟩

/-- Markers of pane 0: slot 3 is taken, plain and LAST; a partial write, a wrong sum, a stale
generation, and slots that are displayed, queued, draining or beyond the count are not. -/
theorem witness_MarkersAreTaken :
    (∀ enables data,
      sample.writesOutside { writeAt 0x30000000 [] with access := .write enables data } enables
        data) ∧
    sample.intake.covers 0x30000000 = false ∧
    (∃ p : Pane, sample.pane.panes[0]? = some p ∧
      p.settings = some (paneOf 0 16 0x20000000 0x30000000) ∧
      (∀ last, last = 0 ∨ last = 1 →
        p.accepts (paneOf 0 16 0x20000000 0x30000000) (BitVec.allOnes 64)
          (checkedLine 3 3 [last])) ∧
      p.playlist.state = .active ∧ byteAt (checkedLine 3 2 [0]) 1 ≠ p.playlist.generation ∧
      ∀ slot, slot ∈ [0, 1, 2, 4] →
        ¬ p.accepts (paneOf 0 16 0x20000000 0x30000000) (BitVec.allOnes 64)
          (checkedLine slot 3 [0])) ∧
    (∀ j h, (sample.pane.pane j).settings = some h → h.marker = 0x30000000 → j = 0) ∧
    onesSum (bytes [3, 3]) 32 ≠ 65535 ∧ onesSum (checkedLine 3 2 [0]) 32 = 65535 := by
  refine ⟨fun enables data => ⟨takesAtOnce_of ?_, rfl,
      (by decide +kernel : sample.anchorSpan.holds 0x30000000 = false), rfl⟩, by decide +kernel,
    ⟨pane0, sample_panes.1, rfl, ?_, rfl, by decide +kernel, ?_⟩,
    panes_all (by decide +kernel) (by decide +kernel), by decide +kernel, by decide +kernel⟩
  · have h : TakesAtOnce sample (writeAt 0x30000000 []) := by decide +kernel
    exact h
  · rintro last (rfl | rfl)
    · exact ⟨rfl, by decide +kernel, rfl, by decide +kernel, by decide +kernel,
        fun f hf => by obtain rfl := Option.some.inj hf; decide +kernel,
        fun f hf => by obtain rfl := List.mem_singleton.mp hf; decide +kernel,
        by decide +kernel, by decide⟩
    · exact ⟨rfl, by decide +kernel, rfl, by decide +kernel, by decide +kernel,
        fun f hf => by obtain rfl := Option.some.inj hf; decide +kernel,
        fun f hf => by obtain rfl := List.mem_singleton.mp hf; decide +kernel,
        by decide +kernel, by decide⟩
  · rintro slot hs ⟨-, -, -, -, h1, h2, h3, h4, -⟩
    have hb : ∀ slot, slot ∈ [0, 1, 2, 4] → byteAt (checkedLine slot 3 [0]) 0 = slot := by
      decide +kernel
    rw [hb slot hs] at h1 h2 h3 h4
    simp only [List.mem_cons, List.not_mem_nil, or_false] at hs
    rcases hs with rfl | rfl | rfl | rfl
    · exact h2 _ rfl rfl
    · exact h3 _ (List.mem_singleton.mpr rfl) rfl
    · exact absurd h4 (by decide)
    · exact absurd h1 (by decide)

/-! #### Records -/

/-- A queued record of the bytes given. -/
def queuedOf (l : List Nat) : QueuedRecord := { addr := lineAt 0, data := recordData l }

/-- The part with one record queued. -/
def withRecord (l : List Nat) : State :=
  { sample with intake := { intakeSample with queue := [queuedOf l] } }

/-- The record processor reads a record from its bytes. -/
abbrev Reads (l : List Nat) (r : Record) : Prop :=
  onesSum (queuedOf l).data 29 = 65535 ∧ decodeRecord (queuedOf l).data = some r

theorem reads_of {l : List Nat} {r : Record} (h : Reads l r) :
    (withRecord l).readsRecord (queuedOf l) r :=
  ⟨rfl, by show intakeSample.verdicts.length < 16; decide, rfl, h.1, h.2⟩

/-- 64 seats of show 0, all ten left of show 1; eight seats refunded in STARTED, forty in CLOSED; all
four blocked seats of a CLOSED show returned. -/
theorem witness_SeatRecordsApply : sample.tally.shows.length = 128 ∧
    ((withRecord [1, 63, 0, 64]).readsRecord (queuedOf [1, 63, 0, 64]) (.sale 63 0 64) ∧
      (sample.tally.entry 0).state = .listed ∧ 100 + 5 + 2 + 64 ≤ 250) ∧
    ((withRecord [1, 0, 1, 10]).readsRecord (queuedOf [1, 0, 1, 10]) (.sale 0 1 10) ∧
      (sample.tally.entry 1).state = .boarding ∧
      (sample.tally.entry 1).sold + (sample.tally.entry 1).held + (sample.tally.entry 1).blocked +
        10 = (sample.tally.entry 1).capacity) ∧
    ((withRecord [3, 0, 127, 64]).readsRecord (queuedOf [3, 0, 127, 64]) (.block 0 127 64) ∧
      (sample.tally.entry 127).state = .listed) ∧
    ((withRecord [2, 0, 2, 8]).readsRecord (queuedOf [2, 0, 2, 8]) (.refund 0 2 8) ∧
      (sample.tally.entry 2).state = .started ∧ 8 ≤ (sample.tally.entry 2).sold) ∧
    ((withRecord [2, 0, 3, 40]).readsRecord (queuedOf [2, 0, 3, 40]) (.refund 0 3 40) ∧
      (sample.tally.entry 3).state = .closed ∧ 40 ≤ (sample.tally.entry 3).sold) ∧
    ((withRecord [4, 0, 3, 4]).readsRecord (queuedOf [4, 0, 3, 4]) (.unblock 0 3 4) ∧
      4 ≤ (sample.tally.entry 3).blocked) := by
  refine ⟨by decide +kernel, ⟨reads_of (by decide +kernel), by decide +kernel⟩,
    ⟨reads_of (by decide +kernel), by decide +kernel⟩,
    ⟨reads_of (by decide +kernel), by decide +kernel⟩,
    ⟨reads_of (by decide +kernel), by decide +kernel⟩,
    ⟨reads_of (by decide +kernel), by decide +kernel⟩, reads_of (by decide +kernel),
    by decide +kernel⟩

/-- A hold of 64 seats under the pair (63, 65535); holds of two pairs confirmed and released; a pair in
the expired-hold list and one in neither list. -/
theorem witness_HoldRecordsApply : TallyInv sample.tally ∧
    ((withRecord [5, 63, 255, 255, 0, 64, 5, 0]).readsRecord (queuedOf [5, 63, 255, 255, 0, 64, 5, 0])
        (.hold 63 65535 0 64 5) ∧ (sample.tally.entry 0).state = .listed ∧
      (∀ h, h ∈ sample.tally.holds → h.pair ≠ (63, 65535)) ∧ sample.tally.holds.length < 256 ∧
      (sample.tally.entry 0).sold + (sample.tally.entry 0).held + (sample.tally.entry 0).blocked +
        64 ≤ (sample.tally.entry 0).capacity) ∧
    ((withRecord [6, 1, 7]).readsRecord (queuedOf [6, 1, 7]) (.confirm 1 7) ∧
      ∃ h, h ∈ sample.tally.holds ∧ h.pair = (1, 7)) ∧
    ((withRecord [7, 2, 7]).readsRecord (queuedOf [7, 2, 7]) (.release 2 7) ∧
      ∃ h, h ∈ sample.tally.holds ∧ h.pair = (2, 7)) ∧
    ((withRecord [6, 3, 9]).readsRecord (queuedOf [6, 3, 9]) (.confirm 3 9) ∧
      (∀ h, h ∈ sample.tally.holds → h.pair ≠ (3, 9)) ∧ (3, 9) ∈ sample.tally.expired) ∧
    ((withRecord [7, 63, 2]).readsRecord (queuedOf [7, 63, 2]) (.release 63 2) ∧
      (∀ h, h ∈ sample.tally.holds → h.pair ≠ (63, 2)) ∧ (63, 2) ∉ sample.tally.expired) :=
  ⟨tallySample_sound, ⟨reads_of (by decide +kernel), by decide +kernel⟩,
    ⟨reads_of (by decide +kernel), _, .head _, rfl⟩,
    ⟨reads_of (by decide +kernel), _, .tail _ (.head _), rfl⟩,
    ⟨reads_of (by decide +kernel), by decide +kernel⟩, reads_of (by decide +kernel),
    by decide +kernel⟩

/-- Shows defined at both ends of the ranges; an amendment that keeps the capacity and one to the seats
in use; delays of 0 and of 255 minutes; a STARTED show cancelled; CLOSED, CANCELLED and untouched
LISTED shows removed. -/
theorem witness_ShowRecordsApply : TallyInv sample.tally ∧
    (Reads [8, 0, 7, 24, 111, 8, 160, 15, 65] (.showDefine 7 24 2159 4000 (padTo 24 (bytes [65]))) ∧
      Reads [8, 0, 7, 1, 0, 0, 1, 0] (.showDefine 7 1 0 1 (padTo 24 [])) ∧
      (sample.tally.entry 7).state = .empty) ∧
    (Reads [9, 0, 0, 0, 0, 66] (.showAmend 0 0 (padTo 24 (bytes [66]))) ∧
      Reads [9, 0, 0, 107, 0] (.showAmend 0 107 (padTo 24 [])) ∧
      (sample.tally.entry 0).sold + (sample.tally.entry 0).held + (sample.tally.entry 0).blocked =
        107) ∧
    (Reads [10, 0, 0, 0] (.showDelay 0 0) ∧ (sample.tally.entry 0).state = .listed ∧
      (sample.tally.entry 0).delay = 0 ∧ Reads [10, 0, 1, 255] (.showDelay 1 255) ∧
      (sample.tally.entry 1).state = .boarding ∧ Reads [10, 0, 127, 0] (.showDelay 127 0) ∧
      0 < (sample.tally.entry 127).delay) ∧
    (Reads [11, 0, 6] (.showCancel 6) ∧ (sample.tally.entry 6).state = .started) ∧
    (Reads [12, 0, 3] (.showRemove 3) ∧ (sample.tally.entry 3).state = .closed ∧
      Reads [12, 0, 4] (.showRemove 4) ∧ (sample.tally.entry 4).state = .cancelled ∧
      Reads [12, 0, 127] (.showRemove 127) ∧ (sample.tally.entry 127).sold = 0 ∧
      (sample.tally.entry 127).held = 0 ∧ (sample.tally.entry 127).blocked = 0) :=
  ⟨tallySample_sound, by decide +kernel⟩

/-- The bytes of a NOTICE_POST by desk 63 at an ID, on every screen, in a mode. -/
def postBytes (notice mode : Nat) : List Nat :=
  [13, 63, notice, 7, 255, 255, mode, 120, 0, 20, 0, 40, 0, 3, 0, 72, 73]

/-- The fields of that record. -/
def postOf (notice mode : Nat) : PostParams :=
  { desk := 63, notice := notice, priority := 7, screens := 65535, timing := timingOfMode mode,
    text := padTo 40 (bytes [72, 73]) }

/-- Every mode with its fields beyond both ends, an end action and a mode past the last; a text with a
zero byte, one that fills its field, and bytes beside 32..126. -/
theorem witness_NoticeRecordsApply_tables :
    (timingOf (timingOfMode 0) = some .steady ∧
      timingOf { timingOfMode 1 with lifetime := 4 } = some (.timed 5) ∧
      timingOf { timingOfMode 1 with lifetime := 3601 } = some (.timed 3600) ∧
      timingOf { mode := 2, lifetime := 0, dwell := 0, gap := 601, repeats := 21, endAction := 1 } =
        some (.cycle 1 600 20 true) ∧
      timingOf (timingOfMode 3) = none ∧
      timingOf { timingOfMode 2 with endAction := 2 } = none) ∧
    (0#8 ∉ [65#8] ∧ takeText 1 ([65#8] ++ 0#8 :: [66#8]) = [65] ∧
      0#8 ∉ [65#8, 66#8, 0#8].take 2 ∧ takeText 2 [65, 66, 0] = [65, 66] ∧
      takeText 4 [31, 32, 126, 127] = [63, 32, 126, 63]) := by decide

/-- A post at the ID of a notice that a trigger raised, in each mode, and at a free ID; the notice of
another trigger withdrawn. -/
theorem witness_NoticeRecordsApply : NoticeInv sample.notice ∧
    (∀ n mode, n ∈ [1, 62] → mode ∈ [0, 1, 2] →
      (withRecord (postBytes n mode)).readsRecord (queuedOf (postBytes n mode))
        (.noticePost (postOf n mode)) ∧ (timingOf (postOf n mode).timing).isSome = true) ∧
    ((withRecord [14, 0, 7]).readsRecord (queuedOf [14, 0, 7]) (.noticeWithdraw 0 7) ∧
      ∃ x : Notice, sample.notice.at? 7 = some x ∧ x.source = .trigger 1) := by
  refine ⟨noticeSample_sound, ?_, reads_of (by decide +kernel), _, rfl, rfl⟩
  have h : ∀ n, n ∈ [1, 62] → ∀ mode, mode ∈ [0, 1, 2] →
      Reads (postBytes n mode) (.noticePost (postOf n mode)) ∧
        (timingOf (postOf n mode).timing).isSome = true := by decide +kernel
  exact fun n mode hn hm => ⟨reads_of (h n hn mode hm).1, (h n hn mode hm).2⟩

/-- Seat and show records refused: the fields at the first value past their range, and shows in the
states that refuse. -/
theorem witness_RefusedRecordsChangeNothing : sample.path.resetHeld = false ∧
    sample.intake.verdicts.length < 16 ∧ onesSum (List.replicate 58 0) 29 ≠ 65535 ∧
    (∀ k, k ∈ [0, 15] → onesSum (recordData [k]) 29 = 65535 ∧ byteAt (recordData [k]) 0 = k) ∧
    (Reads [1, 0, 128, 1] (.sale 0 128 1) ∧ Reads [2, 64, 0, 1] (.refund 64 0 1)) ∧
    (Reads [1, 0, 0, 0] (.sale 0 0 0) ∧ Reads [1, 0, 0, 65] (.sale 0 0 65)) ∧
    (Reads [1, 0, 7, 1] (.sale 0 7 1) ∧ (sample.tally.entry 7).state = .empty) ∧
    (Reads [3, 0, 3, 1] (.block 0 3 1) ∧ (sample.tally.entry 3).state = .closed ∧
      Reads [1, 0, 4, 1] (.sale 0 4 1) ∧ (sample.tally.entry 4).state = .cancelled) ∧
    (Reads [1, 0, 2, 1] (.sale 0 2 1) ∧ (sample.tally.entry 2).state = .started ∧
      (sample.tally.entry 2).capacity < (sample.tally.entry 2).sold +
        (sample.tally.entry 2).held + (sample.tally.entry 2).blocked + 1) ∧
    (Reads [2, 0, 2, 9] (.refund 0 2 9) ∧ (sample.tally.entry 2).sold < 9) ∧
    (Reads [4, 0, 3, 5] (.unblock 0 3 5) ∧ (sample.tally.entry 3).blocked < 5) ∧
    (Reads [8, 0, 0, 1, 0, 0, 1, 0] (.showDefine 0 1 0 1 (padTo 24 [])) ∧
      (sample.tally.entry 0).state ≠ .empty) ∧
    (Reads [8, 0, 7, 25, 0, 0, 1, 0] (.showDefine 7 25 0 1 (padTo 24 [])) ∧
      Reads [8, 0, 7, 1, 112, 8, 1, 0] (.showDefine 7 1 2160 1 (padTo 24 []))) ∧
    (Reads [11, 0, 7] (.showCancel 7) ∧ Reads [11, 0, 3] (.showCancel 3) ∧
      Reads [11, 0, 4] (.showCancel 4) ∧ Reads [11, 0, 128] (.showCancel 128)) := by decide +kernel

/-- The part with 256 other holds. -/
def holdsFullSample : State :=
  { sample with tally := { tallySample with
      holds := (List.range 256).map (fun k =>
        { desk := 0, holdId := k + 1, showNo := 127, n := 1, expiry := 900 }) } }

/-- A hold of each refusal; a CONFIRM and a RELEASE with a field out of range and of a pair that stands
nowhere. -/
theorem witness_RefusedRecordsChangeNothing_holds :
    (Reads [5, 0, 1, 0, 128, 1] (.hold 0 1 128 1 0) ∧ Reads [5, 64, 1, 0, 0, 1] (.hold 64 1 0 1 0) ∧
      Reads [5, 63, 0, 0, 0, 1] (.hold 63 0 0 1 0)) ∧
    (Reads [5, 63, 1, 0, 0, 0] (.hold 63 1 0 0 0) ∧ Reads [5, 63, 1, 0, 0, 65] (.hold 63 1 0 65 0)) ∧
    (Reads [5, 63, 1, 0, 7, 1] (.hold 63 1 7 1 0) ∧ (sample.tally.entry 7).state = .empty) ∧
    (Reads [5, 63, 1, 0, 3, 1] (.hold 63 1 3 1 0) ∧ (sample.tally.entry 3).state = .closed ∧
      Reads [5, 63, 1, 0, 4, 1] (.hold 63 1 4 1 0) ∧ (sample.tally.entry 4).state = .cancelled) ∧
    ((∀ h, h ∈ holdsFullSample.tally.holds → h.pair ≠ (63, 1)) ∧
      256 ≤ holdsFullSample.tally.holds.length ∧
      (holdsFullSample.tally.entry 0).state = .listed) ∧
    (Reads [5, 63, 1, 0, 2, 1] (.hold 63 1 2 1 0) ∧ (sample.tally.entry 2).state = .started ∧
      (∀ h, h ∈ sample.tally.holds → h.pair ≠ (63, 1)) ∧ sample.tally.holds.length < 256 ∧
      (sample.tally.entry 2).capacity < (sample.tally.entry 2).sold +
        (sample.tally.entry 2).held + (sample.tally.entry 2).blocked + 1) ∧
    (Reads [6, 64, 1] (.confirm 64 1) ∧ Reads [7, 63, 0] (.release 63 0)) ∧
    (Reads [6, 63, 1] (.confirm 63 1) ∧ Reads [7, 63, 1] (.release 63 1) ∧
      (63, 1) ∈ sample.tally.expired ∧ (63, 2) ∉ sample.tally.expired ∧
      Reads [7, 63, 2] (.release 63 2) ∧ ∀ h, h ∈ sample.tally.holds → h.pair ≠ (63, 2)) ∧
    (Reads [5, 1, 7, 0, 0, 1] (.hold 1 7 0 1 0) ∧ (sample.tally.entry 0).state = .listed) ∧
    ∃ h, h ∈ sample.tally.holds ∧ h.pair = (1, 7) :=
  ⟨by decide +kernel, by decide +kernel, by decide +kernel, by decide +kernel, by decide +kernel,
    by decide +kernel, by decide +kernel, by decide +kernel, by decide +kernel, _, .head _, rfl⟩

/-- Each refusal of a show's definition, amendment, delay and removal, and of a notice record. -/
theorem witness_RefusedRecordsChangeNothing_shows :
    (Reads [8, 0, 128, 1, 0, 0, 1, 0] (.showDefine 128 1 0 1 (padTo 24 [])) ∧
      Reads [9, 0, 128, 0, 0] (.showAmend 128 0 (padTo 24 [])) ∧
      Reads [10, 0, 128, 1] (.showDelay 128 1) ∧ Reads [12, 0, 128] (.showRemove 128)) ∧
    (Reads [8, 0, 7, 0, 0, 0, 1, 0] (.showDefine 7 0 0 1 (padTo 24 [])) ∧
      Reads [8, 0, 7, 24, 0, 0, 0, 0] (.showDefine 7 24 0 0 (padTo 24 [])) ∧
      Reads [8, 0, 7, 24, 0, 0, 161, 15] (.showDefine 7 24 0 4001 (padTo 24 [])) ∧
      (sample.tally.entry 7).state = .empty) ∧
    (Reads [9, 0, 7, 1, 0] (.showAmend 7 1 (padTo 24 [])) ∧
      Reads [9, 0, 3, 1, 0] (.showAmend 3 1 (padTo 24 [])) ∧ (sample.tally.entry 3).state = .closed ∧
      Reads [9, 0, 0, 161, 15] (.showAmend 0 4001 (padTo 24 [])) ∧
      Reads [9, 0, 0, 106, 0] (.showAmend 0 106 (padTo 24 [])) ∧
      (sample.tally.entry 0).state = .listed ∧
      106 < (sample.tally.entry 0).sold + (sample.tally.entry 0).held +
        (sample.tally.entry 0).blocked) ∧
    (Reads [10, 0, 7, 5] (.showDelay 7 5) ∧ Reads [10, 0, 2, 5] (.showDelay 2 5) ∧
      (sample.tally.entry 2).state = .started) ∧
    (Reads [12, 0, 7] (.showRemove 7) ∧ Reads [12, 0, 1] (.showRemove 1) ∧
      (sample.tally.entry 1).state = .boarding ∧ Reads [12, 0, 0] (.showRemove 0) ∧
      (sample.tally.entry 0).state = .listed ∧ 0 < (sample.tally.entry 0).sold +
        (sample.tally.entry 0).held + (sample.tally.entry 0).blocked) ∧
    (Reads (postBytes 64 0) (.noticePost (postOf 64 0)) ∧
      Reads (postBytes 63 3) (.noticePost (postOf 63 3)) ∧
      Reads ((postBytes 63 2).set 14 2) (.noticePost { postOf 63 2 with
        timing := { timingOfMode 2 with endAction := 2 } })) ∧
    (Reads [14, 64, 0] (.noticeWithdraw 64 0) ∧ Reads [14, 0, 64] (.noticeWithdraw 0 64) ∧
      Reads [14, 63, 62] (.noticeWithdraw 63 62) ∧ sample.notice.at? 62 = none) := by
  decide +kernel

/-! #### The commands -/

theorem witness_ModeMaskAndCauses : sample.path.resetHeld = false ∧
    (∀ m : Mode, ∃ n, m.code = n) ∧ BitVec.ofNat 12 0x800 ≠ 0#12 ∧
    BitVec.ofNat 12 0xF000 = 0#12 := ⟨rfl, fun _ => ⟨_, rfl⟩, by decide, by decide⟩

/-- The attention output with a cause set and unmasked, the same cause masked, and another unmasked. -/
theorem test_attention : sample.attention = true ∧
    ∀ m, m ∈ [0x000#12, 0xFDE#12] →
      ({ sample with command := { sample.command with mask := m } } : State).attention = false := by
  decide +kernel

theorem witness_ClockAndTallyCommandsRecompute : sample.path.resetHeld = false ∧
    TallyInv sample.tally ∧ (2159 ≤ 2159 ∧ 59 ≤ 59 ∧ 1439 ≤ 1439) :=
  ⟨rfl, tallySample_sound, by decide⟩

/-- Ranges with no address in common. -/
theorem apart_of {r : Span} {l : List Span}
    (h : ∀ o, o ∈ l → r.base + r.size ≤ o.base ∨ o.base + o.size ≤ r.base) : apart r l := by
  intro o ho a ⟨h1, h2⟩
  simp only [Span.holds, Bool.and_eq_true] at h1 h2
  have a1 := of_decide_eq_true h1.1
  have a2 := of_decide_eq_true h1.2
  have b1 := of_decide_eq_true h2.1
  have b2 := of_decide_eq_true h2.2
  rcases h o ho with h | h <;> omega

/-- A window of eight lines just past the anchor page, and one of 1024 lines at the end of memory. -/
theorem witness_SetIntakeConfigures : passSample.path.resetHeld = false ∧
    passSample.path.mode = .pass ∧
    (∀ p, p ∈ [({ base := 0x2001000, length := 8, upper := 0, lower := 255, interval := 1 } :
          IntakeParams),
        { base := 1099511627776 - 65536, length := 1024, upper := 255, lower := 0, interval := 16 }] →
      p.base % 64 = 0 ∧ 8 ≤ p.length ∧ p.length ≤ 1024 ∧
      (p.interval = 1 ∨ p.interval = 4 ∨ p.interval = 8 ∨ p.interval = 16) ∧
      p.base + 64 * p.length ≤ 1099511627776 ∧
      apart { base := p.base, size := 64 * p.length } passSample.intakeObstacles) := by
  refine ⟨rfl, rfl, fun p hp => ?_⟩
  simp only [List.mem_cons, List.not_mem_nil, or_false] at hp
  rcases hp with rfl | rfl
  · exact ⟨by decide, by decide, by decide, by decide, by decide, apart_of (by decide +kernel)⟩
  · exact ⟨by decide, by decide, by decide, by decide, by decide, apart_of (by decide +kernel)⟩

/-- Words at both ends of their range; a segment whose text changes and one whose text does not. -/
theorem witness_WordsAndSegmentsAreSet : sample.path.resetHeld = false ∧
    [0, 63, 255, 0, 0, 255, 1].length = 7 ∧
    (∀ w, w ∈ [0, 63, 255, 0, 0, 255, 1] → w < 64 ∨ w = 255) ∧
    sample.notice.segmentText 0 = takeText 24 (bytes [79, 75]) ∧
    sample.notice.segmentText 63 ≠ takeText 24 (bytes [79]) := by decide +kernel

/-- The parameters of SET_VIEW for view 3. -/
def viewParamsOf (rows : Nat) : ViewParams :=
  { view := 3, filter := 0xFFFFFF, horizon := 65535, rows := rows, dwell := 0, linger := 255 }

theorem witness_SetViewConfigures : sample.path.resetHeld = false ∧
    sample.board.views[3]? = some BoardView.powerOn ∧
    ∀ rows, rows = 1 ∨ rows = 16 →
      1 ≤ (viewParamsOf rows).rows ∧ (viewParamsOf rows).rows ≤ 16 := by
  refine ⟨rfl, rfl, ?_⟩
  rintro rows (rfl | rfl) <;> decide

/-- What holds of every cell in use holds of the cells there are. -/
theorem cells_all {p : PatchUnit} {Q : Nat → Cell → Prop} (hl : p.cells.length = 256)
    (h : ∀ n, n < 256 → ∀ c, c ∈ p.cell n → Q n c) : ∀ n c, p.cell n = some c → Q n c := by
  intro n c hc
  by_cases hn : n < 256
  · exact h n hn c hc
  · exfalso
    unfold PatchUnit.cell at hc
    rw [List.getElem?_eq_none (by omega : p.cells.length ≤ n)] at hc
    cases hc

/-- The smallest surface, at the end of memory, in an UNSET entry. -/
theorem witness_SetSurfaceConfigures : ∃ (p : SurfaceParams) (f : Surface),
    passSample.path.resetHeld = false ∧ passSample.path.mode = .pass ∧ p.surface < 12 ∧
    passSample.patch.surfaces[p.surface]? = some f ∧ f.state = .unset ∧ p.base % 64 = 0 ∧
    p.width = 16 ∧ p.height = 16 ∧ p.stride % 64 = 0 ∧ p.width * 4 ≤ p.stride ∧ p.stride ≤ 65536 ∧
    p.scan = 15 ∧ p.base + p.stride * p.height = 1099511627776 ∧
    apart { base := p.base, size := p.stride * p.height } (passSample.surfaceObstacles p.surface) :=
  ⟨{ surface := 3, base := 1099511627776 - 1024, stride := 64, width := 16, height := 16,
      scan := 15, plate := grey }, Surface.vacant, rfl, rfl, by decide, rfl, rfl, by decide, rfl, rfl,
    by decide, by decide, by decide, rfl, by decide, apart_of (by decide +kernel)⟩

/-- The largest surface, replacing one that has cells and panes. -/
theorem witness_SetSurfaceConfigures_replaced : ∃ (p : SurfaceParams) (f : Surface),
    p.surface = 1 ∧ passSample.patch.surfaces[p.surface]? = some f ∧ f.state = .idle ∧
    p.width = 3840 ∧ p.height = 2160 ∧ p.stride = 65536 ∧
    p.base + p.stride * p.height ≤ 1099511627776 ∧
    apart { base := p.base, size := p.stride * p.height } (passSample.surfaceObstacles p.surface) ∧
    (∀ n c, passSample.patch.cell n = some c → c.config.surface = p.surface →
      c.config.x + c.config.chars * 16 * c.config.scale ≤ p.width ∧
      c.config.y + 24 * c.config.scale ≤ p.height) ∧
    (∀ j g, (passSample.pane.pane j).settings = some g → g.surface = p.surface →
      g.px + g.pw ≤ p.width ∧ g.py + g.ph ≤ p.height) :=
  ⟨{ surface := 1, base := 0x60000000, stride := 65536, width := 3840, height := 2160, scan := 0,
      plate := grey }, surfaceOf .idle 0x12000000 2 0 none, rfl, rfl, rfl, rfl, rfl, rfl, by decide,
    apart_of (by decide +kernel),
    cells_all (Q := fun _ c => c.config.surface = 1 →
      c.config.x + c.config.chars * 16 * c.config.scale ≤ 3840 ∧
        c.config.y + 24 * c.config.scale ≤ 2160) (by decide +kernel) (by decide +kernel),
    panes_all (Q := fun _ g => g.surface = 1 → g.px + g.pw ≤ 3840 ∧ g.py + g.ph ≤ 2160)
      (by decide +kernel) (by decide +kernel)⟩

/-- SET_CELL parameters that fill a row of a surface at its lower edge. -/
def cellParams (surface : Nat) : CellParams :=
  { cell := 255, surface := surface, x := 0, y := 1008, chars := 40, scale := 3, layer := 7,
    glyphSet := 1, just := 2, fg := grey, plate := grey, alpha := 255, fullScreen := 1,
    twelveHour := 1, kind := 2, param1 := 3, param2 := 15, param3 := 5 }

/-- An IDLE and an ACTIVE surface; the cell replaced lies on surface 11, IDLE. -/
theorem witness_CellCommandsSetAndClear : sample.path.resetHeld = false ∧
    sample.patch.cells.length = 256 ∧
    (∀ k, k = 0 ∨ k = 1 → (cellParams k).surface < 12 ∧
      (sample.patch.surface (cellParams k).surface).state ≠ .unset ∧
      justOf (cellParams k).just = some .centre ∧
      sourceOf (cellParams k).kind (cellParams k).param1 (cellParams k).param2
        (cellParams k).param3 = some (.board 3 15 .status) ∧
      (cellParams k).x + (cellParams k).chars * 16 * (cellParams k).scale =
        (sample.patch.surface (cellParams k).surface).width ∧
      (cellParams k).y + 24 * (cellParams k).scale =
        (sample.patch.surface (cellParams k).surface).height) ∧
    (sample.patch.surface 1).state = .idle ∧
    (∃ old : Cell, sample.patch.cell 255 = some old ∧ old.config.surface = 11) ∧
    (sample.patch.surface 11).state = .idle ∧ sample.patch.cell 254 = none := by
  refine ⟨rfl, by decide +kernel, ?_, by decide +kernel, ⟨_, rfl, rfl⟩, by decide +kernel,
    by decide +kernel⟩
  rintro k (rfl | rfl) <;> decide +kernel

/-- A trigger whose notice stands and one whose does not; every item of a template at its end. -/
theorem witness_TriggerCommandsArmAndClear : sample.path.resetHeld = false ∧
    NoticeInv sample.notice ∧ (0 < 32 ∧ 31 < 32) ∧ sample.patch.fromNotice = [] ∧
    sample.pane.flagInbox = [] ∧ sample.patch.noticeText.length = 12 ∧
    sample.pane.flags.length = 12 ∧ sample.patch.surfaces.length = 12 ∧
    triggerKindOf 5 = some .cancelled ∧ (127 < 128 ∨ 127 = 255) ∧
    (timingOf (timingOfMode 2)).isSome = true ∧
    templateOf 6 [0, 64, 65, 66, 67, 68] = some [.segment 0, .field .auditorium, .field .start,
      .field .title, .field .seats, .field .delay] ∧
    (∀ k, TemplateItem.segment k ∈ [TemplateItem.segment 0, .field .auditorium, .field .start,
        .field .title, .field .seats, .field .delay] →
      ∃ g, sample.notice.segments[k]? = some g ∧ g.isDefined = true) := by
  refine ⟨rfl, noticeSample_sound, by decide, rfl, rfl, by decide +kernel, by decide +kernel,
    by decide +kernel, by decide, by decide, by decide, by decide +kernel, fun k hk => ?_⟩
  obtain rfl : k = 0 := by simpa using hk
  exact ⟨_, rfl, rfl⟩

/-- A pane of one line in the last corner of surface 11, its slots at the end of memory. -/
def cornerPane : PaneParams :=
  { plainPane with
    pane := 7, surface := 11, px := 1904, py := 1079, pw := 16, ph := 1, slotSize := 64,
    slotCount := 8, slotBase := 1099511627776 - 512, marker := 0x70000000, cue := 0x70000040,
    retryTime := 60, retryLimit := 0, starvation := 2 }

/-- Pane 1 set again, touching pane 2. -/
def againPane : PaneParams :=
  { plainPane with
    pw := 640, ph := 360, py := 8, slotBase := 0x21000000, slotSize := 921600, slotCount := 2,
    marker := 0x30001000, cue := 0x30001040, retryTime := 1, retryLimit := 10, starvation := 0 }

theorem passSample_panes : passSample.pane.panes[againPane.pane]? = some pane1 ∧
    passSample.pane.panes[cornerPane.pane]? = some Pane.vacant := by decide +kernel

theorem witness_SetPaneConfigures : passSample.path.resetHeld = false ∧
    passSample.path.mode = .pass ∧
    (∀ p, p = cornerPane ∨ p = againPane → ∃ (w : Pane) (st : Starvation), p.pane < 8 ∧
      passSample.pane.panes[p.pane]? = some w ∧ p.surface < 12 ∧
      (passSample.patch.surface p.surface).state ≠ .unset ∧ p.px % 16 = 0 ∧ p.pw % 16 = 0 ∧
      16 ≤ p.pw ∧ 1 ≤ p.ph ∧ p.px + p.pw ≤ (passSample.patch.surface p.surface).width ∧
      p.py + p.ph ≤ (passSample.patch.surface p.surface).height ∧
      (∀ j g, (passSample.pane.pane j).settings = some g → j ≠ p.pane → g.surface = p.surface →
        p.px + p.pw ≤ g.px ∨ g.px + g.pw ≤ p.px ∨ p.py + p.ph ≤ g.py ∨ g.py + g.ph ≤ p.py) ∧
      p.slotBase % 64 = 0 ∧ p.slotSize % 64 = 0 ∧ p.pw * p.ph * 4 ≤ p.slotSize ∧
      2 ≤ p.slotCount ∧ p.slotCount ≤ 8 ∧
      p.slotBase + p.slotCount * p.slotSize ≤ 1099511627776 ∧
      apart (slotSpanOf p)
        (passSample.fixedSpans ++ paneSpans (passSample.pane.configuredBut p.pane)) ∧
      (∀ a, a = p.marker ∨ a = p.cue → a % 64 = 0 ∧ apart { base := a, size := 64 }
        (slotSpanOf p :: passSample.fixedSpans ++
          paneSpans (passSample.pane.configuredBut p.pane))) ∧
      p.marker ≠ p.cue ∧ starvationOf p.starvation = some st ∧
      p.retryTime ∈ [1, 2, 5, 10, 30, 60] ∧ p.retryLimit ∈ [0, 1, 2, 3, 5, 10]) := by
  refine ⟨rfl, rfl, ?_⟩
  rintro p (rfl | rfl)
  · refine ⟨Pane.vacant, _, by decide, passSample_panes.2, by decide, by decide +kernel, by decide, by decide, by decide,
      by decide, by decide +kernel, by decide +kernel, ?_, by decide, by decide, by decide, by decide,
      by decide, by decide, apart_of (by decide +kernel), ?_, by decide, rfl, by decide, by decide⟩
    · exact panes_all (Q := fun j g => j ≠ cornerPane.pane → g.surface = cornerPane.surface → _)
        (by decide +kernel) (by decide +kernel)
    · rintro a (rfl | rfl) <;> exact ⟨by decide, apart_of (by decide +kernel)⟩
  · refine ⟨pane1, _, by decide, passSample_panes.1, by decide, by decide +kernel, by decide,
      by decide, by decide, by decide, by decide +kernel, by decide +kernel, ?_, by decide, by decide, by decide, by decide,
      by decide, by decide, apart_of (by decide +kernel), ?_, by decide, rfl, by decide, by decide⟩
    · exact panes_all (Q := fun j g => j ≠ againPane.pane → g.surface = againPane.surface → _)
        (by decide +kernel) (by decide +kernel)
    · rintro a (rfl | rfl) <;> exact ⟨by decide, apart_of (by decide +kernel)⟩

/-- A playlist entry as SET_PLAYLIST carries it, at the ends of its ranges. -/
def entryParams (showNo : Nat) : EntryParams :=
  { valid := 1, clip := 65535, showNo := showNo, repeats := 255, flags := 31 }

/-- The last eight entries of an ACTIVE playlist whose cue entry is 0, and entry 0 of an IDLE one. -/
theorem witness_SetPlaylistReplacesEntries : sample.path.resetHeld = false ∧
    (∃ w : Pane, sample.pane.panes[0]? = some w ∧ w.playlist.entries.length = 16 ∧ 8 + 8 ≤ 16 ∧
      (List.replicate 8 (entryParams 255)).length = 8 ∧
      (∀ e, e ∈ List.replicate 8 (entryParams 255) →
        (e.showNo < 128 ∨ e.showNo = 255) ∧ e.valid ≤ 1 ∧ e.flags < 32) ∧
      ∀ c, w.playlist.cueEntry = some c → c < 8 ∨ 8 + 8 ≤ c) ∧
    (∃ w : Pane, sample.pane.panes[7]? = some w ∧ w.playlist.entries.length = 16 ∧
      w.playlist.state ≠ .active ∧
      ∀ e, e ∈ [entryParams 127] → (e.showNo < 128 ∨ e.showNo = 255) ∧ e.valid ≤ 1 ∧ e.flags < 32) := by
  refine ⟨rfl, ⟨pane0, sample_panes.1, by decide +kernel, by decide, by decide, by decide,
    fun c hc => ?_⟩, Pane.vacant, sample_panes.2.2.2, by decide +kernel, by decide, by decide⟩
  obtain rfl : 0 = c := Option.some.inj hc
  decide

/-- Panes SHOWING, in fallback with a displayed frame and without one, and DARK; playlists ACTIVE,
SUSPENDED and IDLE. -/
theorem witness_PlayCommandsActOnThePane : sample.path.resetHeld = false ∧
    (∃ (p : Pane) (g : PaneSettings), sample.pane.panes[0]? = some p ∧ p.settings = some g ∧ p.display = .showing ∧
      p.playlist.state = .active ∧ (p.playlist.entry 15).valid = true) ∧
    (∃ (p : Pane) (g : PaneSettings), sample.pane.panes[1]? = some p ∧ p.settings = some g ∧ p.display = .fallbackWait ∧
      p.displayed ≠ none ∧ p.playlist.state ≠ .active ∧ (p.playlist.entry 15).valid = true) ∧
    (∃ (p : Pane) (g : PaneSettings), sample.pane.panes[2]? = some p ∧ p.settings = some g ∧ p.display = .dark ∧
      (p.playlist.entry 0).valid = true) :=
  ⟨rfl, ⟨pane0, _, sample_panes.1, rfl, rfl, rfl, by decide +kernel⟩,
    ⟨pane1, _, sample_panes.2.1, rfl, rfl, by decide, by decide, by decide +kernel⟩,
    pane2, _, sample_panes.2.2.1, rfl, rfl, by decide +kernel⟩

/-- A pane in fallback with no displayed frame. -/
def latchedPane : Pane :=
  { Pane.vacant with
    settings := some (paneOf 11 16 0 0), display := .fallbackLatched, playlist := playlistSample }

/-- A pane in fallback whose displayed frame ended its pass. -/
theorem witness_PlayCommandsActOnThePane_empty : ∃ (s : State) (p : Pane) (g : PaneSettings),
    s.path.resetHeld = false ∧ s.pane.panes[3]? = some p ∧ p.settings = some g ∧
    p.display = .fallbackLatched ∧ p.displayed = none ∧ (p.playlist.entry 0).valid = true :=
  ⟨{ sample with pane := { paneSample with
      panes := paneSample.panes.set 3 latchedPane } }, latchedPane, _, rfl, by decide +kernel, rfl, rfl,
    rfl, by decide +kernel⟩

/-- A playlist SUSPENDED with a successor that sixteen skips come back to. -/
def skippingList : Playlist :=
  { playlistSample with
    state := .suspended, cueEntry := none, pass := 0, successor := some 4,
    entries := entriesSample.set 0
      { PlayEntry.clear with valid := true, showNo := some 4, loops := true } }

/-- Playlists that are ACTIVE, and SUSPENDED before a skipped entry with a valid one behind it, before
the end, before an entry that is not valid, and before skips that never end. -/
theorem witness_PlayResumeReleasesASuspension : sample.path.resetHeld = false ∧
    (∃ (p : Pane) (g : PaneSettings), sample.pane.panes[0]? = some p ∧ p.settings = some g ∧ p.playlist.state = .active) ∧
    (∃ (p : Pane) (g : PaneSettings), sample.pane.panes[1]? = some p ∧ p.settings = some g ∧ p.playlist.state = .suspended ∧
      p.playlist.successor = some 2 ∧ p.playlist.reaches sample.tally 2 3) ∧
    (∀ a, a = 16 ∨ a = 5 →
      ({ skippingList with successor := some a } : Playlist).reaches sample.tally a a ∧
        (16 ≤ a ∨ (skippingList.entry a).valid = false)) ∧
    skippingList.reachesBy sample.tally 16 4 0 := by
  refine ⟨rfl, ⟨pane0, _, sample_panes.1, rfl, rfl⟩,
    ⟨pane1, _, sample_panes.2.1, rfl, rfl, rfl, 1, by decide, ?_⟩, ?_, ?_⟩
  · exact ⟨by decide, by decide +kernel, ⟨2, by decide +kernel, .inr (.inr (.inl (by decide +kernel)))⟩,
      rfl⟩
  · rintro a (rfl | rfl)
    · exact ⟨⟨0, by decide, rfl⟩, by decide⟩
    · exact ⟨⟨0, by decide, rfl⟩, by decide +kernel⟩
  · have h0 : ∀ n, skippingList.reachesBy sample.tally n 0 0 := by
      intro n
      induction n with
      | zero => rfl
      | succ n ih => exact ⟨by decide, by decide +kernel,
          ⟨4, by decide +kernel, .inr (.inl (by decide +kernel))⟩, ih⟩
    exact ⟨by decide, by decide +kernel,
      ⟨4, by decide +kernel, .inr (.inl (by decide +kernel))⟩, h0 15⟩

/-- The last entry of each kind, and the bounds of the copies. -/
theorem witness_InspectCopies : sample.path.resetHeld = false ∧
    (127 < 128 ∧ (sample.tally.entry 127).title.length ≤ 24) ∧
    (255 < 256 ∧ 63 < 64 ∧ 31 < 32 ∧ 7 < 8) ∧
    sample.board.views[0]? = some viewSample ∧ sample.board.views[3]? = some BoardView.powerOn ∧
    (∀ kind, kind < 7 → (inspectCopy sample kind 0).isSome = true) ∧
    (∀ p, p ∈ sample.pane.panes → p.queue.length ≤ 7 ∧ p.playlist.entries.length = 16 ∧
      p.outstanding.length = 8) ∧
    ∀ v, v ∈ sample.board.views → v.list.length ≤ 128 := by decide +kernel

/-- A copied list carries its length in one byte, and a timer's seconds take two (R181, log entry 10):
the sixteen entries of a playlist, the dwell timer and the list of a view. -/
theorem test_inspect_lists :
    ((ran (.inspect 0 6 0) sample).map (fun t => t.command.copyBytes.drop 9)) =
      some (bytes [1, 0, 5, 6, 2, 1, 5, 0]) ∧
    (playlistCopy playlistSample).take 6 = bytes [16, 1, 101, 0, 255, 2] := by decide +kernel

/-- The loader busy with reads outstanding, busy without, idle and draining; panes configured and
not; an ACTIVE and an IDLE surface. -/
theorem witness_WarmResetKeepsConfiguration : sample.path.resetHeld = false ∧
    (∃ l, sample.patch.loader = .busy l ∧ l.set < sample.patch.sets.length ∧ l.outstanding ≠ []) ∧
    ((withLoader (.busy (loadAt 0 []))).patch.loader = .busy (loadAt 0 []) ∧
      (loadAt 0 []).outstanding = [] ∧ (loadAt 0 []).set < sample.patch.sets.length) ∧
    (∀ l, (withLoader (.draining [])).patch.loader ≠ .busy l) ∧
    (∃ (p : Pane) (g : PaneSettings), sample.pane.panes[0]? = some p ∧ p.settings = some g) ∧
    (∃ p : Pane, sample.pane.panes[7]? = some p ∧ p.settings = none) ∧
    (sample.patch.surface 0).state ≠ .idle ∧ (sample.patch.surface 11).state = .idle :=
  ⟨rfl, ⟨_, rfl, by decide, by decide⟩, ⟨rfl, rfl, by decide⟩, (fun _ h => by cases h),
    ⟨pane0, _, sample_panes.1, rfl⟩, ⟨Pane.vacant, sample_panes.2.2.2, rfl⟩,
    by decide +kernel, by decide +kernel⟩

theorem witness_RefusedCommandsChangeNothing : commandCode (.setMode 1 2) = some 1 ∧
    commandCode (.inspect 1 0 140) = some 24 ∧ sample.path.resetHeld = false ∧
    sample.board.views.length = 4 := ⟨rfl, rfl, rfl, by decide⟩

/-- The code and status of the response a command leaves. -/
def statusOf (s : State) (c : Instr) : Option (Nat × Status) :=
  match exec c s with
  | .next t => some (t.command.response.code, t.command.response.status)
  | .fault _ => none
  | .refused _ => none

/-- An accepted SET_SURFACE, SET_TRIGGER and SET_CELL for the tests to spoil, and a notice's timing. -/
def plainSurface : SurfaceParams :=
  { surface := 3, base := 0x60000000, stride := 64, width := 16, height := 16, scan := 15,
    plate := grey }
/-- As `plainSurface`. -/
def plainTrigger : TriggerParams :=
  { trigger := 31, event := 5, filter := 255, notice := 63, priority := 7, screens := 65535,
    timing := timingOfMode 2, count := 6, items := [0, 64, 65, 66, 67, 68] }
/-- As `plainSurface`. -/
def plainWindow : IntakeParams :=
  { base := 0x60000000, length := 8, upper := 4, lower := 0, interval := 16 }

/-- Commands of the Path, Clock, Board, Intake, Notice and Command Units with one field just past its
range, and the status each is answered with in PASS mode. -/
def refusedSettings : List (Instr × Nat × Status) :=
  [(.setMode 9 2, 1, .param), (.setClock 9 2160 0, 3, .param), (.setClock 9 0 60, 3, .param),
    (.dayStart 9 2160 0, 4, .param), (.dayStart 9 0 1440, 4, .param),
    (.setWords 9 [0, 0, 0, 0, 0, 0, 64], 7, .param), (.setWords 9 [254], 7, .param),
    (.setView 9 { view := 4, filter := 0, horizon := 30, rows := 1, dwell := 5, linger := 0 }, 8,
      .param),
    (.setView 9 { view := 3, filter := 0, horizon := 30, rows := 0, dwell := 5, linger := 0 }, 8,
      .param),
    (.setView 9 { view := 3, filter := 0, horizon := 30, rows := 17, dwell := 5, linger := 0 }, 8,
      .param),
    (.setIntake 9 plainWindow, 5, .ok), (.setIntake 9 { plainWindow with base := 32 }, 5, .param),
    (.setIntake 9 { plainWindow with length := 7 }, 5, .param),
    (.setIntake 9 { plainWindow with length := 1025 }, 5, .param),
    (.setIntake 9 { plainWindow with interval := 2 }, 5, .param),
    (.setIntake 9 { plainWindow with base := 2 ^ 40 - 448 }, 5, .param),
    (.setIntake 9 { plainWindow with base := 0x2000FC0 }, 5, .param),
    (.setSegment 9 64 [], 13, .param), (.setTrigger 9 plainTrigger, 14, .ok),
    (.setTrigger 9 { plainTrigger with trigger := 32 }, 14, .param),
    (.setTrigger 9 { plainTrigger with event := 6 }, 14, .param),
    (.setTrigger 9 { plainTrigger with filter := 128 }, 14, .param),
    (.setTrigger 9 { plainTrigger with notice := 64 }, 14, .param),
    (.setTrigger 9 { plainTrigger with priority := 8 }, 14, .param),
    (.setTrigger 9 { plainTrigger with timing := timingOfMode 3 }, 14, .param),
    (.setTrigger 9 { plainTrigger with timing := { timingOfMode 2 with endAction := 2 } }, 14, .param),
    (.setTrigger 9 { plainTrigger with count := 0 }, 14, .param),
    (.setTrigger 9 { plainTrigger with count := 7 }, 14, .param),
    (.setTrigger 9 { plainTrigger with items := [69] }, 14, .param),
    (.setTrigger 9 { plainTrigger with items := [0, 63] }, 14, .param),
    (.clearTrigger 9 32, 15, .param), (.clearCauses 9 0xF000, 23, .param), (.inspect 9 7 0, 24, .param),
    (.inspect 9 0 128, 24, .param), (.inspect 9 1 256, 24, .param), (.inspect 9 2 64, 24, .param),
    (.inspect 9 3 32, 24, .param), (.inspect 9 4 256, 24, .param), (.inspect 9 5 8, 24, .param),
    (.inspect 9 6 4, 24, .param)]

/-- As `refusedSettings`, for the Patch Unit, whose loader is busy. -/
def refusedScreens : List (Instr × Nat × Status) :=
  [(.setSurface 9 plainSurface, 9, .ok), (.setSurface 9 { plainSurface with surface := 12 }, 9, .param),
    (.setSurface 9 { plainSurface with base := 32 }, 9, .param),
    (.setSurface 9 { plainSurface with width := 15 }, 9, .param),
    (.setSurface 9 { plainSurface with width := 3841, stride := 65536 }, 9, .param),
    (.setSurface 9 { plainSurface with height := 15 }, 9, .param),
    (.setSurface 9 { plainSurface with height := 2161 }, 9, .param),
    (.setSurface 9 { plainSurface with stride := 96 }, 9, .param),
    (.setSurface 9 { plainSurface with width := 17 }, 9, .param),
    (.setSurface 9 { plainSurface with stride := 65600 }, 9, .param),
    (.setSurface 9 { plainSurface with scan := 16 }, 9, .param),
    (.setSurface 9 { plainSurface with base := 2 ^ 40 - 960 }, 9, .param),
    (.setSurface 9 { plainSurface with base := 0x30000040 }, 9, .param),
    (.setSurface 9 { plainSurface with surface := 11, width := 1919, stride := 8192, height := 1080 }, 9,
      .param),
    (.setSurface 9 { plainSurface with surface := 1, width := 1920, stride := 8192, height := 367 }, 9,
      .param),
    (.setCell 9 (cellParams 1), 10, .ok), (.setCell 9 { cellParams 1 with cell := 256 }, 10, .param),
    (.setCell 9 (cellParams 12), 10, .param), (.setCell 9 (cellParams 3), 10, .param),
    (.setCell 9 { cellParams 1 with chars := 0 }, 10, .param),
    (.setCell 9 { cellParams 1 with chars := 41, scale := 1 }, 10, .param),
    (.setCell 9 { cellParams 1 with scale := 0 }, 10, .param),
    (.setCell 9 { cellParams 1 with scale := 5, chars := 1, y := 0 }, 10, .param),
    (.setCell 9 { cellParams 1 with layer := 8 }, 10, .param),
    (.setCell 9 { cellParams 1 with glyphSet := 2 }, 10, .param),
    (.setCell 9 { cellParams 1 with just := 3 }, 10, .param),
    (.setCell 9 { cellParams 1 with fullScreen := 2 }, 10, .param),
    (.setCell 9 { cellParams 1 with twelveHour := 2 }, 10, .param),
    (.setCell 9 { cellParams 1 with kind := 5 }, 10, .param),
    (.setCell 9 { cellParams 1 with kind := 0, param1 := 64 }, 10, .param),
    (.setCell 9 { cellParams 1 with kind := 1, param1 := 128, param2 := 5 }, 10, .param),
    (.setCell 9 { cellParams 1 with kind := 1, param2 := 6 }, 10, .param),
    (.setCell 9 { cellParams 1 with param1 := 4 }, 10, .param),
    (.setCell 9 { cellParams 1 with param2 := 16 }, 10, .param),
    (.setCell 9 { cellParams 1 with param3 := 6 }, 10, .param),
    (.setCell 9 { cellParams 1 with kind := 3, param1 := 12 }, 10, .param),
    (.setCell 9 { cellParams 1 with x := 1 }, 10, .param),
    (.setCell 9 { cellParams 1 with y := 1009 }, 10, .param), (.clearCell 9 256, 11, .param),
    (.loadGlyphs 9 2 64 0, 12, .param), (.loadGlyphs 9 1 32 0, 12, .param),
    (.loadGlyphs 9 1 (2 ^ 40 - 36800) 0, 12, .param), (.loadGlyphs 9 1 (2 ^ 40 - 36864) 0, 12, .busy)]

/-- As `refusedSettings`, for the Pane Unit: panes 0 to 2 are configured, with an ACTIVE, a SUSPENDED
and an IDLE playlist. -/
def refusedPanes : List (Instr × Nat × Status) :=
  [(.setPane 9 plainPane, 16, .ok), (.setPane 9 { plainPane with pane := 8 }, 16, .param),
    (.setPane 9 { plainPane with surface := 12 }, 16, .param),
    (.setPane 9 { plainPane with surface := 3 }, 16, .param),
    (.setPane 9 { plainPane with px := 8 }, 16, .param),
    (.setPane 9 { plainPane with pw := 24 }, 16, .param),
    (.setPane 9 { plainPane with pw := 0 }, 16, .param),
    (.setPane 9 { plainPane with ph := 0 }, 16, .param),
    (.setPane 9 { plainPane with px := 1904 }, 16, .param),
    (.setPane 9 { plainPane with py := 1061 }, 16, .param),
    (.setPane 9 { plainPane with px := 640 }, 16, .param),
    (.setPane 9 { plainPane with slotBase := 32 }, 16, .param),
    (.setPane 9 { plainPane with slotSize := 4128 }, 16, .param),
    (.setPane 9 { plainPane with slotSize := 2496 }, 16, .param),
    (.setPane 9 { plainPane with slotCount := 1 }, 16, .param),
    (.setPane 9 { plainPane with slotCount := 9 }, 16, .param),
    (.setPane 9 { plainPane with slotBase := 2 ^ 40 - 16320 }, 16, .param),
    (.setPane 9 { plainPane with slotBase := 0x2000FC0 }, 16, .param),
    (.setPane 9 { plainPane with marker := plainPane.cue }, 16, .param),
    (.setPane 9 { plainPane with marker := 32 }, 16, .param),
    (.setPane 9 { plainPane with marker := plainPane.slotBase }, 16, .param),
    (.setPane 9 { plainPane with cue := 0x30002000 }, 16, .param),
    (.setPane 9 { plainPane with starvation := 3 }, 16, .param),
    (.setPane 9 { plainPane with retryTime := 0 }, 16, .param),
    (.setPane 9 { plainPane with retryLimit := 4 }, 16, .param),
    (.setPlaylist 9 8 0 1 [entryParams 0], 17, .param), (.setPlaylist 9 0 0 0 [], 17, .param),
    (.setPlaylist 9 0 0 9 [], 17, .param), (.setPlaylist 9 0 9 8 [], 17, .param),
    (.setPlaylist 9 0 0 1 [entryParams 128], 17, .param),
    (.setPlaylist 9 0 0 1 [{ entryParams 0 with valid := 2 }], 17, .param),
    (.setPlaylist 9 0 0 1 [{ entryParams 0 with flags := 32 }], 17, .param),
    (.setPlaylist 9 0 0 1 [entryParams 0], 17, .busy), (.setPlaylist 9 0 1 1 [entryParams 0], 17, .ok),
    (.setPlaylist 9 1 0 1 [entryParams 0], 17, .ok), (.playStart 9 8 0 0, 18, .param),
    (.playStart 9 7 0 0, 18, .wrongState), (.playStart 9 2 16 0, 18, .param),
    (.playStart 9 2 5 0, 18, .param), (.playStart 9 2 0 2, 18, .param), (.playStart 9 2 0 1, 18, .ok),
    (.playResume 9 8, 19, .param), (.playResume 9 7, 19, .wrongState),
    (.playResume 9 2, 19, .wrongState), (.playResume 9 1, 19, .ok), (.playStop 9 8, 20, .param),
    (.playStop 9 7, 20, .wrongState), (.paneClear 9 8, 21, .param), (.paneClear 9 7, 21, .wrongState)]

theorem test_refusedSettings : ∀ x, x ∈ refusedSettings → statusOf passSample x.1 = some x.2 := by
  decide +kernel
theorem test_refusedScreens : ∀ x, x ∈ refusedScreens → statusOf passSample x.1 = some x.2 := by
  decide +kernel
theorem test_refusedPanes : ∀ x, x ∈ refusedPanes → statusOf passSample x.1 = some x.2 := by
  decide +kernel

/-- In ENABLED mode SET_INTAKE, SET_SURFACE and SET_PANE are refused, but for a surface or pane number
that is out of range first. -/
theorem test_refusedInEnabled : ∀ x, x ∈ [(Instr.setIntake 9 { plainWindow with base := 32 }, 5,
      Status.wrongState),
    (.setSurface 9 { plainSurface with base := 32 }, 9, .wrongState),
    (.setSurface 9 { plainSurface with surface := 12 }, 9, .param),
    (.setPane 9 { plainPane with ph := 0 }, 16, .wrongState),
    (.setPane 9 { plainPane with pane := 8 }, 16, .param)] →
    statusOf sample x.1 = some x.2 := by decide +kernel

/-- The tests that speak of other places: ranges that meet an obstacle, a cell and a pane that would be
stranded, a shared pixel, and a cue entry to be overwritten. -/
theorem witness_RefusedCommandsChangeNothing_places :
    ¬ apart { base := 0x2000FC0, size := 512 } passSample.intakeObstacles ∧
    ¬ apart { base := 0x30000040, size := 1024 } (passSample.surfaceObstacles 3) ∧
    (∃ n c, passSample.patch.cell n = some c ∧ c.config.surface = 11 ∧
      1919 < c.config.x + c.config.chars * 16 * c.config.scale) ∧
    (∃ j g, j < 8 ∧ (passSample.pane.pane j).settings = some g ∧ g.surface = 1 ∧
      367 < g.py + g.ph) ∧
    (∃ j g x y, j < 8 ∧ j ≠ plainPane.pane ∧ (passSample.pane.pane j).settings = some g ∧
      g.surface = plainPane.surface ∧ (640 ≤ x ∧ x < 640 + plainPane.pw) ∧
      (plainPane.py ≤ y ∧ y < plainPane.py + plainPane.ph) ∧ (g.px ≤ x ∧ x < g.px + g.pw) ∧
      g.py ≤ y ∧ y < g.py + g.ph) ∧
    ¬ apart { base := 0x2000FC0, size := 16384 }
      (passSample.fixedSpans ++ paneSpans (passSample.pane.configuredBut plainPane.pane)) ∧
    ¬ apart { base := 0x30002000, size := 64 } (slotSpanOf plainPane :: passSample.fixedSpans ++
      paneSpans (passSample.pane.configuredBut plainPane.pane)) ∧
    (passSample.pane.pane 0).playlist.state = .active ∧
    (passSample.pane.pane 0).playlist.cueEntry = some 0 :=
  ⟨(meetsAny_iff _ _).mp (by decide +kernel), (meetsAny_iff _ _).mp (by decide +kernel),
    ⟨255, _, rfl, rfl, by decide⟩, ⟨1, _, by decide, rfl, rfl, by decide⟩,
    ⟨2, _, 656, 8, by decide, by decide, rfl, rfl, by decide, by decide, by decide, by decide,
      by decide⟩, (meetsAny_iff _ _).mp (by decide +kernel),
    (meetsAny_iff _ _).mp (by decide +kernel), rfl, rfl⟩

/-- A step from the part in use answers a next state, so the premises of the safety statements are met
together. -/
theorem witness_StaySound_steps : ∃ t, step { sample with pending := [.processingStep] } = .next t :=
  whenRunning_completes processStep
    (State.withPending { sample with pending := [.processingStep] } [])

theorem witness_SoundAtReset : ∃ u : State, u = State.reset ∨
    ∃ straps s, exec (.resetRelease straps) s = .next u := ⟨State.reset, .inl rfl⟩

/-- Pixel (0, 0) of the picture is governed by cell 5, whose set is VALID; cell 10 is of the other
mode. The last pixel below the width and the first beyond it; a set that is not VALID. -/
theorem witness_BlendIsBetweenItsInputs : (255 ≤ 255 ∧ blend 255 0 127 = 128) ∧
    (List.replicate 64 (9 : Byte)).length = 64 ∧ pictureSample.ordered ∧
    pictureSample.governs 5 (recordOf 3 0 false) 0 0 ∧
    patchSample.inks pictureSample (recordOf 3 0 false) 0 0 200 ∧
    patchSample.inks pictureSample (recordOf 3 1 false) 0 0 0 ∧
    (∀ n e, (n, e) ∈ pictureSample.records → ¬ e.draws pictureSample.fullScreen 16 0) ∧
    (1904 + 15 < (patchSample.surface 0).width ∧ (patchSample.surface 0).width ≤ 1920 + 0) := by
  refine ⟨by decide, by decide, by unfold Picture.ordered; decide, ?_, ?_, ?_, ?_,
    by decide +kernel⟩
  · refine ⟨by decide, ⟨rfl, by decide, by decide, by decide, by decide⟩, fun m d hm hd => ?_⟩
    have h : ∀ x, x ∈ pictureSample.records → x.2.fullScreen = false →
        x.2.layer < 3 ∨ (x.2.layer = 3 ∧ 5 ≤ x.1) := by decide
    exact h (m, d) hm hd.1
  · exact ⟨fun _ _ => ⟨0, 0, 32, rfl, rfl, rfl, by decide +kernel⟩,
      fun h => absurd (by decide +kernel) h, fun _ h => absurd h (by decide),
      fun h => absurd rfl h⟩
  · exact ⟨fun h => absurd h (by decide +kernel), fun _ => rfl, fun _ _ => rfl, fun _ _ => rfl⟩
  · intro n e he hd
    have h : ∀ x, x ∈ pictureSample.records → x.2.x + x.2.chars * 16 * x.2.scale = 16 := by decide
    have h1 := h (n, e) he
    obtain ⟨-, -, h2, -⟩ := hd
    dsimp only at h1
    omega

/-- Numbers, times and seats at the ends of their ranges; shows in every state; words that name a
segment and none; a row within a view, one past its rows and one past its list. -/
theorem witness_TargetTextsAreFitted : (9999999999 < 10000000000 ∧ 1439 < 1440) ∧
    ((9 < 10 ^ 1 ∧ 10 ^ 1 ≤ 10) ∧ (999 < 10 ^ 3 ∧ 10 ^ 3 ≤ 1000 ∧ 2 ≤ 3)) ∧
    ([0, 1, 2, 3, 4, 7].map (fun n => (sample.tally.entry n).state) =
      [.listed, .boarding, .started, .closed, .cancelled, .empty]) ∧
    ((sample.tally.entry 127).delay = 240 ∧ (sample.tally.entry 0).delay = 0) ∧
    ((sample.tally.entry 2).band = .soldOut ∧ (sample.tally.entry 1).band = .almost ∧
      (sample.tally.entry 0).band = .plenty) ∧
    (sample.board.words.getD 0 none = some 0 ∧ sample.board.words.getD 2 none = none ∧
      sample.notice.segments[0]? = some { isDefined := true, text := [79, 75] }) ∧
    (sample.patch.viewPages[0]? = some { list := [6, 2, 1, 5, 0], page := 2, rows := 2 } ∧
      ([6, 2, 1, 5, 0] : List Nat)[2 * 2 + 0]? = some 0 ∧ 5 ≤ 2 * 2 + 1 ∧ 2 ≤ 2) := by
  decide +kernel

end Sys2Proof.Tests
end

namespace Sys2Proof.Machine

/-! ### The invariant of the Tally Unit, entry by entry -/

/-- The unit with other hold and expired-hold lists; its show table stays. -/
def TallyUnit.withLists (t : TallyUnit) (hs : List Hold) (ex : List (Nat × Nat)) : TallyUnit :=
  { t with holds := hs, expired := ex }

section
variable (t : TallyUnit) (hs : List Hold) (ex : List (Nat × Nat))

@[simp] theorem withLists_shows : (t.withLists hs ex).shows = t.shows := rfl
@[simp] theorem withLists_holds : (t.withLists hs ex).holds = hs := rfl
@[simp] theorem withLists_settings : (t.withLists hs ex).settings = t.settings := rfl
@[simp] theorem withLists_entry (m : Nat) : (t.withLists hs ex).entry m = t.entry m := rfl
@[simp] theorem withLists_put (n : Nat) (w : Show) :
    (t.withLists hs ex).put n w = (t.put n w).withLists hs ex := rfl

end

/-- An entry within the table, read where it was replaced. -/
theorem put_entry_self {t : TallyUnit} {n : Nat} (hn : n < t.shows.length) (w : Show) :
    (t.put n w).entry n = w := by simp [put_entry, hn]

/-- The part of `TallyInv` that speaks of one entry alone (R2, R3, R9). -/
structure ShowSound (g : TallySettings) (w : Show) : Prop where
  vacant : w.state = .empty → w = Show.vacant
  seats : w.sold + w.held + w.blocked ≤ w.capacity
  band : w.state ≠ .empty → w.band = bandOf g w
  cancelled : w.cancelMinute.isSome = (w.state == .cancelled)

/-- The part of `TallyInv` that speaks of the hold list alone (R23). -/
structure HoldsSound (l : List Hold) : Prop where
  numbers : ∀ h, h ∈ l → h.showNo < Config.shows
  counts : ∀ h, h ∈ l → 1 ≤ h.n
  pairs : (l.map Hold.pair).Nodup
  sorted : l.Pairwise (fun a b => a.expiry ≤ b.expiry)
  bounded : l.length ≤ Config.holds

theorem TallyInv.showSound {t : TallyUnit} (hi : TallyInv t) (m : Nat) :
    ShowSound t.settings (t.entry m) :=
  ⟨hi.vacant m, hi.seats m, hi.band m, hi.cancelled m⟩

theorem TallyInv.holdsSound {t : TallyUnit} (hi : TallyInv t) : HoldsSound t.holds :=
  ⟨hi.numbers, hi.counts, hi.pairs, hi.sorted, hi.holds_length⟩

/-- The Tally Unit is sound when its entries and its lists are, and each held field counts the
holds of its show. -/
theorem tallyInv_of_parts {t : TallyUnit} (hl : t.shows.length = Config.shows)
    (hs : ∀ m, ShowSound t.settings (t.entry m)) (hh : ∀ m, (t.entry m).held = heldBy m t.holds)
    (hc : ∀ h, h ∈ t.holds → (t.entry h.showNo).over = false) (hl' : HoldsSound t.holds)
    (he : t.expired.length ≤ Config.expired) : TallyInv t where
  shows_length := hl
  vacant m := (hs m).vacant
  seats m := (hs m).seats
  held := hh
  current := hc
  band m := (hs m).band
  cancelled m := (hs m).cancelled
  numbers := hl'.numbers
  counts := hl'.counts
  pairs := hl'.pairs
  sorted := hl'.sorted
  holds_length := hl'.bounded
  expired_length := he

/-- The EMPTY entry is sound. -/
theorem vacant_sound (g : TallySettings) : ShowSound g Show.vacant := by
  constructor <;> simp [Show.vacant]

/-- A hold list with some holds taken out is sound. -/
theorem HoldsSound.sublist {a b : List Hold} (h : HoldsSound b) (hs : a.Sublist b) :
    HoldsSound a where
  numbers x hx := h.numbers x (hs.subset hx)
  counts x hx := h.counts x (hs.subset hx)
  pairs := (hs.map Hold.pair).nodup h.pairs
  sorted := h.sorted.sublist hs
  bounded := hs.length_le.trans h.bounded

/-- A show that is EMPTY, CLOSED or CANCELLED has no holds (R24, R34). -/
theorem TallyInv.no_holds {t : TallyUnit} (hi : TallyInv t) {m : Nat}
    (h : (t.entry m).state = .empty ∨ (t.entry m).over = true) {x : Hold} (hx : x ∈ t.holds) :
    x.showNo ≠ m := by
  rintro rfl
  rcases h with h | h
  · have hle := le_heldBy hx
    rw [← hi.held, hi.vacant _ h] at hle
    have := hi.counts x hx
    simp [Show.vacant] at hle
    omega
  · simp [hi.current x hx] at h

/-- Such a show has no held seats. -/
theorem TallyInv.held_eq_zero {t : TallyUnit} (hi : TallyInv t) {m : Nat}
    (h : (t.entry m).state = .empty ∨ (t.entry m).over = true) : (t.entry m).held = 0 := by
  rw [hi.held, heldBy_eq_zero fun x hx => hi.no_holds h hx]

/-! ### One entry replaced -/

/-- A show with the band of R9. -/
def Show.rebanded (w : Show) (g : TallySettings) : Show := { w with band := bandOf g w }

/-- The band takes no part in computing a band. -/
@[simp] theorem bandOf_rebanded (g : TallySettings) (w : Show) :
    bandOf g (w.rebanded g) = bandOf g w := bandOf_congr g rfl rfl

/-- An entry replaced and its band recomputed (R9, R10). -/
theorem put_reband {t : TallyUnit} {n : Nat} (hn : n < t.shows.length) (w : Show) :
    (t.put n w).reband n =
      { unit := t.put n (w.rebanded t.settings),
        out := (bandEvents n w.band (bandOf t.settings w)).map BoardEvent.tally } := by
  have he : (t.put n w).entry n = w := put_entry_self hn w
  have hu : ((t.put n w).reband n).unit = t.put n (w.rebanded t.settings) := by
    rw [reband_unit, he, put_put]; rfl
  have ho : ((t.put n w).reband n).out =
      (bandEvents n w.band (bandOf t.settings w)).map BoardEvent.tally := by
    rw [reband_out, he]; rfl
  rw [← hu, ← ho]

/-- A show that is not EMPTY is sound once its band is recomputed. -/
theorem rebanded_sound {g : TallySettings} {w : Show} (he : w.state ≠ .empty)
    (hs : w.sold + w.held + w.blocked ≤ w.capacity)
    (hc : w.cancelMinute.isSome = (w.state == .cancelled)) : ShowSound g (w.rebanded g) where
  vacant h := absurd h he
  seats := hs
  band _ := (bandOf_rebanded g w).symm
  cancelled := hc

/-- The unit stays sound when one entry and the lists are replaced in step with one another. -/
theorem TallyInv.replace {t : TallyUnit} (hi : TallyInv t) {n : Nat} {w : Show}
    {hs : List Hold} {ex : List (Nat × Nat)} (hn : n < Config.shows) (hw : ShowSound t.settings w)
    (hheld : w.held = heldBy n hs) (hover : w.over = true → ∀ h, h ∈ hs → h.showNo ≠ n)
    (hrest : ∀ m, m ≠ n → heldBy m hs = heldBy m t.holds)
    (hold : ∀ h, h ∈ hs → h.showNo ≠ n → h ∈ t.holds) (hsound : HoldsSound hs)
    (hex : ex.length ≤ Config.expired) :
    TallyInv ((t.put n w).withLists hs ex) := by
  have hent : ∀ m, ((t.put n w).withLists hs ex).entry m = if m = n then w else t.entry m := by
    intro m
    rw [withLists_entry, put_entry, hi.shows_length]
    simp [hn]
  refine tallyInv_of_parts (by simpa using hi.shows_length) ?_ ?_ ?_ hsound hex
  · intro m
    rw [hent]
    split
    · exact hw
    · exact hi.showSound m
  · intro m
    rw [hent]
    split
    · next h => rw [h, hheld, withLists_holds]
    · next h => rw [hi.held, withLists_holds, hrest m h]
  · intro h hh
    rw [hent]
    split
    · next hm => exact Bool.eq_false_iff.mpr fun ho => hover ho h hh hm
    · next hm => exact hi.current h (hold h hh hm)

/-- The unit stays sound when one entry is replaced by a sound one with the same held seats. -/
theorem TallyInv.put {t : TallyUnit} (hi : TallyInv t) {n : Nat} {w : Show}
    (hn : n < Config.shows) (hw : ShowSound t.settings w) (hheld : w.held = (t.entry n).held)
    (hover : w.over = true → (t.entry n).state = .empty ∨ (t.entry n).over = true) :
    TallyInv (t.put n w) :=
  hi.replace (hs := t.holds) (ex := t.expired) hn hw (by rw [hheld, hi.held])
    (fun ho _ hx => hi.no_holds (hover ho) hx) (fun _ _ => rfl) (fun _ hx _ => hx) hi.holdsSound
    hi.expired_length

/-! ### Holds leaving a show -/

/-- The expired-hold list keeps its bound however many holds lapse (R25). -/
theorem lapsedInto_length {l : List (Nat × Nat)} (h : l.length ≤ Config.expired)
    (gone : List Hold) : (lapsedInto l gone).length ≤ Config.expired := by
  induction gone generalizing l with
  | nil => exact h
  | cons x rest ih => exact ih (appendExpired_length h x.pair)

/-- The seats of a show are those of its own holds. -/
theorem heldBy_own (m : Nat) (l : List Hold) :
    heldBy m (l.filter (fun h => h.showNo == m)) = heldBy m l := by
  have hsplit := heldBy_filter m l (fun h => h.showNo == m)
  rw [heldBy_eq_zero (l := l.filter (fun h => !(h.showNo == m)))
    (fun x hx => by simpa using (List.mem_filter.mp hx).2)] at hsplit
  exact hsplit

/-- Taking out the holds of one show leaves the seats of every other. -/
theorem heldBy_others {m n : Nat} (h : m ≠ n) (l : List Hold) :
    heldBy m (l.filter (fun x => x.showNo != n)) = heldBy m l := by
  have hsplit := heldBy_filter m l (fun x => x.showNo != n)
  rw [heldBy_eq_zero (l := l.filter (fun x => !(x.showNo != n)))
    (fun x hx => by
      have : x.showNo = n := by simpa using (List.mem_filter.mp hx).2
      omega)] at hsplit
  exact hsplit

/-- Every hold of a show removed: its held field is 0, its holds have left the list, and their
pairs have joined the expired-hold list in hold-list order (R34). -/
theorem releaseShow_eq {t : TallyUnit} {n : Nat} (hn : n < t.shows.length)
    (hheld : (t.entry n).held = heldBy n t.holds) :
    t.releaseShow n = (t.put n { t.entry n with held := 0 }).withLists
      (t.holds.filter (fun h => h.showNo != n))
      (lapsedInto t.expired (t.holds.filter (fun h => h.showNo == n))) := by
  change (t.withLists (t.holds.filter (fun h => h.showNo != n)) t.expired).lapseAll
    (t.holds.filter (fun h => h.showNo == n)) = _
  rw [lapseAll_frame]
  suffices h : ((t.withLists (t.holds.filter (fun h => h.showNo != n)) t.expired).lapseAll
      (t.holds.filter (fun h => h.showNo == n))).shows =
      (t.put n { t.entry n with held := 0 }).shows by rw [h]; rfl
  refine shows_ext (by rw [lapseAll_length]; simp) fun m => ?_
  rw [lapseAll_entry, put_entry, withLists_entry, withLists_shows]
  by_cases hm : m = n
  · subst hm
    simp [hn, heldBy_own, hheld]
  · have hz : heldBy m (t.holds.filter (fun h => h.showNo == n)) = 0 :=
      heldBy_eq_zero fun x hx => by
        have : x.showNo = n := by simpa using (List.mem_filter.mp hx).2
        omega
    simp [hm, hz]

end Sys2Proof.Machine

namespace Sys2Proof.Machine

/-! ### A show recomputed -/

/-- A recomputation neither makes nor ends a cancellation (R6). -/
theorem recomputed_eq_cancelled {g : TallySettings} {now : Nat} {w : Show} :
    recomputed g now w = .cancelled ↔ w.state = .cancelled := by
  have hl := timeState_live g now w.effective
  unfold recomputed
  cases w.state <;> simp <;> grind

/-- A recomputation neither fills nor empties an entry (R6). -/
theorem recomputed_eq_empty {g : TallySettings} {now : Nat} {w : Show} :
    recomputed g now w = .empty ↔ w.state = .empty := by
  have hl := timeState_live g now w.effective
  unfold recomputed
  cases w.state <;> simp <;> grind

/-- The state of a recomputed show is the recomputed state. -/
theorem recomputedShow_state (g : TallySettings) (now : Nat) (w : Show) :
    (recomputedShow g now w).state = recomputed g now w := by
  unfold recomputedShow
  split
  · next h => rw [h, recomputed_eq_empty.mpr h]
  · rfl

/-- A show that closes gives back its held seats, any other keeps them (R34). -/
theorem recomputedShow_held (g : TallySettings) (now : Nat) (w : Show) :
    (recomputedShow g now w).held = if recomputed g now w = .closed then 0 else w.held := by
  unfold recomputedShow
  split
  · next h => rw [if_neg (by rw [recomputed_eq_empty.mpr h]; simp)]
  · rfl

/-- A sound show is sound after its recomputation, whatever the settings were before. -/
theorem recomputedShow_sound {g g' : TallySettings} {now : Nat} {w : Show} (h : ShowSound g w) :
    ShowSound g' (recomputedShow g' now w) := by
  by_cases he : w.state = .empty
  · rw [h.vacant he]
    exact vacant_sound g'
  · unfold recomputedShow
    rw [if_neg he]
    refine rebanded_sound (by simpa [recomputed_eq_empty] using he) ?_ ?_
    · have := h.seats
      dsimp only
      split <;> omega
    · rw [h.cancelled, Bool.eq_iff_iff]
      simp [recomputed_eq_cancelled]

/-- A show that is over after a recomputation closed in it or was over before. -/
theorem recomputedShow_over {g : TallySettings} {now : Nat} {w : Show}
    (h : (recomputedShow g now w).over = true) :
    recomputed g now w = .closed ∨ w.over = true := by
  simp only [Show.over, recomputedShow_state, Bool.or_eq_true, beq_iff_eq,
    recomputed_eq_cancelled] at h ⊢
  tauto

/-- A sound unit is sound after all its shows are recomputed, whatever its settings become
(R4, R7, R22). -/
theorem TallyUnit.recomputesTo.sound {t u : TallyUnit} {g : TallySettings} {now : Nat}
    (h : t.recomputesTo u g now) (hi : TallyInv t) : TallyInv u := by
  obtain ⟨hlen, hent, hholds, hexp, hset, -⟩ := h
  refine tallyInv_of_parts hlen (fun m => ?_) (fun m => ?_) (fun x hx => ?_) ?_ ?_
  · rw [hent, hset]
    exact recomputedShow_sound (hi.showSound m)
  · rw [hent, recomputedShow_held, hholds, hi.held]
    unfold holdsKept
    split
    · next hc =>
      rw [heldBy_eq_zero fun x hx hm => by simpa [hm, hc] using (List.mem_filter.mp hx).2]
    · next hc =>
      have hsplit := heldBy_filter m t.holds
        (fun x => recomputed g now (t.entry x.showNo) != .closed)
      rw [heldBy_eq_zero (l := t.holds.filter
        (fun x => !(recomputed g now (t.entry x.showNo) != .closed))) fun x hx hm => hc (by
          simpa [hm] using (List.mem_filter.mp hx).2)] at hsplit
      exact hsplit.symm
  · rw [hholds, holdsKept, List.mem_filter] at hx
    rw [hent, Bool.eq_false_iff]
    intro ho
    rcases recomputedShow_over ho with hc | hc
    · simp [hc] at hx
    · simp [hi.current x hx.1] at hc
  · rw [hholds]
    exact hi.holdsSound.sublist List.filter_sublist
  · rw [hexp]
    exact lapsedInto_length hi.expired_length _

/-! ### One show visited -/

/-- A show that is CLOSED once more, or closes, leaves no hold of its own behind; where it was over
already it had none, so nothing changes (R34). -/
theorem TallyInv.filter_self {t : TallyUnit} (hi : TallyInv t) {m : Nat}
    (h : (t.entry m).over = true) :
    t.holds.filter (fun x => x.showNo != m) = t.holds ∧
      t.holds.filter (fun x => x.showNo == m) = [] := by
  constructor
  · exact List.filter_eq_self.mpr fun x hx => by simpa using hi.no_holds (.inr h) hx
  · exact List.filter_eq_nil_iff.mpr fun x hx => by simpa using hi.no_holds (.inr h) hx

/-- A show whose state stays is its own recomputation. -/
theorem TallyInv.recomputedShow_self {t : TallyUnit} (hi : TallyInv t) {now m : Nat}
    (h : recomputed t.settings now (t.entry m) = (t.entry m).state) :
    recomputedShow t.settings now (t.entry m) = t.entry m := by
  unfold recomputedShow
  split
  · rfl
  · next he =>
    have hz := (state_stays hi h).2
    have hb := hi.band m he
    rw [h] at hz
    simp only [h, hz]
    exact (congrArg (fun b => { t.entry m with band := b }) hb).symm

/-- The visit of a show of a sound unit: the show recomputed, where it closes its holds lapsed, and
its state and band events (R7, R8, R34). -/
theorem visitClock_eq {t : TallyUnit} (hi : TallyInv t) {now n : Nat} (hn : n < Config.shows) :
    t.visitClock now n =
      { unit := (t.put n (recomputedShow t.settings now (t.entry n))).withLists
          (if recomputed t.settings now (t.entry n) = .closed
            then t.holds.filter (fun h => h.showNo != n) else t.holds)
          (if recomputed t.settings now (t.entry n) = .closed
            then lapsedInto t.expired (t.holds.filter (fun h => h.showNo == n)) else t.expired),
        out := (recomputeEvents t.settings now n (t.entry n)).map BoardEvent.tally } := by
  have hlen : n < t.shows.length := by rw [hi.shows_length]; exact hn
  by_cases hstay : recomputed t.settings now (t.entry n) = (t.entry n).state
  · have hput : t.put n (t.entry n) = t := by
      simp only [TallyUnit.put, TallyUnit.entry, set_getD_self]
    have hself := hi.recomputedShow_self hstay
    have hout : recomputeEvents t.settings now n (t.entry n) = [] := by
      simp [recomputeEvents, hstay, hself, bandEvents]
    unfold TallyUnit.visitClock
    rw [if_pos hstay, hself, hput, hout]
    split
    · next hc =>
      obtain ⟨hkeep, hgone⟩ := hi.filter_self (m := n) (by simp [Show.over, ← hstay, hc])
      rw [hkeep, hgone]
      rfl
    · rfl
  · have hne : (t.entry n).state ≠ .empty := fun he =>
      hstay (by rw [he]; exact recomputed_eq_empty.mpr he)
    by_cases hc : recomputed t.settings now (t.entry n) = .closed
    · have hrel := releaseShow_eq (t := t.put n { t.entry n with state := .closed }) (n := n)
        (by simpa using hlen) (by rw [put_entry_self hlen]; exact hi.held n)
      rw [put_entry_self hlen] at hrel
      have hshow : recomputedShow t.settings now (t.entry n) =
          Show.rebanded { t.entry n with state := .closed, held := 0 } t.settings := by
        unfold recomputedShow
        rw [if_neg hne, hc]
        rfl
      have hout : recomputeEvents t.settings now n (t.entry n) =
          { showNo := n, kind := .closed } :: bandEvents n (t.entry n).band
            (bandOf t.settings { t.entry n with state := .closed, held := 0 }) := by
        unfold recomputeEvents
        rw [if_neg hstay, hc, hshow]
        rfl
      unfold TallyUnit.visitClock
      rw [if_neg hstay, if_pos hc, if_pos hc, if_pos hc, hrel, hshow, hout]
      dsimp only
      rw [put_put, ← withLists_put, put_reband (by simpa using hlen)]
      rfl
    · have hshow : recomputedShow t.settings now (t.entry n) =
          { t.entry n with state := recomputed t.settings now (t.entry n) } := by
        unfold recomputedShow
        rw [if_neg hne, if_neg hc]
        exact congrArg (fun b => { t.entry n with
          state := recomputed t.settings now (t.entry n), band := b })
          ((bandOf_congr _ rfl rfl).trans (hi.band n hne).symm)
      have hout : (recomputeEvents t.settings now n (t.entry n)).map BoardEvent.tally =
          eventList n (stateEvent (recomputed t.settings now (t.entry n))) := by
        unfold recomputeEvents
        rw [if_neg hstay, hshow]
        simp only [bandEvents, bandEvent_self]
        cases stateEvent (recomputed t.settings now (t.entry n)) <;> rfl
      unfold TallyUnit.visitClock
      rw [if_neg hstay, if_neg hc, if_neg hc, if_neg hc, hshow, hout]
      rfl

/-- The visit of a show keeps the unit sound. -/
theorem visitClock_sound {t : TallyUnit} (hi : TallyInv t) (now : Nat) {n : Nat}
    (hn : n < Config.shows) : TallyInv (t.visitClock now n).unit := by
  rw [visitClock_eq hi hn]
  by_cases hc : recomputed t.settings now (t.entry n) = .closed
  · simp only [if_pos hc]
    refine hi.replace hn (recomputedShow_sound (hi.showSound n)) ?_ ?_ ?_ ?_
      (hi.holdsSound.sublist List.filter_sublist) (lapsedInto_length hi.expired_length _)
    · rw [recomputedShow_held, if_pos hc, heldBy_eq_zero]
      intro x hx
      simpa using (List.mem_filter.mp hx).2
    · intro _ x hx
      simpa using (List.mem_filter.mp hx).2
    · exact fun m hm => heldBy_others hm _
    · exact fun x hx _ => (List.mem_filter.mp hx).1
  · simp only [if_neg hc]
    refine hi.put hn (recomputedShow_sound (hi.showSound n)) ?_ ?_
    · rw [recomputedShow_held, if_neg hc]
    · exact fun ho => .inr ((recomputedShow_over ho).resolve_left hc)

end Sys2Proof.Machine

namespace Sys2Proof.Machine

/-! ### Bands recomputed in turn -/

/-- A band recomputed twice is that recomputed once. -/
@[simp] theorem rebanded_rebanded (g : TallySettings) (w : Show) :
    (w.rebanded g).rebanded g = w.rebanded g := by
  rw [Show.rebanded, bandOf_rebanded]
  rfl

/-- Reading an entry after one band is recomputed. -/
theorem reband_entry (t : TallyUnit) (n m : Nat) :
    (t.reband n).unit.entry m =
      if m = n ∧ m < t.shows.length then (t.entry m).rebanded t.settings else t.entry m := by
  rw [reband_unit, put_entry]
  by_cases hm : m = n
  · subst hm; rfl
  · simp [hm]

/-- Bands recomputed one show after the other change the bands of those shows alone (R33). -/
theorem visitEach_reband_entry (t : TallyUnit) (l : List Nat) (m : Nat) :
    (visitEach (fun u n => u.reband n) t l).unit.entry m =
      if m ∈ l ∧ m < t.shows.length then (t.entry m).rebanded t.settings else t.entry m := by
  induction l generalizing t with
  | nil => simp [visitEach]
  | cons n rest ih =>
    rw [visitEach, ih, reband_entry, reband_unit, put_settings, put_length]
    by_cases hl : m < t.shows.length
    · by_cases hm : m = n
      · subst hm
        simp [hl]
      · simp [hl, hm]
    · simp [hl]

/-- Bands recomputed change the show table alone. -/
theorem visitEach_reband_frame (t : TallyUnit) (l : List Nat) :
    (visitEach (fun u n => u.reband n) t l).unit =
      { t with shows := (visitEach (fun u n => u.reband n) t l).unit.shows } := by
  induction l generalizing t with
  | nil => rfl
  | cons n rest ih => rw [visitEach, ih, reband_unit]; rfl

/-- Bands recomputed keep the length of the show table. -/
theorem visitEach_reband_length (t : TallyUnit) (l : List Nat) :
    (visitEach (fun u n => u.reband n) t l).unit.shows.length = t.shows.length :=
  visitEach_keeps (P := fun u => u.shows.length = t.shows.length)
    (fun u n h => by rw [reband_unit, put_length, h]) l rfl

/-! ### The expiry event -/

/-- The seats of a show in a list of holds that begins with some of them. -/
theorem heldBy_take_drop (m : Nat) (l : List Hold) (p : Hold → Bool) :
    heldBy m (l.takeWhile p) + heldBy m (l.dropWhile p) = heldBy m l := by
  rw [← heldBy_append, List.takeWhile_append_dropWhile]

/-- An entry after the expiry event: the seats of its lapsed holds returned, and its band recomputed
where it lost one (R32, R33). -/
theorem expire_entry {t : TallyUnit} (hi : TallyInv t) (v m : Nat) :
    (t.expire v).unit.entry m =
      if (t.holds.takeWhile (fun h => h.expiry ≤ v)).any (fun h => h.showNo == m) = true
      then Show.rebanded { t.entry m with
        held := heldBy m (t.holds.dropWhile (fun h => h.expiry ≤ v)) } t.settings
      else t.entry m := by
  have hsplit := heldBy_take_drop m t.holds (fun h => h.expiry ≤ v)
  change (visitEach (fun u n => u.reband n) ((t.withLists _ t.expired).lapseAll _) _).unit.entry m = _
  rw [visitEach_reband_entry, lapseAll_entry, lapseAll_length, lapseAll_frame]
  simp only [withLists_shows, withLists_entry, withLists_settings, hi.shows_length]
  by_cases hm : m < Config.shows
  · have hmem : m ∈ showNumbers := List.mem_range.mpr hm
    by_cases ha : (t.holds.takeWhile (fun h => h.expiry ≤ v)).any (fun h => h.showNo == m) = true
    · have hheld : (t.entry m).held - heldBy m (t.holds.takeWhile (fun h => h.expiry ≤ v)) =
          heldBy m (t.holds.dropWhile (fun h => h.expiry ≤ v)) := by rw [hi.held]; omega
      rw [if_pos ha, if_pos ⟨List.mem_filter.mpr ⟨hmem, ha⟩, hm⟩, if_pos hm, hheld]
    · have hz : heldBy m (t.holds.takeWhile (fun h => h.expiry ≤ v)) = 0 :=
        heldBy_eq_zero fun x hx hxm => ha (List.any_eq_true.mpr ⟨x, hx, by simpa using hxm⟩)
      simp [ha, hm, hz]
  · have ha : ¬ (t.holds.takeWhile (fun h => h.expiry ≤ v)).any (fun h => h.showNo == m) = true := by
      rw [List.any_eq_true]
      rintro ⟨x, hx, hxm⟩
      have := hi.numbers x ((List.takeWhile_sublist _).subset hx)
      simp only [beq_iff_eq] at hxm
      omega
    simp [hm, ha]

/-- The expiry event changes entries and takes the due holds off the front of the list, their pairs
appended in list order (R32). -/
theorem expire_frame (t : TallyUnit) (v : Nat) :
    (t.expire v).unit = { t with
      shows := (t.expire v).unit.shows
      holds := t.holds.dropWhile (fun h => h.expiry ≤ v)
      expired := lapsedInto t.expired (t.holds.takeWhile (fun h => h.expiry ≤ v)) } := by
  change (visitEach (fun u n => u.reband n) ((t.withLists _ t.expired).lapseAll _) _).unit = _
  rw [visitEach_reband_frame]
  exact congrArg (fun w : TallyUnit => { w with shows := (t.expire v).unit.shows })
    (lapseAll_frame _ _)

/-- The expiry event keeps the length of the show table. -/
theorem expire_length (t : TallyUnit) (v : Nat) :
    (t.expire v).unit.shows.length = t.shows.length := by
  change (visitEach (fun u n => u.reband n) ((t.withLists _ t.expired).lapseAll _)
    _).unit.shows.length = _
  rw [visitEach_reband_length, lapseAll_length, withLists_shows]

/-- The expiry event keeps the unit sound. -/
theorem expire_sound {t : TallyUnit} (hi : TallyInv t) (v : Nat) : TallyInv (t.expire v).unit := by
  have hent := expire_entry hi v
  have hlen := expire_length t v
  have hframe := expire_frame t v
  generalize (t.expire v).unit = u at hent hlen hframe
  have hholds : u.holds = t.holds.dropWhile (fun h => h.expiry ≤ v) := by rw [hframe]
  have hset : u.settings = t.settings := by rw [hframe]
  have hexp : u.expired = lapsedInto t.expired (t.holds.takeWhile (fun h => h.expiry ≤ v)) := by
    rw [hframe]
  have hsub := List.dropWhile_sublist (fun h : Hold => decide (h.expiry ≤ v)) (l := t.holds)
  have hstate : ∀ m, (u.entry m).state = (t.entry m).state := fun m => by
    rw [hent]; split <;> rfl
  refine tallyInv_of_parts (hlen.trans hi.shows_length) (fun m => ?_) (fun m => ?_)
    (fun x hx => ?_) (by rw [hholds]; exact hi.holdsSound.sublist hsub)
    (by rw [hexp]; exact lapsedInto_length hi.expired_length _)
  · rw [hent, hset]
    split
    · next ha =>
      obtain ⟨x, hx, hxm⟩ := List.any_eq_true.mp ha
      have hle := heldBy_take_drop m t.holds (fun h => h.expiry ≤ v)
      have hseats := hi.seats m
      rw [hi.held] at hseats
      refine rebanded_sound (fun he => ?_) (by dsimp only; omega) (hi.cancelled m)
      exact hi.no_holds (.inl he) ((List.takeWhile_sublist _).subset hx) (by simpa using hxm)
    · exact hi.showSound m
  · rw [hent, hholds]
    split
    · rfl
    · next ha =>
      have hsplit := heldBy_take_drop m t.holds (fun h => h.expiry ≤ v)
      rw [heldBy_eq_zero (l := t.holds.takeWhile _) fun x hx hxm =>
        ha (List.any_eq_true.mpr ⟨x, hx, by simpa using hxm⟩)] at hsplit
      rw [hi.held]
      omega
  · have hc := hi.current x (hsub.subset (hholds ▸ hx))
    simpa only [Show.over, hstate] using hc

end Sys2Proof.Machine

namespace Sys2Proof.Machine

/-! ### Records that change one show -/

/-- The answer of a record that leaves show `m` as `w` with its band recomputed, and reports it
(R9, R10, R12). -/
def TallyUnit.changed (t : TallyUnit) (m : Nat) (w : Show) : TallyAnswer :=
  { unit := t.put m (w.rebanded t.settings),
    out := (bandEvents m w.band (bandOf t.settings w)).map BoardEvent.tally,
    reason := .none, subject := some m }

/-- An entry replaced, its band recomputed, and the record answered. -/
theorem put_reband_done {t : TallyUnit} {m : Nat} (hm : m < t.shows.length) (w : Show) :
    ((t.put m w).reband m).done m = t.changed m w := by
  rw [put_reband hm]
  rfl

/-- Such a record keeps the unit sound where the new entry is of a show in use with the same held
seats and no more seats than its capacity. -/
theorem changed_sound {t : TallyUnit} (hi : TallyInv t) {m : Nat} (hm : m < Config.shows) {w : Show}
    (he : w.state ≠ .empty) (hs : w.sold + w.held + w.blocked ≤ w.capacity)
    (hc : w.cancelMinute.isSome = (w.state == .cancelled)) (hh : w.held = (t.entry m).held)
    (ho : w.over = (t.entry m).over) : TallyInv (t.changed m w).unit :=
  hi.put hm (rebanded_sound he hs hc) hh fun h => .inr (ho ▸ h)

/-- The seats left of a show that is not oversold. -/
theorem left_lt_iff {w : Show} (h : w.sold + w.held + w.blocked ≤ w.capacity) {n : Nat} :
    w.left < n ↔ w.capacity < w.sold + w.held + w.blocked + n := by
  unfold Show.left
  omega

theorem sale_sound {t : TallyUnit} (hi : TallyInv t) (desk m n : Nat) :
    TallyInv (t.sale desk m n).unit := by
  unfold TallyUnit.sale
  split_ifs with hm _ _ he _ hl
  any_goals exact hi
  have hs := hi.seats m
  rw [left_lt_iff hs] at hl
  rw [put_reband_done (by rw [hi.shows_length]; omega)]
  exact changed_sound hi (by omega) he (by dsimp only; omega) (hi.cancelled m) rfl rfl

theorem refund_sound {t : TallyUnit} (hi : TallyInv t) (desk m n : Nat) :
    TallyInv (t.refund desk m n).unit := by
  unfold TallyUnit.refund
  split_ifs with hm _ _ he hl
  any_goals exact hi
  have hs := hi.seats m
  rw [put_reband_done (by rw [hi.shows_length]; omega)]
  exact changed_sound hi (by omega) he (by dsimp only; omega) (hi.cancelled m) rfl rfl

theorem block_sound {t : TallyUnit} (hi : TallyInv t) (desk m n : Nat) :
    TallyInv (t.block desk m n).unit := by
  unfold TallyUnit.block
  split_ifs with hm _ _ he _ hl
  any_goals exact hi
  have hs := hi.seats m
  rw [left_lt_iff hs] at hl
  rw [put_reband_done (by rw [hi.shows_length]; omega)]
  exact changed_sound hi (by omega) he (by dsimp only; omega) (hi.cancelled m) rfl rfl

theorem unblock_sound {t : TallyUnit} (hi : TallyInv t) (desk m n : Nat) :
    TallyInv (t.unblock desk m n).unit := by
  unfold TallyUnit.unblock
  split_ifs with hm _ _ he hl
  any_goals exact hi
  have hs := hi.seats m
  rw [put_reband_done (by rw [hi.shows_length]; omega)]
  exact changed_sound hi (by omega) he (by dsimp only; omega) (hi.cancelled m) rfl rfl

theorem amend_sound {t : TallyUnit} (hi : TallyInv t) (m capacity : Nat) (title : List Byte) :
    TallyInv (t.amend m capacity title).unit := by
  have hs := hi.seats m
  unfold TallyUnit.amend
  generalize hc : (if capacity = 0 then (t.entry m).capacity else capacity) = c
  generalize (if takeText 24 title = [] then (t.entry m).title else takeText 24 title) = text
  split_ifs with hm he _ _ hl
  any_goals exact hi
  rw [put_reband_done (by rw [hi.shows_length]; omega)]
  refine changed_sound hi (by omega) he ?_ (hi.cancelled m) rfl rfl
  dsimp only
  split at hc <;> omega

/-! ### Shows defined, delayed, cancelled and removed -/

/-- The entry SHOW_DEFINE makes is sound (R17). -/
theorem definedShow_sound (g : TallySettings) (now auditorium start capacity : Nat) (title : Text) :
    ShowSound g (definedShow g now auditorium start capacity title) := by
  have hlive := timeState_live g now start
  refine rebanded_sound (w := { Show.vacant with
    state := timeState g now start, auditorium := auditorium, start := start, capacity := capacity,
    title := title }) ?_ (Nat.zero_le _) ?_
  · dsimp only
    grind
  · dsimp only
    rcases hlive with h | h | h | h <;> rw [h] <;> rfl

theorem define_sound {t : TallyUnit} (hi : TallyInv t) (now m auditorium start capacity : Nat)
    (title : List Byte) : TallyInv (t.define now m auditorium start capacity title).unit := by
  unfold TallyUnit.define
  split_ifs with hm he
  any_goals exact hi
  have he : (t.entry m).state = .empty := by simpa using he
  refine hi.put (by omega) (definedShow_sound ..) ?_ fun _ => .inl he
  rw [hi.vacant m he]
  rfl

/-- A delay alone leaves the unit sound: no field the invariant reads depends on it. -/
theorem TallyInv.putDelay {t : TallyUnit} (hi : TallyInv t) {m : Nat} (hm : m < Config.shows)
    (he : (t.entry m).state ≠ .empty) (d : Nat) :
    TallyInv (t.put m { t.entry m with delay := d }) :=
  hi.put hm
    { vacant := fun h => absurd h he, seats := hi.seats m,
      band := fun _ => (hi.band m he).trans (bandOf_congr _ rfl rfl), cancelled := hi.cancelled m }
    rfl .inr

theorem delayShow_sound {t : TallyUnit} (hi : TallyInv t) (now m minutes : Nat) :
    TallyInv (t.delayShow now m minutes).unit := by
  unfold TallyUnit.delayShow
  split_ifs with hm he
  any_goals exact hi
  have hm : m < Config.shows := by omega
  dsimp only
  split
  · exact hi
  · exact visitClock_sound (hi.putDelay hm he _) now hm

/-- SHOW_CANCEL leaves its show CANCELLED with no held seats and its band recomputed, and its holds
have lapsed (R20, R34). -/
theorem cancelled_eq {t : TallyUnit} (hi : TallyInv t) {m : Nat} (hm : m < Config.shows)
    {w : Show} (hw : w.held = (t.entry m).held) :
    ((t.put m w).releaseShow m).reband m =
      { unit := (t.put m (Show.rebanded { w with held := 0 } t.settings)).withLists
          (t.holds.filter (fun h => h.showNo != m))
          (lapsedInto t.expired (t.holds.filter (fun h => h.showNo == m))),
        out := (bandEvents m w.band (bandOf t.settings { w with held := 0 })).map
          BoardEvent.tally } := by
  have hlen : m < t.shows.length := by rw [hi.shows_length]; exact hm
  rw [releaseShow_eq (by simpa using hlen) (by rw [put_entry_self hlen, hw]; exact hi.held m),
    put_entry_self hlen, put_put, ← withLists_put, put_reband (by simpa using hlen)]
  rfl

theorem cancel_sound {t : TallyUnit} (hi : TallyInv t) (now m : Nat) :
    TallyInv (t.cancel now m).unit := by
  unfold TallyUnit.cancel
  split_ifs with hm he
  any_goals exact hi
  have hs := hi.seats m
  simp only [cancelled_eq hi (show m < Config.shows by omega) (w := { t.entry m with
    state := .cancelled, cancelMinute := some now }) rfl]
  refine hi.replace (by omega) (rebanded_sound (by simp) (by dsimp only; omega) rfl) ?_ ?_
    (fun k hk => heldBy_others hk _) (fun x hx _ => (List.mem_filter.mp hx).1)
    (hi.holdsSound.sublist List.filter_sublist) (lapsedInto_length hi.expired_length _)
  · refine (heldBy_eq_zero fun x hx => ?_).symm
    simpa using (List.mem_filter.mp hx).2
  · exact fun _ x hx => by simpa using (List.mem_filter.mp hx).2

theorem remove_sound {t : TallyUnit} (hi : TallyInv t) (m : Nat) : TallyInv (t.remove m).unit := by
  unfold TallyUnit.remove
  split_ifs with hm he hr
  any_goals exact hi
  refine hi.put (by omega) (vacant_sound _) ?_ (fun h => absurd h (by simp [Show.over, Show.vacant]))
  have hr : (t.entry m).removable = true := by simpa using hr
  simp only [Show.removable, Bool.or_eq_true, Bool.and_eq_true, beq_iff_eq] at hr
  rcases hr with ho | ⟨⟨_, hh⟩, _⟩
  · exact (hi.held_eq_zero (.inr ho)).symm
  · exact hh.symm

/-! ### Holds made, confirmed and released -/

/-- The hold list after an insertion is the old one and the new hold. -/
theorem insertHold_perm (new : Hold) (l : List Hold) : (insertHold new l).Perm (new :: l) := by
  obtain ⟨before, after, hl, hins, -, -⟩ := insertHold_split new l
  rw [hins, hl]
  exact List.perm_middle

/-- An insertion keeps the order of expiry (R27). -/
theorem insertHold_sorted {new : Hold} {l : List Hold}
    (h : l.Pairwise (fun a b => a.expiry ≤ b.expiry)) :
    (insertHold new l).Pairwise (fun a b => a.expiry ≤ b.expiry) := by
  obtain ⟨before, after, hl, hins, hbefore, hafter⟩ := insertHold_split new l
  subst hl
  obtain ⟨hb, ha, hba⟩ := List.pairwise_append.mp h
  have hnew : ∀ x, x ∈ after → new.expiry ≤ x.expiry := by
    cases after with
    | nil => simp
    | cons y rest =>
      have hy := hafter y rfl
      rintro x (_ | ⟨_, hx⟩)
      · omega
      · have := (List.pairwise_cons.mp ha).1 x hx
        omega
  rw [hins]
  refine List.pairwise_append.mpr ⟨hb, List.pairwise_cons.mpr ⟨hnew, ha⟩, ?_⟩
  rintro x hx y (_ | ⟨_, hy⟩)
  · exact hbefore x hx
  · exact hba x hx y hy

/-- The seats of a show do not depend on the order of the holds. -/
theorem heldBy_perm {m : Nat} {a b : List Hold} (h : a.Perm b) : heldBy m a = heldBy m b := by
  induction h with
  | nil => rfl
  | cons x _ ih => simp [heldBy, ih]
  | swap x y l => simp only [heldBy]; omega
  | trans _ _ h1 h2 => exact h1.trans h2

/-- A hold of a fresh pair and at least one seat, inserted in a list that has room (R26, R27). -/
theorem insertHold_sound {l : List Hold} (h : HoldsSound l) {new : Hold}
    (hm : new.showNo < Config.shows) (hn : 1 ≤ new.n) (hp : ∀ x, x ∈ l → x.pair ≠ new.pair)
    (hl : l.length < Config.holds) : HoldsSound (insertHold new l) where
  numbers x hx := by
    rcases List.mem_cons.mp ((insertHold_perm new l).mem_iff.mp hx) with rfl | hx
    · exact hm
    · exact h.numbers x hx
  counts x hx := by
    rcases List.mem_cons.mp ((insertHold_perm new l).mem_iff.mp hx) with rfl | hx
    · exact hn
    · exact h.counts x hx
  pairs := by
    rw [((insertHold_perm new l).map Hold.pair).nodup_iff, List.map_cons, List.nodup_cons]
    exact ⟨fun hx => by
      obtain ⟨x, hx, he⟩ := List.mem_map.mp hx
      exact hp x hx he, h.pairs⟩
  sorted := insertHold_sorted h.sorted
  bounded := by rw [(insertHold_perm new l).length_eq]; exact hl

/-- A pair stands in the hold list exactly when some hold has it. -/
theorem hasHold_iff (t : TallyUnit) (p : Nat × Nat) :
    t.hasHold p = true ↔ ∃ h, h ∈ t.holds ∧ h.pair = p := by
  simp [TallyUnit.hasHold]

/-- The expired-hold list keeps its bound when pairs are taken out. -/
theorem TallyInv.expired_filter {t : TallyUnit} (hi : TallyInv t) (p : Nat × Nat → Bool) :
    (t.expired.filter p).length ≤ Config.expired :=
  (List.length_filter_le p t.expired).trans hi.expired_length

/-- The hold a HOLD record inserts, its lifetime clamped (R26, R27). -/
def newHold (uptime desk holdId m n lifetime : Nat) : Hold :=
  { desk := desk, holdId := holdId, showNo := m, n := n, expiry := uptime + clamp 10 900 lifetime }

theorem hold_sound {t : TallyUnit} (hi : TallyInv t) (uptime desk holdId m n lifetime : Nat) :
    TallyInv (t.hold uptime desk holdId m n lifetime).unit := by
  unfold TallyUnit.hold
  split_ifs with hm _ _ hn he ho hd hf hl
  any_goals exact hi
  have hs := hi.seats m
  rw [left_lt_iff hs] at hl
  rw [hasHold_iff] at hd
  have hn : 1 ≤ n := by
    by_contra h
    exact hn (by simp [badCount]; omega)
  change TallyInv ((((t.withLists (insertHold (newHold uptime desk holdId m n lifetime) t.holds)
    _).put m _).reband m).done m).unit
  rw [put_reband_done (by rw [withLists_shows, hi.shows_length]; omega)]
  refine hi.replace (by omega) (rebanded_sound he (by dsimp only; omega) (hi.cancelled m)) ?_
    (fun h => absurd h ho) (fun k hk => ?_) (fun x hx hx' => ?_)
    (insertHold_sound hi.holdsSound (show m < Config.shows by omega) hn
      (fun x hx hp => hd ⟨x, hx, hp⟩) (by omega)) (hi.expired_filter _)
  · rw [withLists_holds, heldBy_perm (insertHold_perm ..)]
    simp [heldBy, newHold, Show.rebanded, hi.held, Nat.add_comm]
  · rw [withLists_holds, heldBy_perm (insertHold_perm ..)]
    simp [heldBy, newHold, Ne.symm hk]
  · rcases List.mem_cons.mp ((insertHold_perm _ _).mem_iff.mp hx) with rfl | hx
    · exact absurd rfl hx'
    · exact hx

/-- In a list of distinct pairs a hold is the only one of its pair. -/
theorem filter_pair_eq {l : List Hold} (hp : (l.map Hold.pair).Nodup) {h : Hold} (hh : h ∈ l) :
    l.filter (fun x => x.pair == h.pair) = [h] := by
  induction l with
  | nil => cases hh
  | cons x rest ih =>
    obtain ⟨hx, hrest⟩ := List.nodup_cons.mp hp
    rcases List.mem_cons.mp hh with rfl | hh
    · rw [List.filter_cons_of_pos (by simp), List.filter_eq_nil_iff.mpr]
      exact fun y hy he => hx (List.mem_map.mpr ⟨y, hy, by simpa using he⟩)
    · rw [List.filter_cons_of_neg, ih hrest hh]
      exact fun he => hx (List.mem_map.mpr ⟨h, hh, (beq_iff_eq.mp he).symm⟩)

/-- The seats of a show once one hold has left the list. -/
theorem heldBy_without {l : List Hold} (hp : (l.map Hold.pair).Nodup) {h : Hold} (hh : h ∈ l)
    (m : Nat) :
    heldBy m (l.filter (fun x => x.pair != h.pair)) + (if h.showNo = m then h.n else 0) =
      heldBy m l := by
  have hsplit := heldBy_filter m l (fun x => x.pair != h.pair)
  have hone : l.filter (fun x => !(x.pair != h.pair)) = [h] := by
    simpa [bne] using filter_pair_eq hp hh
  rw [hone] at hsplit
  simpa [heldBy] using hsplit

/-- The unit stays sound when a hold leaves the list and its show gives up its held seats. -/
theorem without_sound {t : TallyUnit} (hi : TallyInv t) {h : Hold} (hh : h ∈ t.holds) {w : Show}
    (hw : w.state = (t.entry h.showNo).state) (hc : w.cancelMinute = (t.entry h.showNo).cancelMinute)
    (hheld : w.held = (t.entry h.showNo).held - h.n)
    (hs : w.sold + w.held + w.blocked ≤ w.capacity) :
    TallyInv ((((t.withLists (t.holds.filter (fun q => q.pair != h.pair)) t.expired).put
      h.showNo w).reband h.showNo).done h.showNo).unit := by
  have hm := hi.numbers h hh
  have hwithout := heldBy_without hi.pairs hh
  have he : (t.entry h.showNo).state ≠ .empty := fun he => hi.no_holds (.inl he) hh rfl
  have ho := hi.current h hh
  rw [put_reband_done (by rw [withLists_shows, hi.shows_length]; exact hm)]
  refine hi.replace hm (rebanded_sound (hw ▸ he) hs ?_) ?_ ?_ (fun k hk => ?_)
    (fun x hx _ => (List.mem_filter.mp hx).1) (hi.holdsSound.sublist List.filter_sublist)
    hi.expired_length
  · rw [hc, hw]
    exact hi.cancelled _
  · have := hwithout h.showNo
    rw [if_pos rfl] at this
    change w.held = heldBy h.showNo (t.holds.filter (fun q => q.pair != h.pair))
    rw [hheld, hi.held]
    omega
  · intro h'
    simp only [Show.over, Show.rebanded, hw] at h' ho
    simp [ho] at h'
  · have := hwithout k
    rw [if_neg (Ne.symm hk)] at this
    exact this

theorem lateAnswer_sound {t : TallyUnit} (hi : TallyInv t) (p : Nat × Nat) :
    TallyInv (t.lateAnswer p).unit := by
  unfold TallyUnit.lateAnswer
  split
  · exact { hi with expired_length := hi.expired_filter _ }
  · exact hi

/-- The hold a search by pair finds stands in the list and has the pair. -/
theorem find_pair {l : List Hold} {p : Nat × Nat} {h : Hold}
    (hf : l.find? (fun h => h.pair == p) = some h) : h ∈ l ∧ h.pair = p :=
  ⟨List.mem_of_find?_eq_some hf, by simpa using List.find?_some hf⟩

theorem confirm_sound {t : TallyUnit} (hi : TallyInv t) (desk holdId : Nat) :
    TallyInv (t.confirm desk holdId).unit := by
  unfold TallyUnit.confirm
  split_ifs
  any_goals exact hi
  split
  · next h hf =>
    obtain ⟨hh, hp⟩ := find_pair hf
    have hle := le_heldBy hh
    rw [← hi.held] at hle
    have hs := hi.seats h.showNo
    rw [← hp]
    exact without_sound hi hh rfl rfl rfl (by dsimp only; omega)
  · exact lateAnswer_sound hi _

theorem release_sound {t : TallyUnit} (hi : TallyInv t) (desk holdId : Nat) :
    TallyInv (t.release desk holdId).unit := by
  unfold TallyUnit.release
  split_ifs
  any_goals exact hi
  split
  · next h hf =>
    obtain ⟨hh, hp⟩ := find_pair hf
    have hs := hi.seats h.showNo
    rw [← hp]
    exact without_sound (w := { t.entry h.showNo with held := (t.entry h.showNo).held - h.n })
      hi hh rfl rfl rfl (by dsimp only; omega)
  · exact lateAnswer_sound hi _

/-- Every record keeps the unit sound. -/
theorem apply_sound {t : TallyUnit} (hi : TallyInv t) (now uptime : Nat) (r : Record) :
    TallyInv (t.apply now uptime r).unit := by
  cases r with
  | sale desk m n => exact sale_sound hi desk m n
  | refund desk m n => exact refund_sound hi desk m n
  | block desk m n => exact block_sound hi desk m n
  | unblock desk m n => exact unblock_sound hi desk m n
  | hold desk holdId m n lifetime => exact hold_sound hi uptime desk holdId m n lifetime
  | confirm desk holdId => exact confirm_sound hi desk holdId
  | release desk holdId => exact release_sound hi desk holdId
  | showDefine m auditorium start capacity title =>
    exact define_sound hi now m auditorium start capacity title
  | showAmend m capacity title => exact amend_sound hi m capacity title
  | showDelay m minutes => exact delayShow_sound hi now m minutes
  | showCancel m => exact cancel_sound hi now m
  | showRemove m => exact remove_sound hi m
  | noticePost p => exact hi
  | noticeWithdraw desk n => exact hi

/-! ### The day start -/

/-- The entry the purge of DAY_START leaves (R22). -/
def Show.purged (w : Show) : Show :=
  if w.state = .closed ∨ w.state = .cancelled then Show.vacant else w

/-- The visit of a show by the purge. -/
theorem visitPurge_unit (t : TallyUnit) (n : Nat) :
    (t.visitPurge n).unit = t.put n (t.entry n).purged := by
  unfold TallyUnit.visitPurge Show.purged
  split
  · rfl
  · simp only [TallyUnit.put, TallyUnit.entry, set_getD_self]

end Sys2Proof.Machine

namespace Sys2Proof.Machine

/-- The purge leaves EMPTY what is EMPTY. -/
@[simp] theorem purged_vacant : Show.vacant.purged = Show.vacant := rfl

/-- The purge of a show that is neither CLOSED nor CANCELLED leaves it. -/
theorem purged_current {w : Show} (h : w.over = false) : w.purged = w := by
  simp only [Show.over, Bool.or_eq_false_iff, beq_eq_false_iff_ne] at h
  simp [Show.purged, h]

/-- Purging twice is purging once. -/
@[simp] theorem purged_purged (w : Show) : w.purged.purged = w.purged := by
  unfold Show.purged
  split <;> simp_all [Show.vacant]

/-- The visit of a show by the purge emits REMOVED where it empties the entry. -/
theorem visitPurge_out (t : TallyUnit) (n : Nat) :
    (t.visitPurge n).out =
      if (t.entry n).over = true then [.tally { showNo := n, kind := .removed }] else [] := by
  simp only [TallyUnit.visitPurge, Show.over, Bool.or_eq_true, beq_iff_eq]
  split <;> rfl

/-- Shows purged one after the other: those of the list are purged, no other is (R22). -/
theorem visitEach_purge_entry (t : TallyUnit) (l : List Nat) (m : Nat) :
    (visitEach (fun u n => u.visitPurge n) t l).unit.entry m =
      if m ∈ l then (t.entry m).purged else t.entry m := by
  induction l generalizing t with
  | nil => simp [visitEach]
  | cons n rest ih =>
    have hn : (t.visitPurge n).unit.entry m = if m = n then (t.entry m).purged else t.entry m := by
      rw [visitPurge_unit, put_entry]
      by_cases hm : m = n
      · subst hm
        by_cases hl : m < t.shows.length
        · simp [hl]
        · simp [hl, entry_past (Nat.le_of_not_lt hl)]
      · simp [hm]
    rw [visitEach, ih, hn]
    by_cases hm : m = n
    · subst hm
      simp
    · simp [hm]

/-- The purge changes the show table alone. -/
theorem visitEach_purge_frame (t : TallyUnit) (l : List Nat) :
    (visitEach (fun u n => u.visitPurge n) t l).unit =
      { t with shows := (visitEach (fun u n => u.visitPurge n) t l).unit.shows } := by
  induction l generalizing t with
  | nil => rfl
  | cons n rest ih => rw [visitEach, ih, visitPurge_unit]; rfl

/-- The purge keeps the length of the show table. -/
theorem visitEach_purge_length (t : TallyUnit) (l : List Nat) :
    (visitEach (fun u n => u.visitPurge n) t l).unit.shows.length = t.shows.length :=
  visitEach_keeps (P := fun u => u.shows.length = t.shows.length)
    (fun u n h => by rw [visitPurge_unit, put_length, h]) l rfl

/-- The purge emits REMOVED for each show it empties, in order (R8, R22). -/
theorem visitEach_purge_out (t : TallyUnit) {l : List Nat} (hl : l.Nodup) :
    (visitEach (fun u n => u.visitPurge n) t l).out =
      ((l.filter (fun m => (t.entry m).over)).map
        (fun m => { showNo := m, kind := .removed })).map BoardEvent.tally := by
  induction l generalizing t with
  | nil => rfl
  | cons n rest ih =>
    obtain ⟨hn, hrest⟩ := List.nodup_cons.mp hl
    have hsame : rest.filter (fun m => ((t.visitPurge n).unit.entry m).over) =
        rest.filter (fun m => (t.entry m).over) := by
      refine List.filter_congr fun m hm => ?_
      have hne : m ≠ n := fun h => hn (h ▸ hm)
      rw [visitPurge_unit, put_entry]
      simp [hne]
    rw [visitEach, ih _ hrest, hsame, visitPurge_out]
    by_cases ho : (t.entry n).over = true <;> simp [ho]

/-- The unit after the purge of DAY_START, before its shows are recomputed (R22). -/
def TallyUnit.purged (t : TallyUnit) : TallyUnit :=
  { t with shows := t.shows.map Show.purged, expired := [] }

/-- Reading an entry after the purge. -/
theorem purged_entry (t : TallyUnit) (m : Nat) : t.purged.entry m = (t.entry m).purged :=
  getD_map Show.purged t.shows m Show.vacant

/-- A purge of all shows empties each CLOSED or CANCELLED one (R22). -/
theorem purgeAll_eq {t : TallyUnit} (hl : t.shows.length = Config.shows) :
    (visitEach (fun u n => u.visitPurge n) t showNumbers).unit =
      { t with shows := t.shows.map Show.purged } := by
  rw [visitEach_purge_frame]
  have hs : (visitEach (fun u n => u.visitPurge n) t showNumbers).unit.shows =
      t.purged.shows := by
    refine shows_ext ?_ fun m => ?_
    · rw [visitEach_purge_length]
      simp [TallyUnit.purged]
    · rw [visitEach_purge_entry, purged_entry]
      split
      · rfl
      · next hm =>
        rw [entry_past (by simpa [showNumbers, hl] using hm)]
        rfl
  rw [hs]
  rfl

/-- Each show is visited once. -/
theorem showNumbers_nodup : showNumbers.Nodup := List.nodup_range

/-- DAY_START is the purge and the recomputation of what it leaves (R22). -/
theorem dayStart_eq {t : TallyUnit} (hl : t.shows.length = Config.shows) (now : Nat) :
    t.dayStart now =
      { unit := (t.purged.recomputeAll now).unit,
        out := ((showNumbers.filter (fun m => (t.entry m).over)).map
          (fun m => { showNo := m, kind := .removed })).map BoardEvent.tally ++
            (t.purged.recomputeAll now).out } := by
  unfold TallyUnit.dayStart
  dsimp only
  rw [purgeAll_eq hl, visitEach_purge_out t showNumbers_nodup]
  rfl

/-- The purge keeps the unit sound. -/
theorem purged_sound {t : TallyUnit} (hi : TallyInv t) : TallyInv t.purged := by
  have hcur : ∀ {m}, (t.entry m).over = false → t.purged.entry m = t.entry m := fun h => by
    rw [purged_entry, purged_current h]
  refine tallyInv_of_parts (by simp [TallyUnit.purged, hi.shows_length]) (fun m => ?_)
    (fun m => ?_) (fun x hx => ?_) hi.holdsSound (Nat.zero_le _)
  · rw [purged_entry]
    unfold Show.purged
    split
    · exact vacant_sound _
    · exact hi.showSound m
  · change _ = heldBy m t.holds
    rw [purged_entry, ← hi.held]
    unfold Show.purged
    split
    · next h => exact (hi.held_eq_zero (.inr (by simpa [Show.over] using h))).symm
    · rfl
  · have h := hi.current x hx
    rw [hcur h]
    exact h

/-! ### The invariant at every event of the unit -/

theorem recomputeAll_sound {t : TallyUnit} (hi : TallyInv t) (now : Nat) :
    TallyInv (t.recomputeAll now).unit := (recomputeAll_spec hi now).1.sound hi

theorem dayStart_sound {t : TallyUnit} (hi : TallyInv t) (now : Nat) :
    TallyInv (t.dayStart now).unit := by
  have hu : (t.dayStart now).unit = (t.purged.recomputeAll now).unit := by
    rw [dayStart_eq hi.shows_length]
  rw [hu]
  exact recomputeAll_sound (purged_sound hi) now

theorem setSettings_sound {t : TallyUnit} (hi : TallyInv t) (now : Nat) (g : TallySettings) :
    TallyInv (t.setSettings now g).unit := (setSettings_spec hi now g).1.sound hi

/-- The invariant reads the show table, the lists and the settings alone: events that wait have no
part in it. -/
theorem TallyInv.congr {t u : TallyUnit} (hi : TallyInv t) (hs : u.shows = t.shows)
    (hh : u.holds = t.holds) (he : u.expired = t.expired) (hg : u.settings = t.settings) :
    TallyInv u := by
  have hent : ∀ m, u.entry m = t.entry m := fun m => by simp only [TallyUnit.entry, hs]
  refine tallyInv_of_parts (hs ▸ hi.shows_length) (fun m => ?_) (fun m => ?_) (fun x hx => ?_)
    (hh ▸ hi.holdsSound) (he ▸ hi.expired_length)
  · rw [hent, hg]
    exact hi.showSound m
  · rw [hent, hh]
    exact hi.held m
  · rw [hent]
    exact hi.current x (hh ▸ hx)

/-- An empty table and empty lists are sound. -/
theorem empty_sound (t : TallyUnit) (hs : t.shows = List.replicate Config.shows Show.vacant)
    (hh : t.holds = []) (he : t.expired = []) : TallyInv t := by
  have hent : ∀ m, t.entry m = Show.vacant := fun m => by
    rcases getD_mem_or t.shows m Show.vacant with h | h
    · rw [hs] at h
      rw [TallyUnit.entry, hs]
      exact List.eq_of_mem_replicate h
    · exact h
  refine tallyInv_of_parts (by simp [hs]) (fun m => ?_) (fun m => ?_) ?_ ?_ (by simp [he])
  · rw [hent]
    exact vacant_sound _
  · rw [hent, hh]
    rfl
  · simp [hh]
  · rw [hh]
    constructor <;> simp

/-- The unit is sound after a WARM_RESET, whatever it held (R2, R24, R25). -/
theorem warmReset_sound (t : TallyUnit) : TallyInv t.warmReset := empty_sound _ rfl rfl rfl

end Sys2Proof.Machine

namespace Sys2Proof.Machine

/-! ### A property through the reset guard -/

/-- What holds before a guarded command and after its effect holds after the command. -/
theorem whenRunning_keeps {P : State → Prop} {f : State → State} {s t : State}
    (h : whenRunning f s = .next t) (hs : P s) (hf : P (f s)) : P t := by
  rcases whenRunning_next h with ⟨-, rfl⟩ | ⟨-, rfl⟩
  · exact hs
  · exact hf

/-- As `whenRunning_keeps`, for an effect that may stop. -/
theorem unlessReset_keeps {P : State → Prop} {f : State → Host.Outcome State Fault Refusal}
    {s t : State} (h : unlessReset f s = .next t) (hs : P s) (hf : f s = .next t → P t) : P t := by
  rcases unlessReset_next h with ⟨-, rfl⟩ | ⟨-, h⟩
  · exact hs
  · exact hf h

/-! ### What leaves the Tally Unit alone -/

section
variable (s : State)

@[simp] theorem State.refuse_tally (code tag : Nat) (status : Status) :
    (s.refuse code tag status).tally = s.tally := rfl
@[simp] theorem State.answer_tally (code tag : Nat) (result : List Byte) :
    (s.answer code tag result).tally = s.tally := rfl
@[simp] theorem State.derive_tally (reached : Source → Bool) :
    (s.derive reached).tally = s.tally := rfl
@[simp] theorem State.applyTop_tally (h : TopHandOn) : (s.applyTop h).tally = s.tally := by
  rw [State.applyTop, State.derive_tally, State.withPatch_tally]
@[simp] theorem boardRecompute_tally : (boardRecompute s).tally = s.tally := rfl
@[simp] theorem State.commitAll_tally : s.commitAll.tally = s.tally := by
  rw [State.commitAll, State.withPatch_tally]

@[simp] theorem State.raiseAll_tally (l : List Cause) : (s.raiseAll l).tally = s.tally := by
  rw [raiseAll_eq]; rfl

@[simp] theorem State.applyTops_tally (l : List TopHandOn) : (s.applyTops l).tally = s.tally := by
  induction l generalizing s with
  | nil => rfl
  | cons h rest ih => rw [State.applyTops, ih, State.applyTop_tally]

@[simp] theorem settleTops_tally : (settleTops s).tally = s.tally := by simp [settleTops]

/-! ### The units' own events -/

theorem takeFromTally_tally : (takeFromTally s).tally = s.tally := by
  unfold takeFromTally; split <;> rfl
theorem takeFromBoard_tally : (takeFromBoard s).tally = s.tally := by
  unfold takeFromBoard; split <;> simp
theorem takeFromNotice_tally : (takeFromNotice s).tally = s.tally := by
  unfold takeFromNotice; split <;> simp
theorem takeClockCells_tally : (takeClockCells s).tally = s.tally := by
  unfold takeClockCells; split <;> rfl
theorem takeBoardEvent_tally : (takeBoardEvent s).tally = s.tally := by
  unfold takeBoardEvent; split <;> rfl
theorem takeBoardMinute_tally : (takeBoardMinute s).tally = s.tally := by
  unfold takeBoardMinute; split <;> rfl
theorem takeDwell_tally (k : Nat) : (takeDwell k s).tally = s.tally := by
  unfold takeDwell
  split
  · rfl
  · split <;> rfl
theorem takeNoticeTick_tally : (takeNoticeTick s).tally = s.tally := by
  unfold takeNoticeTick; split <;> simp
theorem noticeTally_tally (e : TallyEvent) : (noticeTally e s).tally = s.tally := by
  simp only [noticeTally]; split <;> simp
theorem takeNoticeEvent_tally : (takeNoticeEvent s).tally = s.tally := by
  unfold takeNoticeEvent
  split
  · rw [noticeTally_tally]; rfl
  · rfl
theorem takeFlagHandOn_tally : (takeFlagHandOn s).tally = s.tally := by
  unfold takeFlagHandOn; split <;> rfl
theorem takeRetry_tally (k : Nat) : (takeRetry k s).tally = s.tally := by
  unfold takeRetry; split <;> rfl
theorem takeLoadDone_tally : (takeLoadDone s).tally = s.tally := by
  unfold takeLoadDone
  split
  · split
    · split <;> simp
    · rfl
  · rfl
theorem takeDrainEnd_tally : (takeDrainEnd s).tally = s.tally := by
  unfold takeDrainEnd; split <;> rfl

theorem settleRetries_tally (n : Nat) : (settleRetries n s).tally = s.tally := by
  induction n generalizing s with
  | zero => rfl
  | succ n ih => rw [settleRetries, ih, takeRetry_tally]
theorem settleDwells_tally (n : Nat) : (settleDwells n s).tally = s.tally := by
  induction n generalizing s with
  | zero => rfl
  | succ n ih => rw [settleDwells, ih, takeDwell_tally]

/-! ### The commands of the other units -/

theorem cmdSetMode_tally (tag mode : Nat) : (cmdSetMode tag mode s).tally = s.tally := by
  unfold cmdSetMode; split <;> rfl
theorem cmdSetIntake_tally (tag : Nat) (p : IntakeParams) :
    (cmdSetIntake tag p s).tally = s.tally := by
  unfold cmdSetIntake; split_ifs <;> rfl
theorem cmdSetWords_tally (tag : Nat) (words : List Nat) :
    (cmdSetWords tag words s).tally = s.tally := by
  unfold cmdSetWords; split <;> rfl
theorem cmdSetView_tally (tag : Nat) (p : ViewParams) : (cmdSetView tag p s).tally = s.tally := by
  unfold cmdSetView
  split
  · rfl
  · split <;> simp
theorem cmdSetSegment_tally (tag segment : Nat) (text : List Byte) :
    (cmdSetSegment tag segment text s).tally = s.tally := by
  unfold cmdSetSegment; split_ifs <;> rfl
theorem cmdSetTrigger_tally (tag : Nat) (p : TriggerParams) :
    (cmdSetTrigger tag p s).tally = s.tally := by
  unfold cmdSetTrigger; split <;> simp
theorem cmdClearTrigger_tally (tag trigger : Nat) :
    (cmdClearTrigger tag trigger s).tally = s.tally := by
  unfold cmdClearTrigger; split <;> simp
theorem cmdClearCauses_tally (tag mask : Nat) : (cmdClearCauses tag mask s).tally = s.tally := by
  unfold cmdClearCauses; split <;> rfl
theorem cmdInspect_tally (tag kind index : Nat) :
    (cmdInspect tag kind index s).tally = s.tally := by
  unfold cmdInspect; split <;> rfl
theorem cmdSetSurface_tally (tag : Nat) (p : SurfaceParams) :
    (cmdSetSurface tag p s).tally = s.tally := by
  unfold cmdSetSurface; split_ifs <;> rfl
theorem cmdSetCell_tally (tag : Nat) (p : CellParams) : (cmdSetCell tag p s).tally = s.tally := by
  unfold cmdSetCell; split <;> rfl
theorem cmdClearCell_tally (tag cell : Nat) : (cmdClearCell tag cell s).tally = s.tally := by
  unfold cmdClearCell; split <;> rfl
theorem cmdLoadGlyphs_tally (tag set source sum : Nat) :
    (cmdLoadGlyphs tag set source sum s).tally = s.tally := by
  unfold cmdLoadGlyphs; split_ifs <;> rfl
theorem cmdSetPane_tally (tag : Nat) (p : PaneParams) : (cmdSetPane tag p s).tally = s.tally := by
  unfold cmdSetPane
  split_ifs
  any_goals rfl
  split <;> rfl
theorem cmdSetPlaylist_tally (tag pane first count : Nat) (entries : List EntryParams) :
    (cmdSetPlaylist tag pane first count entries s).tally = s.tally := by
  unfold cmdSetPlaylist; split_ifs <;> rfl
theorem cmdPlayStart_tally (tag pane entry now : Nat) :
    (cmdPlayStart tag pane entry now s).tally = s.tally := by
  unfold cmdPlayStart
  split
  · rfl
  · split <;> rfl
theorem State.resumed_tally (pane : Nat) (r : PlayResult) : (s.resumed pane r).tally = s.tally := by
  simp only [State.resumed]; split <;> rfl
theorem cmdPlayResume_tally (tag pane : Nat) : (cmdPlayResume tag pane s).tally = s.tally := by
  unfold cmdPlayResume
  split
  · rfl
  · split
    · rfl
    · rfl
    · exact State.resumed_tally ..
theorem cmdPlayStop_tally (tag pane : Nat) : (cmdPlayStop tag pane s).tally = s.tally := by
  unfold cmdPlayStop; split <;> rfl
theorem cmdPaneClear_tally (tag pane : Nat) : (cmdPaneClear tag pane s).tally = s.tally := by
  unfold cmdPaneClear; split <;> rfl

/-! ### Requests, responses and grants -/

theorem scanRead_tally (k : Nat) (r : Request) : (scanRead k r s).tally = s.tally := by
  simp only [scanRead]; split <;> rfl
theorem frameStart_tally (k : Nat) : (frameStart k s).tally = s.tally := by simp [frameStart]
theorem takeRead_tally (r : Request) : (takeRead r s).tally = s.tally := by
  unfold takeRead
  split
  · rfl
  · split
    · rfl
    · split
      · rw [scanRead_tally, frameStart_tally]
      · exact scanRead_tally ..
theorem takeWrite_tally (a : Nat) (full : Bool) (data : Line) :
    (takeWrite a full data s).tally = s.tally := by
  unfold takeWrite
  split
  · simp [takeIntake]
  · split
    · simp [takeMarker]
    · rfl
theorem State.returnRead_tally (t : Tracked) : (s.returnRead t).tally = s.tally := by
  unfold State.returnRead; split <;> rfl
theorem State.countLate_tally (t : Tracked) : (s.countLate t).tally = s.tally := by
  unfold State.countLate; split <;> rfl
theorem returnData_tally (e : InFlight) (data : Line) : (returnData e data s).tally = s.tally := by
  simp [returnData, State.returnRead_tally, State.countLate_tally]
theorem returnError_tally (e : InFlight) : (returnError e s).tally = s.tally := by
  simp [returnError, State.returnRead_tally]
theorem grantStream_tally (run : Nat) : (grantStream run s).tally = s.tally := by
  unfold grantStream; split <;> rfl
theorem grantVerdict_tally (own : Nat) : (grantVerdict own s).tally = s.tally := by
  unfold grantVerdict; split <;> rfl
theorem grantGlyph_tally (own : Nat) : (grantGlyph own s).tally = s.tally := by
  unfold grantGlyph; split <;> rfl
theorem grantOwn_tally (own : Nat) : (grantOwn own s).tally = s.tally := by
  simp only [grantOwn]
  split
  · rw [grantVerdict_tally]; rfl
  · rw [grantGlyph_tally]; rfl
theorem grant_tally (own : Nat) : (grant own s).tally = s.tally := by
  unfold grant
  split_ifs
  all_goals simp only [grantOwn_tally, grantStream_tally]

end

theorem takeResponse_tally {r : Response} {s t : State} (h : takeResponse r s = .next t) :
    t.tally = s.tally := by
  unfold takeResponse at h
  split_ifs at h
  · unfold verdictResponse at h
    split at h
    · split at h <;> cases h
      rfl
    · cases h; simp
    · cases h; simp
  · unfold loaderResponse at h
    split at h <;> cases h
    rfl
  · unfold playerResponse at h
    split at h
    · cases h; rfl
    · split at h <;> cases h
      · exact returnData_tally ..
      · exact returnError_tally ..

/-! ### The Tally Unit's own events keep it sound -/

section
variable {s : State}

theorem takeMinute_sound (hi : TallyInv s.tally) : TallyInv (takeMinute s).tally := by
  unfold takeMinute
  split
  · have hw : TallyInv { s.tally with minuteWaiting := false } := hi.congr rfl rfl rfl rfl
    dsimp only
    rw [State.tallyDone_tally]
    exact recomputeAll_sound hw _
  · exact hi

theorem takeExpiry_sound (hi : TallyInv s.tally) : TallyInv (takeExpiry s).tally := by
  unfold takeExpiry
  split
  · have hw : TallyInv { s.tally with expiryWaiting := none } := hi.congr rfl rfl rfl rfl
    dsimp only
    rw [State.tallyDone_tally]
    exact expire_sound hw _
  · exact hi

theorem takeSecond_sound (hi : TallyInv s.tally) : TallyInv (takeSecond s).tally := by
  simp only [takeSecond]
  split
  · split <;> exact hi.congr rfl rfl rfl rfl
  · split <;> exact hi.congr rfl rfl rfl rfl

/-- A seconds tick settles the events of the tick before and hands on its own (R164). -/
theorem secondsTick_sound (hi : TallyInv s.tally) : TallyInv (secondsTick s).tally := by
  have hsettled : TallyInv (settleTick s).tally := by
    unfold settleTick
    rw [takeClockCells_tally, settleRetries_tally, takeNoticeTick_tally, takeBoardMinute_tally,
      settleDwells_tally]
    exact takeMinute_sound (takeExpiry_sound hi)
  unfold secondsTick
  split
  · exact hi
  · exact takeSecond_sound hsettled

theorem ownRecord_sound (hi : TallyInv s.tally) (r : Record) :
    TallyInv (ownRecord r s).state.tally := by
  unfold ownRecord
  split
  case h_1 | h_2 => exact hi
  all_goals exact apply_sound hi _ _ _

theorem processStep_sound (hi : TallyInv s.tally) : TallyInv (processStep s).tally := by
  unfold processStep
  split
  · exact hi
  · split
    · rw [State.withIntake_tally]
      unfold applyRecord
      split
      · exact hi
      · split
        · exact hi
        · exact ownRecord_sound hi _
    · exact hi

theorem cmdSetClock_sound (hi : TallyInv s.tally) (tag minute second : Nat) :
    TallyInv (cmdSetClock tag minute second s).tally := by
  unfold cmdSetClock
  split
  · exact hi
  · rw [State.answer_tally, State.derive_tally, boardRecompute_tally, tallyClock,
      State.tallyDone_tally]
    exact recomputeAll_sound hi _

theorem cmdDayStart_sound (hi : TallyInv s.tally) (tag minute origin : Nat) :
    TallyInv (cmdDayStart tag minute origin s).tally := by
  unfold cmdDayStart
  split
  · exact hi
  · rw [State.answer_tally, State.derive_tally, boardRecompute_tally, tallyDay,
      State.tallyDone_tally]
    exact dayStart_sound hi _

theorem cmdSetTally_sound (hi : TallyInv s.tally) (tag : Nat) (p : TallyParams) :
    TallyInv (cmdSetTally tag p s).tally := by
  simp only [cmdSetTally]
  rw [State.answer_tally, State.tallyDone_tally]
  exact setSettings_sound hi _ _

/-- WARM_RESET leaves the Tally Unit as its own reset does. -/
theorem cmdWarmReset_tally (s : State) (tag : Nat) :
    (cmdWarmReset tag s).tally = s.tally.warmReset := by
  rw [cmdWarmReset, State.answer_tally, State.commitAll_tally, State.derive_tally]
  rfl

/-- Every command line keeps the Tally Unit sound. -/
theorem runCommand_sound (hi : TallyInv s.tally) (c : Instr) : TallyInv (runCommand c s).tally := by
  unfold runCommand
  split
  case h_2 => exact cmdWarmReset_tally s _ ▸ warmReset_sound s.tally
  case h_3 => exact cmdSetClock_sound hi ..
  case h_4 => exact cmdDayStart_sound hi ..
  case h_6 => exact cmdSetTally_sound hi ..
  case h_22 => exact hi
  case h_1 => rwa [cmdSetMode_tally]
  case h_5 => rwa [cmdSetIntake_tally]
  case h_7 => rwa [cmdSetWords_tally]
  case h_8 => rwa [cmdSetView_tally]
  case h_9 => rwa [cmdSetSurface_tally]
  case h_10 => rwa [cmdSetCell_tally]
  case h_11 => rwa [cmdClearCell_tally]
  case h_12 => rwa [cmdLoadGlyphs_tally]
  case h_13 => rwa [cmdSetSegment_tally]
  case h_14 => rwa [cmdSetTrigger_tally]
  case h_15 => rwa [cmdClearTrigger_tally]
  case h_16 => rwa [cmdSetPane_tally]
  case h_17 => rwa [cmdSetPlaylist_tally]
  case h_18 => rwa [cmdPlayStart_tally]
  case h_19 => rwa [cmdPlayResume_tally]
  case h_20 => rwa [cmdPlayStop_tally]
  case h_21 => rwa [cmdPaneClear_tally]
  case h_23 => rwa [cmdClearCauses_tally]
  case h_24 => rwa [cmdInspect_tally]
  all_goals exact hi

theorem recognise_sound (hi : TallyInv s.tally) (r : Request) : TallyInv (recognise r s).tally := by
  unfold recognise
  split_ifs
  · unfold takeAnchor
    split
    · split
      · rw [State.forward_tally]
        unfold takeCommand
        split_ifs
        · exact hi
        · exact hi
        · split
          · exact hi
          · exact runCommand_sound hi _
      · exact hi
    · split <;> exact hi
  · exact hi
  · split
    · rwa [takeRead_tally]
    · rwa [State.forward_tally, takeWrite_tally]

theorem takeOldest_sound (hi : TallyInv s.tally) {t : State} (h : takeOldest s = .next t) :
    TallyInv t.tally := by
  unfold takeOldest at h
  split at h
  · cases h; exact hi
  · split at h
    · cases h; exact hi
    · unfold takeRequest at h
      split_ifs at h <;> cases h
      · exact hi
      · exact recognise_sound (by exact hi) _

end

/-- Every command keeps the Tally Unit sound. -/
theorem exec_tally_sound {c : Instr} {s t : State} (hi : TallyInv s.tally)
    (h : exec c s = .next t) : TallyInv t.tally := by
  have keeps : ∀ {f : State → State}, whenRunning f s = .next t → (f s).tally = s.tally →
      TallyInv t.tally := fun h hf =>
    whenRunning_keeps (P := fun u => TallyInv u.tally) h hi (hf ▸ hi)
  have sound : ∀ {f : State → State}, whenRunning f s = .next t → TallyInv (f s).tally →
      TallyInv t.tally := fun h hf =>
    whenRunning_keeps (P := fun u => TallyInv u.tally) h hi hf
  have may : ∀ {f : State → Host.Outcome State Fault Refusal}, unlessReset f s = .next t →
      (f s = .next t → TallyInv t.tally) → TallyInv t.tally := fun h hf =>
    unlessReset_keeps (P := fun u => TallyInv u.tally) h hi hf
  have line : ∀ {c : Instr}, whenRunning (runCommand c) s = .next t → TallyInv t.tally :=
    fun h => sound h (runCommand_sound hi _)
  cases c with
  | resetRelease straps => cases h; exact empty_sound _ rfl rfl rfl
  | resetAssert => cases h; exact hi
  | millisecondTick => exact keeps h rfl
  | secondsTick => exact sound h (secondsTick_sound hi)
  | changeOfMinute => exact sound h (takeMinute_sound hi)
  | boardMinuteRecompute => exact keeps h (takeBoardMinute_tally s)
  | clockCellUpdate => exact keeps h (takeClockCells_tally s)
  | holdExpiry => exact sound h (takeExpiry_sound hi)
  | dwellExpiry view => exact keeps h (takeDwell_tally s view)
  | timedNoticeExpiry => exact keeps h (takeNoticeTick_tally s)
  | cyclePhaseExpiry => exact keeps h (takeNoticeTick_tally s)
  | retryTimerExpiry pane => exact keeps h (takeRetry_tally s pane)
  | idleTimerExpiry surface =>
    exact keeps (f := fun u => u.withPatch (u.patch.idleExpiry surface)) h rfl
  | boardTallyEvent => exact keeps h (takeBoardEvent_tally s)
  | noticeTallyEvent => exact keeps h (takeNoticeEvent_tally s)
  | paneTallyEvent => exact keeps h rfl
  | patchSourceChange source =>
    cases source with
    | tally => exact keeps h (takeFromTally_tally s)
    | board => exact keeps h (takeFromBoard_tally s)
    | notice => exact keeps h (takeFromNotice_tally s)
  | paneFullscreenFlag => exact keeps h (takeFlagHandOn_tally s)
  | upstreamRequest offer =>
    exact may (f := fun u => takeOldest (offerRequest offer u)) h
      (takeOldest_sound (s := offerRequest offer s) hi)
  | downstreamResponse response =>
    exact may (f := takeResponse response) h fun h => takeResponse_tally h ▸ hi
  | loadDone => exact keeps h (takeLoadDone_tally s)
  | loaderDrainEnd => exact keeps h (takeDrainEnd_tally s)
  | slotFree response =>
    refine may (f := fun u => if u.freesSlot response then takeResponse response u else .next u) h
      fun h => ?_
    split at h
    · exact takeResponse_tally h ▸ hi
    · cases h; exact hi
  | downstreamGrant own => exact keeps h (grant_tally s own)
  | processingStep => exact sound h (processStep_sound hi)
  | anchorLineWrite line initiator txn enables data =>
    unfold exec execAnchorLineWrite at h
    refine may h fun h => ?_
    split at h
    · exact takeOldest_sound (s := offerRequest _ s) hi h
    · cases h; exact hi
  | setMode tag mode => exact line (c := .setMode tag mode) h
  | warmReset tag => exact line (c := .warmReset tag) h
  | setClock tag minute second => exact line (c := .setClock tag minute second) h
  | dayStart tag minute origin => exact line (c := .dayStart tag minute origin) h
  | setIntake tag params => exact line (c := .setIntake tag params) h
  | setTally tag params => exact line (c := .setTally tag params) h
  | setWords tag words => exact line (c := .setWords tag words) h
  | setView tag params => exact line (c := .setView tag params) h
  | setSurface tag params => exact line (c := .setSurface tag params) h
  | setCell tag params => exact line (c := .setCell tag params) h
  | clearCell tag cell => exact line (c := .clearCell tag cell) h
  | loadGlyphs tag set source sum => exact line (c := .loadGlyphs tag set source sum) h
  | setSegment tag segment text => exact line (c := .setSegment tag segment text) h
  | setTrigger tag params => exact line (c := .setTrigger tag params) h
  | clearTrigger tag trigger => exact line (c := .clearTrigger tag trigger) h
  | setPane tag params => exact line (c := .setPane tag params) h
  | setPlaylist tag pane first count entries =>
    exact line (c := .setPlaylist tag pane first count entries) h
  | playStart tag pane entry now => exact line (c := .playStart tag pane entry now) h
  | playResume tag pane => exact line (c := .playResume tag pane) h
  | playStop tag pane => exact line (c := .playStop tag pane) h
  | paneClear tag pane => exact line (c := .paneClear tag pane) h
  | setMask tag mask => exact line (c := .setMask tag mask) h
  | clearCauses tag mask => exact line (c := .clearCauses tag mask) h
  | inspect tag kind index => exact line (c := .inspect tag kind index) h

/-- Settles O50: an idle step changes nothing, and every command keeps the Tally Unit sound. -/
theorem tallyStaysSound : Obligations.TallyStaysSound := by
  intro s t hi h
  unfold step at h
  split at h
  · cases h; exact hi
  · next c rest _ =>
    have hi : TallyInv (s.withPending rest).tally := hi
    exact exec_tally_sound hi h

end Sys2Proof.Machine

namespace Sys2Proof.Machine

/-! ### The processing step -/

/-- A record answered leaves the Intake Unit as R147 says: the head gone, its verdict queued, one
counter risen, back-pressure judged. -/
theorem answer_stepped (u : IntakeUnit) (v : Verdict) : u.stepped (u.answer v) v := by
  unfold IntakeUnit.stepped IntakeUnit.answer IntakeUnit.judgeStep IntakeCounters.answered
  rw [List.drop_one]
  generalize u.queue.tail = rest
  by_cases hv : v.reason = .none
  · cases hr : u.raised
    · simp [hv]
    · by_cases hl : rest.length ≤ u.lower <;> simp [hv, hl, Nat.lt_of_not_le]
  · cases hr : u.raised
    · simp [hv]
    · by_cases hl : rest.length ≤ u.lower <;> simp [hv, hl, Nat.lt_of_not_le]

section
variable {s : State} {q : QueuedRecord} {r : Record}

/-- A processing step with room in the verdict queue takes the head record and answers it (R147). -/
theorem processingStep_head (hr : s.path.resetHeld = false)
    (hv : s.intake.verdicts.length < Config.verdicts) (hq : s.intake.queue.head? = some q) :
    exec .processingStep s = .next ((applyRecord q.data s).state.withIntake
      (s.intake.answer ((applyRecord q.data s).outcome.verdict q.addr))) := by
  obtain ⟨rest, hrest⟩ : ∃ rest, s.intake.queue = q :: rest := by
    cases hl : s.intake.queue with
    | nil => simp [hl] at hq
    | cons x rest => exact ⟨rest, by simpa [hl] using hq⟩
  change whenRunning processStep s = _
  rw [whenRunning_runs hr, processStep, hrest]
  exact congrArg _ (if_pos hv)

/-- A good record is handed to its owning unit (R147). -/
theorem processingStep_reads (h : s.readsRecord q r) :
    exec .processingStep s = .next ((ownRecord r s).state.withIntake
      (s.intake.answer ((ownRecord r s).outcome.verdict q.addr))) := by
  obtain ⟨hr, hv, hq, hsum, hdec⟩ := h
  have ha : applyRecord q.data s = ownRecord r s := by
    rw [applyRecord, if_neg (by simpa using hsum), hdec]
  rw [processingStep_head hr hv hq, ha]

/-- A record of the Tally Unit, taken: the unit's answer stands in its frame, its events are handed
on in order, and its verdict carries the figures of the show reported (R8, R12, R147, R148). -/
theorem processingStep_tally (h : s.readsRecord q r) (hown : ownRecord r s = tallyRecord r s)
    {a : TallyAnswer} (ha : s.tally.apply s.clock.minute s.clock.uptime r = a) :
    ∃ t, exec .processingStep s = .next t ∧ s.tallyFrame t ∧ t.tally = a.unit ∧
      t.board.inbox = s.board.inbox ++ a.out ∧
      t.notice.inbox = s.notice.inbox ++ tallyEventsOf a.out ∧
      t.pane.inbox = s.pane.inbox ++ tallyEventsOf a.out ∧
      s.intake.stepped t.intake {
        addr := q.addr, reason := a.reason, left := a.reported.left, state := a.reported.state,
        band := a.reported.band } := by
  subst ha
  refine ⟨_, processingStep_reads h, ?_⟩
  rw [hown]
  exact ⟨rfl, rfl, rfl, rfl, rfl, answer_stepped _ _⟩

/-- The same for a record that emits tally events alone. -/
theorem processingStep_emits (h : s.readsRecord q r) (hown : ownRecord r s = tallyRecord r s)
    {a : TallyAnswer} (ha : s.tally.apply s.clock.minute s.clock.uptime r = a)
    {l : List TallyEvent} (hl : a.out = l.map BoardEvent.tally) :
    ∃ t, exec .processingStep s = .next t ∧ s.tallyFrame t ∧ t.tally = a.unit ∧ s.emits t l ∧
      s.intake.stepped t.intake {
        addr := q.addr, reason := a.reason, left := a.reported.left, state := a.reported.state,
        band := a.reported.band } := by
  obtain ⟨t, hexec, hframe, htally, hb, hn, hp, hv⟩ := processingStep_tally h hown ha
  rw [hl, tallyEventsOf_map] at hn hp
  exact ⟨t, hexec, hframe, htally, ⟨hl ▸ hb, hn, hp⟩, hv⟩

/-- A record that changed one show is done: `seatsDone` is what `TallyUnit.changed` answers. -/
theorem seatsDone_of {m : Nat} {w : Show} (h : s.readsRecord q r)
    (hown : ownRecord r s = tallyRecord r s)
    (ha : s.tally.apply s.clock.minute s.clock.uptime r = s.tally.changed m w)
    (hm : m < s.tally.shows.length) (hb : w.band = (s.tally.entry m).band) :
    s.seatsDone q m w := by
  obtain ⟨t, hexec, hframe, htally, hemits, hv⟩ := processingStep_emits h hown ha rfl
  have hrep : (s.tally.changed m w).reported = w.rebanded s.tally.settings := put_entry_self hm _
  rw [hrep] at hv
  exact ⟨t, hexec, hframe, htally, hb ▸ hemits, hv⟩

/-! ### Refused records -/

/-- A record refused by the Tally Unit changes nothing but the Intake Unit, and reports the show its
answer names (R12, R31). -/
theorem refusesRecord_tally {reason : Reason} {subject : Option Nat} {w : Show}
    (h : s.readsRecord q r) (hown : ownRecord r s = tallyRecord r s)
    (ha : s.tally.apply s.clock.minute s.clock.uptime r = s.tally.refuse reason subject)
    (hw : w = (s.tally.refuse reason subject).reported) : s.refusesRecord q reason w := by
  refine ⟨s.intake.answer _, ?_, answer_stepped _ _⟩
  rw [processingStep_reads h, hown, tallyRecord, ha, hw]
  simp only [TallyUnit.refuse, tallyDone_idle]
  rfl

/-- No surface's top notice differs from itself. -/
theorem topDiffers_self (u : NoticeUnit) (k : Nat) : topDiffers u u k = false := by
  simp [topDiffers]

/-- An event that leaves the Notice Unit as it was changes nothing. -/
theorem noticeDone_idle (s : State) : s.noticeDone s.notice = s := by
  have h : handOns s.notice s.notice = [] := by
    simp [handOns, List.filter_eq_nil_iff, topDiffers_self]
  simp [State.noticeDone, h]

/-- A record refused by the Notice Unit changes nothing but the Intake Unit, and reports no show
(R62). -/
theorem refusesRecord_notice {reason : Reason} (h : s.readsRecord q r)
    (ha : ownRecord r s = noticeRecord { unit := s.notice, reason := reason } s) :
    s.refusesRecord q reason Show.vacant := by
  refine ⟨s.intake.answer _, ?_, answer_stepped _ _⟩
  rw [processingStep_reads h, ha, noticeRecord, noticeDone_idle]
  rfl

/-- A record that fails before it reaches a unit changes nothing but the Intake Unit (R147). -/
theorem refusesRecord_plain {reason : Reason} (hr : s.path.resetHeld = false)
    (hv : s.intake.verdicts.length < Config.verdicts) (hq : s.intake.queue.head? = some q)
    (ha : applyRecord q.data s = { state := s, outcome := Outcome.plain reason }) :
    s.refusesRecord q reason Show.vacant := by
  refine ⟨s.intake.answer _, ?_, answer_stepped _ _⟩
  rw [processingStep_head hr hv hq, ha]
  rfl

end

/-- A kind code outside 1..14 is no record (R180, R182). -/
theorem decodeRecord_none {l : Line} (h : byteAt l 0 = 0 ∨ 14 < byteAt l 0) :
    decodeRecord l = none := by
  unfold decodeRecord
  split
  case h_15 => rfl
  all_goals omega

/-! ### The tests that record kinds share -/

section
variable (t : TallyUnit)

/-- The first four tests of SALE, REFUND, BLOCK and UNBLOCK (R13 to R16). -/
def TallyUnit.seatTests (desk m n : Nat) (passed : TallyAnswer) : TallyAnswer :=
  if Config.shows ≤ m then t.refuse .badField (some m)
  else if 63 < desk then t.refuse .badField (some m)
  else if badCount n then t.refuse .badCount (some m)
  else if (t.entry m).state = .empty then t.refuse .noShow (some m)
  else passed

/-- The first two tests of SHOW_AMEND, SHOW_DELAY, SHOW_CANCEL and SHOW_REMOVE (R18 to R21). -/
def TallyUnit.showTests (m : Nat) (passed : TallyAnswer) : TallyAnswer :=
  if Config.shows ≤ m then t.refuse .badField (some m)
  else if (t.entry m).state = .empty then t.refuse .noShow (some m)
  else passed

/-- The first two tests of CONFIRM and RELEASE (R29, R30). -/
def TallyUnit.pairTests (desk holdId : Nat) (passed : TallyAnswer) : TallyAnswer :=
  if 63 < desk then t.refuse .badField none
  else if holdId = 0 then t.refuse .badField none
  else passed

variable (desk m n : Nat)

theorem sale_eq : t.sale desk m n = t.seatTests desk m n
    (if (t.entry m).over then t.refuse .showClosed (some m)
    else if (t.entry m).left < n then t.refuse .noSeats (some m)
    else ((t.put m { t.entry m with sold := (t.entry m).sold + n }).reband m).done m) := rfl

theorem refund_eq : t.refund desk m n = t.seatTests desk m n
    (if (t.entry m).sold < n then t.refuse .badCount (some m)
    else ((t.put m { t.entry m with sold := (t.entry m).sold - n }).reband m).done m) := rfl

theorem block_eq : t.block desk m n = t.seatTests desk m n
    (if (t.entry m).over then t.refuse .showClosed (some m)
    else if (t.entry m).left < n then t.refuse .noSeats (some m)
    else ((t.put m { t.entry m with blocked := (t.entry m).blocked + n }).reband m).done m) := rfl

theorem unblock_eq : t.unblock desk m n = t.seatTests desk m n
    (if (t.entry m).blocked < n then t.refuse .badCount (some m)
    else ((t.put m { t.entry m with blocked := (t.entry m).blocked - n }).reband m).done m) := rfl

variable {t desk m n} {passed : TallyAnswer}

/-- The seat count test passes exactly for 1 to 64 seats. -/
theorem badCount_iff : badCount n = true ↔ n = 0 ∨ 64 < n := by simp [badCount]

theorem seatTests_badField (h : Config.shows ≤ m ∨ 64 ≤ desk) :
    t.seatTests desk m n passed = t.refuse .badField (some m) := by
  unfold TallyUnit.seatTests
  split_ifs with hm hd
  · rfl
  · rfl
  all_goals exact absurd h (by omega)

theorem seatTests_badCount (hm : m < Config.shows) (hd : desk ≤ 63) (h : n = 0 ∨ 64 < n) :
    t.seatTests desk m n passed = t.refuse .badCount (some m) := by
  rw [TallyUnit.seatTests, if_neg (by omega), if_neg (by omega), if_pos (badCount_iff.mpr h)]

theorem seatTests_noShow (hm : m < Config.shows) (hd : desk ≤ 63) (h1 : 1 ≤ n) (h2 : n ≤ 64)
    (h : (t.entry m).state = .empty) :
    t.seatTests desk m n passed = t.refuse .noShow (some m) := by
  rw [TallyUnit.seatTests, if_neg (by omega), if_neg (by omega),
    if_neg (by rw [badCount_iff]; omega), if_pos h]

theorem seatTests_passed (hm : m < Config.shows) (hd : desk ≤ 63) (h1 : 1 ≤ n) (h2 : n ≤ 64)
    (h : (t.entry m).state ≠ .empty) : t.seatTests desk m n passed = passed := by
  rw [TallyUnit.seatTests, if_neg (by omega), if_neg (by omega),
    if_neg (by rw [badCount_iff]; omega), if_neg h]

theorem showTests_badField (h : Config.shows ≤ m) :
    t.showTests m passed = t.refuse .badField (some m) := if_pos h

theorem showTests_noShow (hm : m < Config.shows) (h : (t.entry m).state = .empty) :
    t.showTests m passed = t.refuse .noShow (some m) := by
  rw [TallyUnit.showTests, if_neg (by omega), if_pos h]

theorem showTests_passed (hm : m < Config.shows) (h : (t.entry m).state ≠ .empty) :
    t.showTests m passed = passed := by
  rw [TallyUnit.showTests, if_neg (by omega), if_neg h]

theorem pairTests_badField {holdId : Nat} (h : 64 ≤ desk ∨ holdId = 0) :
    t.pairTests desk holdId passed = t.refuse .badField none := by
  unfold TallyUnit.pairTests
  split_ifs
  · rfl
  · rfl
  · omega

theorem pairTests_passed {holdId : Nat} (hd : desk ≤ 63) (hh : 1 ≤ holdId) :
    t.pairTests desk holdId passed = passed := by
  rw [TallyUnit.pairTests, if_neg (by omega), if_neg (by omega)]

end

/-- A show is over exactly when it is CLOSED or CANCELLED. -/
theorem over_iff {w : Show} : w.over = true ↔ w.state = .closed ∨ w.state = .cancelled := by
  simp [Show.over]

/-- Settles O30: each of the four passes the tests it shares with the others and its own, and then
leaves its show with one count changed. -/
theorem seatRecordsApply : Obligations.SeatRecordsApply := by
  intro s q desk m n w hw hlen hm hd h1 h2 he
  subst hw
  have hm' : m < s.tally.shows.length := hlen ▸ hm
  refine ⟨fun h hc hx hs => ?_, fun h hs => ?_, fun h hc hx hs => ?_, fun h hs => ?_⟩
  · refine seatsDone_of h rfl ?_ hm' rfl
    change s.tally.sale desk m n = _
    rw [sale_eq, seatTests_passed hm hd h1 h2 he, if_neg (by simp [over_iff, hc, hx]),
      if_neg (by simp only [Show.left]; omega), put_reband_done hm']
  · refine seatsDone_of h rfl ?_ hm' rfl
    change s.tally.refund desk m n = _
    rw [refund_eq, seatTests_passed hm hd h1 h2 he, if_neg (by omega), put_reband_done hm']
  · refine seatsDone_of h rfl ?_ hm' rfl
    change s.tally.block desk m n = _
    rw [block_eq, seatTests_passed hm hd h1 h2 he, if_neg (by simp [over_iff, hc, hx]),
      if_neg (by simp only [Show.left]; omega), put_reband_done hm']
  · refine seatsDone_of h rfl ?_ hm' rfl
    change s.tally.unblock desk m n = _
    rw [unblock_eq, seatTests_passed hm hd h1 h2 he, if_neg (by omega), put_reband_done hm']

end Sys2Proof.Machine

namespace Sys2Proof.Machine

/-! ### Records refused -/

section
variable {t : TallyUnit} {r : Record} {desk m n : Nat}

/-- Each of the four seat records begins with the tests of `seatTests`. -/
theorem seat_tests (h : r = .sale desk m n ∨ r = .refund desk m n ∨ r = .block desk m n ∨
    r = .unblock desk m n) :
    (∀ s, ownRecord r s = tallyRecord r s) ∧
      ∀ t now uptime, ∃ passed, TallyUnit.apply t now uptime r = t.seatTests desk m n passed := by
  rcases h with rfl | rfl | rfl | rfl <;> exact ⟨fun _ => rfl, fun _ _ _ => ⟨_, rfl⟩⟩

/-- SALE and BLOCK go on with the state of the show and its seats left (R13, R15). -/
theorem selling_tests (h : r = .sale desk m n ∨ r = .block desk m n) (now uptime : Nat) :
    ∃ passed, t.apply now uptime r = t.seatTests desk m n
      (if (t.entry m).over then t.refuse .showClosed (some m)
      else if (t.entry m).left < n then t.refuse .noSeats (some m) else passed) := by
  rcases h with rfl | rfl <;> exact ⟨_, rfl⟩

theorem amend_eq (capacity : Nat) (title : List Byte) :
    t.amend m capacity title = t.showTests m
      (if (t.entry m).over then t.refuse .wrongState (some m)
      else if 4000 < capacity then t.refuse .badField (some m)
      else if capacity ≠ 0 ∧ capacity < (t.entry m).sold + (t.entry m).held + (t.entry m).blocked
      then t.refuse .overCapacity (some m)
      else ((t.put m { t.entry m with
        capacity := if capacity = 0 then (t.entry m).capacity else capacity
        title := if takeText 24 title = [] then (t.entry m).title
          else takeText 24 title }).reband m).done m) := rfl

/-- SHOW_DELAY asks for a LISTED or BOARDING show after the tests it shares (R19). -/
theorem delayShow_tests (now minutes : Nat) :
    ∃ passed, t.delayShow now m minutes = t.showTests m
      (if (t.entry m).state ≠ .listed ∧ (t.entry m).state ≠ .boarding
      then t.refuse .wrongState (some m) else passed) := ⟨_, rfl⟩

theorem cancel_eq (now : Nat) : t.cancel now m = t.showTests m
    (if (t.entry m).over then t.refuse .wrongState (some m)
    else
      { unit := (((t.put m { t.entry m with
          state := .cancelled, cancelMinute := some now }).releaseShow m).reband m).unit,
        out := eventList m (some .cancelled) ++ (((t.put m { t.entry m with
          state := .cancelled, cancelMinute := some now }).releaseShow m).reband m).out,
        reason := .none, subject := some m }) := rfl

theorem remove_eq : t.remove m = t.showTests m
    (if !(t.entry m).removable then t.refuse .wrongState (some m)
    else { unit := t.put m Show.vacant, out := eventList m (some .removed), reason := .none,
           subject := some m }) := rfl

/-- SHOW_REMOVE empties a show that is over, and a LISTED one no seat of which is taken (R21). -/
theorem removable_iff {w : Show} : w.removable = true ↔ w.over = true ∨
    (w.state = .listed ∧ w.sold = 0 ∧ w.held = 0 ∧ w.blocked = 0) := by
  simp [Show.removable, and_assoc]

/-- CONFIRM and RELEASE of a pair no hold has are answered late (R29, R30). -/
theorem pair_tests {id : Nat} (h : r = .confirm desk id ∨ r = .release desk id) :
    (∀ s, ownRecord r s = tallyRecord r s) ∧
      ∀ t now uptime, ∃ passed, TallyUnit.apply t now uptime r = t.pairTests desk id passed ∧
        ((∀ h, h ∈ t.holds → h.pair ≠ (desk, id)) → passed = t.lateAnswer (desk, id)) := by
  have hnone : ∀ t : TallyUnit, (∀ h, h ∈ t.holds → h.pair ≠ (desk, id)) →
      t.holds.find? (fun h => h.pair == (desk, id)) = none := fun t ht =>
    List.find?_eq_none.mpr fun x hx => by simpa using ht x hx
  rcases h with rfl | rfl
  all_goals
    refine ⟨fun _ => rfl, fun t _ _ => ⟨_, rfl, fun ht => ?_⟩⟩
    rw [hnone t ht]

/-- An unknown mode or end action is no timing (R59). -/
theorem timingOf_none {p : TimingParams} (h : 3 ≤ p.mode ∨ (p.mode = 2 ∧ 2 ≤ p.endAction)) :
    timingOf p = none := by
  unfold timingOf
  split
  · omega
  · omega
  · rw [if_neg (by omega)]
  · rfl

end

section
variable {s : State} {q : QueuedRecord}

/-- A SALE, REFUND, BLOCK or UNBLOCK that a test of its kind refuses. -/
theorem seatRecord_refused {desk m n : Nat} {r : Record} (h : s.readsRecord q r) {w : Show}
    (hw : w = s.tally.entry m)
    (hr : r = .sale desk m n ∨ r = .refund desk m n ∨ r = .block desk m n ∨
      r = .unblock desk m n) :
    (128 ≤ m ∨ 64 ≤ desk → s.refusesRecord q .badField w) ∧
      (m < 128 → desk ≤ 63 → (n = 0 ∨ 64 < n) → s.refusesRecord q .badCount w) ∧
      (m < 128 → desk ≤ 63 → 1 ≤ n → n ≤ 64 →
        (w.state = .empty → s.refusesRecord q .noShow w) ∧
        (w.state ≠ .empty → (r = .sale desk m n ∨ r = .block desk m n) →
          (w.state = .closed ∨ w.state = .cancelled) → s.refusesRecord q .showClosed w) ∧
        (w.state ≠ .empty → (r = .sale desk m n ∨ r = .block desk m n) →
          w.state ≠ .closed → w.state ≠ .cancelled →
          w.capacity < w.sold + w.held + w.blocked + n → s.refusesRecord q .noSeats w) ∧
        (w.state ≠ .empty → r = .refund desk m n → w.sold < n →
          s.refusesRecord q .badCount w) ∧
        (w.state ≠ .empty → r = .unblock desk m n → w.blocked < n →
          s.refusesRecord q .badCount w)) := by
  subst hw
  obtain ⟨hown, htests⟩ := seat_tests hr
  obtain ⟨passed, hp⟩ := htests s.tally s.clock.minute s.clock.uptime
  refine ⟨fun hf => ?_, fun hm hd hn => ?_, fun hm hd h1 h2 => ⟨fun he => ?_,
    fun he hk hc => ?_, fun he hk hc hx hs => ?_, fun he hk hs => ?_, fun he hk hs => ?_⟩⟩
  · exact refusesRecord_tally h (hown s) (hp.trans (seatTests_badField hf)) rfl
  · exact refusesRecord_tally h (hown s) (hp.trans (seatTests_badCount hm hd hn)) rfl
  · exact refusesRecord_tally h (hown s) (hp.trans (seatTests_noShow hm hd h1 h2 he)) rfl
  · obtain ⟨passed, hp⟩ := selling_tests (t := s.tally) hk s.clock.minute s.clock.uptime
    refine refusesRecord_tally (subject := some m) h (hown s) ?_ rfl
    rw [hp, seatTests_passed hm hd h1 h2 he, if_pos (over_iff.mpr hc)]
  · obtain ⟨passed, hp⟩ := selling_tests (t := s.tally) hk s.clock.minute s.clock.uptime
    refine refusesRecord_tally (subject := some m) h (hown s) ?_ rfl
    rw [hp, seatTests_passed hm hd h1 h2 he, if_neg (by simp [over_iff, hc, hx]),
      if_pos (by simp only [Show.left]; omega)]
  · refine refusesRecord_tally (subject := some m) h (hown s) ?_ rfl
    rw [hk]
    change s.tally.refund desk m n = _
    rw [refund_eq, seatTests_passed hm hd h1 h2 he, if_pos hs]
  · refine refusesRecord_tally (subject := some m) h (hown s) ?_ rfl
    rw [hk]
    change s.tally.unblock desk m n = _
    rw [unblock_eq, seatTests_passed hm hd h1 h2 he, if_pos hs]

/-- A HOLD that a test of R26 refuses. -/
theorem holdRecord_refused {desk id m n lifetime : Nat}
    (h : s.readsRecord q (.hold desk id m n lifetime)) {w : Show} (hw : w = s.tally.entry m) :
    (128 ≤ m ∨ 64 ≤ desk ∨ id = 0 → s.refusesRecord q .badField w) ∧
      (m < 128 → desk ≤ 63 → 1 ≤ id →
        ((n = 0 ∨ 64 < n) → s.refusesRecord q .badCount w) ∧
        (1 ≤ n → n ≤ 64 →
          (w.state = .empty → s.refusesRecord q .noShow w) ∧
          ((w.state = .closed ∨ w.state = .cancelled) → s.refusesRecord q .showClosed w) ∧
          (w.state ≠ .empty → w.state ≠ .closed → w.state ≠ .cancelled →
            ((∃ h, h ∈ s.tally.holds ∧ h.pair = (desk, id)) →
              s.refusesRecord q .duplicateHold w) ∧
            ((∀ h, h ∈ s.tally.holds → h.pair ≠ (desk, id)) →
              (256 ≤ s.tally.holds.length → s.refusesRecord q .holdsFull w) ∧
              (s.tally.holds.length < 256 → w.capacity < w.sold + w.held + w.blocked + n →
                s.refusesRecord q .noSeats w))))) := by
  subst hw
  have refuses : ∀ {reason}, s.tally.hold s.clock.uptime desk id m n lifetime =
      s.tally.refuse reason (some m) → s.refusesRecord q reason (s.tally.entry m) :=
    fun ha => refusesRecord_tally h rfl ha rfl
  unfold TallyUnit.hold at refuses
  refine ⟨fun hf => refuses ?_, fun hm hd hid => ?_⟩
  · split_ifs with hm hd hid
    any_goals rfl
    all_goals exact absurd hf (by simp only [Config.shows] at hm; omega)
  have hm' : ¬ Config.shows ≤ m := Nat.not_le.mpr hm
  have hd' : ¬ 63 < desk := Nat.not_lt.mpr hd
  have hid' : id ≠ 0 := by omega
  rw [if_neg hm', if_neg hd', if_neg hid'] at refuses
  refine ⟨fun hn => refuses (if_pos (badCount_iff.mpr hn)), fun h1 h2 => ?_⟩
  rw [if_neg (by rw [badCount_iff]; omega)] at refuses
  refine ⟨fun he => refuses (if_pos he), fun hc => refuses ?_, fun he hc hx => ?_⟩
  · rw [if_neg (by rcases hc with hc | hc <;> simp [hc]), if_pos (over_iff.mpr hc)]
  rw [if_neg he, if_neg (by simp [over_iff, hc, hx])] at refuses
  refine ⟨fun hp => refuses (if_pos ((hasHold_iff _ _).mpr hp)), fun hp => ?_⟩
  rw [if_neg (by rw [hasHold_iff]; rintro ⟨x, hx, he⟩; exact hp x hx he)] at refuses
  refine ⟨fun hf => refuses (if_pos hf), fun hf hs => refuses ?_⟩
  rw [if_neg (Nat.not_le.mpr hf), if_pos (by simp only [Show.left]; omega)]

/-- A CONFIRM or RELEASE refused BAD_FIELD or HOLD_UNKNOWN (R29, R30). -/
theorem pairRecord_refused {desk id : Nat} {r : Record} (h : s.readsRecord q r)
    (hr : r = .confirm desk id ∨ r = .release desk id) :
    (64 ≤ desk ∨ id = 0 → s.refusesRecord q .badField Show.vacant) ∧
      (desk ≤ 63 → 1 ≤ id → (∀ h, h ∈ s.tally.holds → h.pair ≠ (desk, id)) →
        (desk, id) ∉ s.tally.expired → s.refusesRecord q .holdUnknown Show.vacant) := by
  obtain ⟨hown, htests⟩ := pair_tests hr
  obtain ⟨passed, hp, hlate⟩ := htests s.tally s.clock.minute s.clock.uptime
  refine ⟨fun hf => ?_, fun hd hid hnone hex => ?_⟩
  · exact refusesRecord_tally h (hown s) (hp.trans (pairTests_badField hf)) rfl
  · refine refusesRecord_tally (subject := none) h (hown s) ?_ rfl
    rw [hp, pairTests_passed hd hid, hlate hnone, TallyUnit.lateAnswer,
      if_neg (by simpa using hex)]

/-- A SHOW_DEFINE that a test of R17 refuses. -/
theorem defineRecord_refused {m auditorium start capacity : Nat} {title : List Byte}
    (h : s.readsRecord q (.showDefine m auditorium start capacity title)) {w : Show}
    (hw : w = s.tally.entry m) :
    (128 ≤ m → s.refusesRecord q .badField w) ∧
      (m < 128 → w.state ≠ .empty → s.refusesRecord q .showExists w) ∧
      (m < 128 → w.state = .empty →
        (auditorium = 0 ∨ 24 < auditorium ∨ 2159 < start ∨ capacity = 0 ∨ 4000 < capacity) →
        s.refusesRecord q .badField w) := by
  subst hw
  have refuses : ∀ {reason}, s.tally.define s.clock.minute m auditorium start capacity title =
      s.tally.refuse reason (some m) → s.refusesRecord q reason (s.tally.entry m) :=
    fun ha => refusesRecord_tally h rfl ha rfl
  unfold TallyUnit.define at refuses
  refine ⟨fun hm => refuses (if_pos hm), fun hm he => refuses ?_, fun hm he hf => refuses ?_⟩
  · rw [if_neg (Nat.not_le.mpr hm), if_pos he]
  · rw [if_neg (Nat.not_le.mpr hm), if_neg (by simpa using he), if_pos hf]

/-- A record whose first tests are those of `showTests` and that one of the two refuses. -/
theorem showTests_refused {m : Nat} {r : Record} (h : s.readsRecord q r)
    (hown : ownRecord r s = tallyRecord r s) {passed : TallyAnswer}
    (hp : s.tally.apply s.clock.minute s.clock.uptime r = s.tally.showTests m passed) :
    (128 ≤ m → s.refusesRecord q .badField (s.tally.entry m)) ∧
      (m < 128 → (s.tally.entry m).state = .empty →
        s.refusesRecord q .noShow (s.tally.entry m)) :=
  ⟨fun hm => refusesRecord_tally h hown (hp.trans (showTests_badField hm)) rfl,
    fun hm he => refusesRecord_tally h hown (hp.trans (showTests_noShow hm he)) rfl⟩

/-- The same where the show is in use and a later test refuses. -/
theorem showTests_refusedLater {m : Nat} {r : Record} (h : s.readsRecord q r)
    (hown : ownRecord r s = tallyRecord r s) {passed : TallyAnswer}
    (hp : s.tally.apply s.clock.minute s.clock.uptime r = s.tally.showTests m passed)
    (hm : m < 128) (he : (s.tally.entry m).state ≠ .empty) {reason : Reason}
    (ha : passed = s.tally.refuse reason (some m)) :
    s.refusesRecord q reason (s.tally.entry m) :=
  refusesRecord_tally h hown ((hp.trans (showTests_passed hm he)).trans ha) rfl

/-- A SHOW_AMEND that a test of R18 refuses. -/
theorem amendRecord_refused {m capacity : Nat} {title : List Byte}
    (h : s.readsRecord q (.showAmend m capacity title)) {w : Show} (hw : w = s.tally.entry m) :
    (128 ≤ m → s.refusesRecord q .badField w) ∧
      (m < 128 → w.state = .empty → s.refusesRecord q .noShow w) ∧
      (m < 128 → (w.state = .closed ∨ w.state = .cancelled) →
        s.refusesRecord q .wrongState w) ∧
      (m < 128 → w.state ≠ .empty → w.state ≠ .closed → w.state ≠ .cancelled →
        (4000 < capacity → s.refusesRecord q .badField w) ∧
        (1 ≤ capacity → capacity ≤ 4000 → capacity < w.sold + w.held + w.blocked →
          s.refusesRecord q .overCapacity w)) := by
  subst hw
  have hp := amend_eq (t := s.tally) (m := m) capacity title
  obtain ⟨hfield, hshow⟩ := showTests_refused h rfl hp
  have later := fun hm he => @showTests_refusedLater s q m _ h rfl _ hp hm he
  refine ⟨hfield, hshow, fun hm hc => later hm ?_ (if_pos (over_iff.mpr hc)),
    fun hm he hc hx => ⟨fun hf => later hm he ?_, fun h1 h2 hs => later hm he ?_⟩⟩
  · rcases hc with hc | hc <;> simp [hc]
  · rw [if_neg (by simp [over_iff, hc, hx]), if_pos hf]
  · rw [if_neg (by simp [over_iff, hc, hx]), if_neg (by omega), if_pos ⟨by omega, hs⟩]

/-- A SHOW_DELAY that a test of R19 refuses. -/
theorem delayRecord_refused {m minutes : Nat} (h : s.readsRecord q (.showDelay m minutes))
    {w : Show} (hw : w = s.tally.entry m) :
    (128 ≤ m → s.refusesRecord q .badField w) ∧
      (m < 128 → w.state = .empty → s.refusesRecord q .noShow w) ∧
      (m < 128 → (w.state = .started ∨ w.state = .closed ∨ w.state = .cancelled) →
        s.refusesRecord q .wrongState w) := by
  subst hw
  obtain ⟨passed, hp⟩ := delayShow_tests (t := s.tally) (m := m) s.clock.minute minutes
  obtain ⟨hfield, hshow⟩ := showTests_refused h rfl hp
  refine ⟨hfield, hshow, fun hm hc => showTests_refusedLater h rfl hp hm ?_ (if_pos ?_)⟩ <;>
    rcases hc with hc | hc | hc <;> simp [hc]

/-- A SHOW_CANCEL that a test of R20 refuses. -/
theorem cancelRecord_refused {m : Nat} (h : s.readsRecord q (.showCancel m)) {w : Show}
    (hw : w = s.tally.entry m) :
    (128 ≤ m → s.refusesRecord q .badField w) ∧
      (m < 128 → w.state = .empty → s.refusesRecord q .noShow w) ∧
      (m < 128 → (w.state = .closed ∨ w.state = .cancelled) →
        s.refusesRecord q .wrongState w) := by
  subst hw
  have hp := cancel_eq (t := s.tally) (m := m) s.clock.minute
  obtain ⟨hfield, hshow⟩ := showTests_refused h rfl hp
  refine ⟨hfield, hshow, fun hm hc =>
    showTests_refusedLater h rfl hp hm ?_ (if_pos (over_iff.mpr hc))⟩
  rcases hc with hc | hc <;> simp [hc]

/-- A SHOW_REMOVE that a test of R21 refuses. -/
theorem removeRecord_refused {m : Nat} (h : s.readsRecord q (.showRemove m)) {w : Show}
    (hw : w = s.tally.entry m) :
    (128 ≤ m → s.refusesRecord q .badField w) ∧
      (m < 128 → w.state = .empty → s.refusesRecord q .noShow w) ∧
      (m < 128 → (w.state = .boarding ∨ w.state = .started ∨
          (w.state = .listed ∧ 0 < w.sold + w.held + w.blocked)) →
        s.refusesRecord q .wrongState w) := by
  subst hw
  have hp := remove_eq (t := s.tally) (m := m)
  obtain ⟨hfield, hshow⟩ := showTests_refused h rfl hp
  refine ⟨hfield, hshow, fun hm hc => showTests_refusedLater h rfl hp hm ?_ (if_pos ?_)⟩
  · rcases hc with hc | hc | ⟨hc, _⟩ <;> simp [hc]
  · rw [Bool.not_eq_true', Bool.eq_false_iff, Ne, removable_iff, over_iff]
    rcases hc with hc | hc | ⟨hc, hs⟩
    · simp [hc]
    · simp [hc]
    · simp only [hc]
      rintro ((h | h) | ⟨-, h1, h2, h3⟩)
      · cases h
      · cases h
      · omega

/-- A NOTICE_POST that a test of R59 refuses. -/
theorem postRecord_refused {p : PostParams} (h : s.readsRecord q (.noticePost p))
    (hf : 64 ≤ p.desk ∨ 64 ≤ p.notice ∨ 8 ≤ p.priority ∨ 3 ≤ p.timing.mode ∨
      (p.timing.mode = 2 ∧ 2 ≤ p.timing.endAction)) :
    s.refusesRecord q .badField Show.vacant := by
  refine refusesRecord_notice h (congrArg (noticeRecord · s) ?_)
  unfold NoticeUnit.post
  split_ifs with h1
  · rfl
  · rw [timingOf_none (by simp only [Config.notices] at h1; omega)]

/-- A NOTICE_WITHDRAW that a test of R61 refuses. -/
theorem withdrawRecord_refused {desk n : Nat} (h : s.readsRecord q (.noticeWithdraw desk n)) :
    (64 ≤ desk ∨ 64 ≤ n → s.refusesRecord q .badField Show.vacant) ∧
      (desk ≤ 63 → n < 64 → s.notice.at? n = none →
        s.refusesRecord q .noNotice Show.vacant) := by
  refine ⟨fun hf => ?_, fun hd hn hnone => ?_⟩
  · refine refusesRecord_notice h (congrArg (noticeRecord · s) (if_pos ?_))
    exact hf
  · refine refusesRecord_notice h (congrArg (noticeRecord · s) ?_)
    rw [NoticeUnit.withdraw, if_neg (by simp only [Config.notices]; omega), if_pos (by simp [hnone])]

end

/-- Settles O34: the check and the kind first, then each record kind by its own tests. -/
theorem refusedRecordsChangeNothing : Obligations.RefusedRecordsChangeNothing := by
  intro s q hr hv hq
  refine ⟨fun hsum => ?_, fun hsum hkind => ?_,
    fun _ _ _ _ _ h hw hk => seatRecord_refused h hw hk,
    fun _ _ _ _ _ _ h hw => holdRecord_refused h hw,
    fun _ _ _ h hk => pairRecord_refused h hk,
    fun _ _ _ _ _ _ h hw => defineRecord_refused h hw,
    fun _ _ _ _ h hw => amendRecord_refused h hw,
    fun _ _ _ h hw => delayRecord_refused h hw,
    fun _ _ h hw => cancelRecord_refused h hw,
    fun _ _ h hw => removeRecord_refused h hw,
    fun _ h hf => postRecord_refused h hf,
    fun _ _ h => withdrawRecord_refused h⟩
  · exact refusesRecord_plain hr hv hq (if_pos hsum)
  · refine refusesRecord_plain hr hv hq ?_
    rw [applyRecord, if_neg (by simpa using hsum), decodeRecord_none hkind]

end Sys2Proof.Machine

namespace Sys2Proof.Machine

/-! ### Shows defined, delayed, cancelled and removed by records -/

/-- A clamp whose lower end is 0 is a minimum. -/
@[simp] theorem clamp_zero (hi n : Nat) : clamp 0 hi n = min n hi := Nat.zero_max _

/-- The hand-on list of an optional event. -/
theorem eventList_eq (n : Nat) (k : Option TallyKind) :
    eventList n k = (k.toList.map fun k => { showNo := n, kind := k : TallyEvent }).map
      BoardEvent.tally := by
  cases k <;> rfl

section
variable {t : TallyUnit} {m : Nat}

theorem define_passed {now auditorium start capacity : Nat} {title : List Byte}
    (hm : m < Config.shows) (he : (t.entry m).state = .empty) (ha : 1 ≤ auditorium)
    (ha' : auditorium ≤ 24) (hs : start ≤ 2159) (hc : 1 ≤ capacity) (hc' : capacity ≤ 4000) :
    t.define now m auditorium start capacity title =
      { unit := t.put m (definedShow t.settings now auditorium start capacity (takeText 24 title)),
        out := eventList m (stateEvent (timeState t.settings now start)), reason := .none,
        subject := some m } := by
  rw [TallyUnit.define, if_neg (Nat.not_le.mpr hm), if_neg (not_not.mpr he),
    if_neg (by simp only [Config.lastMinute]; omega)]

/-- A delay of 0 on a show at delay 0 changes nothing (log entry 16). -/
theorem delayShow_idle {now minutes : Nat} (hm : m < Config.shows)
    (hs : (t.entry m).state = .listed ∨ (t.entry m).state = .boarding) (hd : min minutes 240 = 0)
    (hw : (t.entry m).delay = 0) :
    t.delayShow now m minutes = { unit := t, out := [], reason := .none, subject := some m } := by
  rw [TallyUnit.delayShow, if_neg (Nat.not_le.mpr hm), if_neg (by rcases hs with h | h <;> simp [h]),
    if_neg (by rcases hs with h | h <;> simp [h])]
  exact if_pos ⟨(clamp_zero _ _).trans hd, hw⟩

/-- Any other delay is stored and its show visited as by a change of minute (R19, R34). -/
theorem delayShow_moved (hi : TallyInv t) {now minutes d : Nat} {v : Show} (hm : m < Config.shows)
    (hs : (t.entry m).state = .listed ∨ (t.entry m).state = .boarding) (hd : d = min minutes 240)
    (hw : 0 < d ∨ 0 < (t.entry m).delay) (hv : v = { t.entry m with delay := d }) :
    t.delayShow now m minutes =
      { unit := (t.put m (recomputedShow t.settings now v)).withLists
          (if recomputed t.settings now v = .closed
            then t.holds.filter (fun h => h.showNo != m) else t.holds)
          (if recomputed t.settings now v = .closed
            then lapsedInto t.expired (t.holds.filter (fun h => h.showNo == m)) else t.expired),
        out := (if 0 < d then eventList m (some .delayed) else [.delayNotice m]) ++
          (recomputeEvents t.settings now m v).map BoardEvent.tally,
        reason := .none, subject := some m } := by
  have hlen : m < t.shows.length := by rw [hi.shows_length]; exact hm
  have he : (t.entry m).state ≠ .empty := by rcases hs with h | h <;> simp [h]
  have hvisit := visitClock_eq (hi.putDelay hm he d) (now := now) hm
  rw [put_entry_self hlen, put_put, put_settings, ← hv] at hvisit
  rw [TallyUnit.delayShow, if_neg (Nat.not_le.mpr hm), if_neg he,
    if_neg (by rcases hs with h | h <;> simp [h]), clamp_zero, ← hd]
  dsimp only
  rw [if_neg (by omega), ← hv, hvisit]
  rfl

end

section
variable {s : State} {q : QueuedRecord} {m : Nat} {w : Show}

/-- SHOW_DEFINE fills an EMPTY entry (R17). -/
theorem defineRecord_applies {auditorium start capacity : Nat} {title : List Byte} {v : Show}
    (hi : TallyInv s.tally) (hm : m < 128) (hw : w = s.tally.entry m)
    (h : s.readsRecord q (.showDefine m auditorium start capacity title)) (he : w.state = .empty)
    (ha : 1 ≤ auditorium) (ha' : auditorium ≤ 24) (hs : start ≤ 2159) (hc : 1 ≤ capacity)
    (hc' : capacity ≤ 4000)
    (hv : v = { Show.vacant with
      state := timeState s.tally.settings s.clock.minute start, auditorium := auditorium,
      start := start, capacity := capacity, title := takeText 24 title }) :
    ∃ t, exec .processingStep s = .next t ∧ s.tallyFrame t ∧
      t.tally = { s.tally with
        shows := s.tally.shows.set m { v with band := bandOf s.tally.settings v } } ∧
      s.emits t ((stateEvent v.state).toList.map (fun k => { showNo := m, kind := k })) ∧
      s.intake.stepped t.intake {
        addr := q.addr, reason := .none, left := capacity, state := v.state,
        band := bandOf s.tally.settings v } := by
  have hlen : m < s.tally.shows.length := by rw [hi.shows_length]; exact hm
  have hdef : definedShow s.tally.settings s.clock.minute auditorium start capacity
      (takeText 24 title) = { v with band := bandOf s.tally.settings v } := by rw [hv]; rfl
  obtain ⟨t, hexec, hframe, htally, hemits, hstep⟩ := processingStep_emits h rfl
    (define_passed hm (hw ▸ he) ha ha' hs hc hc') (eventList_eq _ _)
  refine ⟨t, hexec, hframe, htally.trans ?_, by rw [hv]; exact hemits, ?_⟩
  · rw [hdef]
    rfl
  · simp only [TallyAnswer.reported, put_entry_self hlen, hdef] at hstep
    have hleft : Show.left { v with band := bandOf s.tally.settings v } = capacity := by
      rw [hv]; rfl
    rwa [hleft] at hstep

/-- SHOW_AMEND changes the capacity and the title of its show (R18). -/
theorem amendRecord_applies {capacity : Nat} {title : List Byte} (hi : TallyInv s.tally)
    (hm : m < 128) (hw : w = s.tally.entry m) (h : s.readsRecord q (.showAmend m capacity title))
    (he : w.state ≠ .empty) (hc : w.state ≠ .closed) (hx : w.state ≠ .cancelled)
    (hcap : capacity ≤ 4000) (hs : capacity = 0 ∨ w.sold + w.held + w.blocked ≤ capacity) :
    s.seatsDone q m { w with
      capacity := if capacity = 0 then w.capacity else capacity
      title := if takeText 24 title = [] then w.title else takeText 24 title } := by
  subst hw
  have hlen : m < s.tally.shows.length := by rw [hi.shows_length]; exact hm
  refine seatsDone_of h rfl ?_ hlen rfl
  change s.tally.amend m capacity title = _
  rw [amend_eq, showTests_passed hm he, if_neg (by simp [over_iff, hc, hx]), if_neg (by omega),
    if_neg (by omega), put_reband_done hlen]

/-- SHOW_DELAY stores a delay, recomputes its show, and tells the Board Unit of a delay taken
back (R19, R43). -/
theorem delayRecord_applies {minutes d : Nat} {v : Show} (hi : TallyInv s.tally)
    (hm : m < 128) (hw : w = s.tally.entry m) (h : s.readsRecord q (.showDelay m minutes))
    (hs : w.state = .listed ∨ w.state = .boarding) (hd : d = min minutes 240)
    (hv : v = { w with delay := d }) :
    ∃ t, exec .processingStep s = .next t ∧ s.tallyFrame t ∧
      (d = 0 → w.delay = 0 → t.tally = s.tally ∧ s.emits t [] ∧
        s.intake.stepped t.intake {
          addr := q.addr, reason := .none, left := w.left, state := w.state,
          band := w.band }) ∧
      (0 < d ∨ 0 < w.delay → ∃ z events,
        z = recomputedShow s.tally.settings s.clock.minute v ∧
        events = recomputeEvents s.tally.settings s.clock.minute m v ∧
        t.tally.shows = s.tally.shows.set m z ∧
        (z.state ≠ .closed → t.tally = { s.tally with shows := t.tally.shows }) ∧
        (z.state = .closed → t.tally = { s.tally with
          shows := t.tally.shows
          holds := s.tally.holds.filter (fun h => h.showNo != m)
          expired := lapsedInto s.tally.expired
            (s.tally.holds.filter (fun h => h.showNo == m)) }) ∧
        (0 < d → s.emits t ({ showNo := m, kind := .delayed } :: events)) ∧
        (d = 0 → t.board.inbox =
            s.board.inbox ++ .delayNotice m :: events.map BoardEvent.tally ∧
          t.notice.inbox = s.notice.inbox ++ events ∧
          t.pane.inbox = s.pane.inbox ++ events) ∧
        s.intake.stepped t.intake {
          addr := q.addr, reason := .none, left := z.left, state := z.state,
          band := z.band }) := by
  subst hw
  by_cases hidle : d = 0 ∧ (s.tally.entry m).delay = 0
  · obtain ⟨t, hexec, hframe, htally, hemits, hstep⟩ := processingStep_emits (l := []) h rfl
      (delayShow_idle hm hs (hd ▸ hidle.1) hidle.2) rfl
    exact ⟨t, hexec, hframe, fun _ _ => ⟨htally, hemits, hstep⟩, fun hmove => by omega⟩
  · have hmove : 0 < d ∨ 0 < (s.tally.entry m).delay := by omega
    have hlen : m < s.tally.shows.length := by rw [hi.shows_length]; exact hm
    have ha := delayShow_moved hi (now := s.clock.minute) hm hs hd hmove hv
    obtain ⟨t, hexec, hframe, htally, hboard, hnotice, hpane, hstep⟩ :=
      processingStep_tally h rfl ha
    refine ⟨t, hexec, hframe, fun h0 hw0 => absurd ⟨h0, hw0⟩ hidle, fun _ => ⟨_, _, rfl, rfl,
      by rw [htally]; rfl, fun hc => ?_, fun hc => ?_, fun hpos => ?_, fun hzero => ?_, ?_⟩⟩
    · rw [recomputedShow_state] at hc
      rw [htally]
      simp only [if_neg hc]
      rfl
    · rw [recomputedShow_state] at hc
      rw [htally]
      simp only [if_pos hc]
      rfl
    · simp only [if_pos hpos, tallyEventsOf_append, tallyEventsOf_map] at hboard hnotice hpane
      exact ⟨hboard, hnotice, hpane⟩
    · subst hzero
      simp only [lt_irrefl, if_false, tallyEventsOf_append, tallyEventsOf_map] at hboard hnotice hpane
      exact ⟨hboard, hnotice, hpane⟩
    · simpa only [TallyAnswer.reported, withLists_entry, put_entry_self hlen] using hstep

/-- SHOW_CANCEL leaves its show CANCELLED and lapses its holds (R20, R34). -/
theorem cancelRecord_applies (hi : TallyInv s.tally) (hm : m < 128) (hw : w = s.tally.entry m)
    (h : s.readsRecord q (.showCancel m))
    (hs : w.state = .listed ∨ w.state = .boarding ∨ w.state = .started) :
    ∃ t v z, exec .processingStep s = .next t ∧ s.tallyFrame t ∧
      v = { w with state := .cancelled, cancelMinute := some s.clock.minute, held := 0 } ∧
      z = { v with band := bandOf s.tally.settings v } ∧
      t.tally = { s.tally with
        shows := s.tally.shows.set m z
        holds := s.tally.holds.filter (fun h => h.showNo != m)
        expired := lapsedInto s.tally.expired
          (s.tally.holds.filter (fun h => h.showNo == m)) } ∧
      s.emits t ({ showNo := m, kind := .cancelled } :: bandEvents m w.band z.band) ∧
      s.intake.stepped t.intake {
        addr := q.addr, reason := .none, left := z.left, state := .cancelled,
        band := z.band } := by
  subst hw
  have hlen : m < s.tally.shows.length := by rw [hi.shows_length]; exact hm
  have he : (s.tally.entry m).state ≠ .empty := by rcases hs with h | h | h <;> simp [h]
  have hover : ¬ (s.tally.entry m).over = true := by
    rw [over_iff]
    rcases hs with h | h | h <;> simp [h]
  have ha := cancel_eq (t := s.tally) (m := m) s.clock.minute
  rw [showTests_passed hm he, if_neg hover, cancelled_eq hi hm (w := { s.tally.entry m with
    state := .cancelled, cancelMinute := some s.clock.minute }) rfl] at ha
  obtain ⟨t, hexec, hframe, htally, hemits, hstep⟩ := processingStep_emits
    (l := { showNo := m, kind := .cancelled } :: _) h rfl ha rfl
  refine ⟨t, _, _, hexec, hframe, rfl, rfl, htally, hemits, ?_⟩
  simp only [TallyAnswer.reported, withLists_entry, put_entry_self hlen] at hstep
  exact hstep

/-- SHOW_REMOVE empties its entry (R21). -/
theorem removeRecord_applies (hi : TallyInv s.tally) (hm : m < 128) (hw : w = s.tally.entry m)
    (h : s.readsRecord q (.showRemove m))
    (hs : w.state = .closed ∨ w.state = .cancelled ∨
      (w.state = .listed ∧ w.sold = 0 ∧ w.held = 0 ∧ w.blocked = 0)) :
    ∃ t, exec .processingStep s = .next t ∧ s.tallyFrame t ∧
      t.tally = { s.tally with shows := s.tally.shows.set m Show.vacant } ∧
      s.emits t [{ showNo := m, kind := .removed }] ∧
      s.intake.stepped t.intake {
        addr := q.addr, reason := .none, left := 0, state := .empty, band := .plenty } := by
  subst hw
  have hlen : m < s.tally.shows.length := by rw [hi.shows_length]; exact hm
  have he : (s.tally.entry m).state ≠ .empty := by rcases hs with h | h | ⟨h, -⟩ <;> simp [h]
  have hrem : (s.tally.entry m).removable = true := by
    rw [removable_iff, over_iff]
    tauto
  have ha := remove_eq (t := s.tally) (m := m)
  rw [showTests_passed hm he, if_neg (by simp [hrem])] at ha
  obtain ⟨t, hexec, hframe, htally, hemits, hstep⟩ := processingStep_emits
    (l := [{ showNo := m, kind := .removed }]) h rfl ha rfl
  refine ⟨t, hexec, hframe, htally, hemits, ?_⟩
  simp only [TallyAnswer.reported, put_entry_self hlen] at hstep
  exact hstep

end

/-- Settles O32: each record kind by its own effect on the entry it names. -/
theorem showRecordsApply : Obligations.ShowRecordsApply := by
  intro s q m w hi hm hw
  exact ⟨fun _ _ _ _ _ h he ha ha' hs hc hc' hv =>
      defineRecord_applies hi hm hw h he ha ha' hs hc hc' hv,
    fun _ _ h he hc hx hcap hs => amendRecord_applies hi hm hw h he hc hx hcap hs,
    fun _ _ _ h hs hd hv => delayRecord_applies hi hm hw h hs hd hv,
    fun h hs => cancelRecord_applies hi hm hw h hs,
    fun h hs => removeRecord_applies hi hm hw h hs⟩

/-! ### The Pane Unit's hand-ons -/

/-- Settles O14: each event drops the head of its queue, and a flag is stored as the copy. -/
theorem paneHandOnsAreTaken : Obligations.PaneHandOnsAreTaken := by
  intro s hr
  refine ⟨fun e rest h => ?_, fun k flag rest h => ?_⟩
  · change whenRunning takePaneEvent s = _
    rw [whenRunning_runs hr, takePaneEvent, h]
    rfl
  · change whenRunning takeFlagHandOn s = _
    rw [whenRunning_runs hr, takeFlagHandOn, h]
    rfl

end Sys2Proof.Machine

namespace Sys2Proof.Machine

/-! ### The tables of the Tally Unit -/

/-- The time state by the minute and the effective start (R5). -/
theorem timeState_table (g : TallySettings) (now e : Nat) :
    (now + g.lead < e → timeState g now e = .listed) ∧
    (now < e → e ≤ now + g.lead → timeState g now e = .boarding) ∧
    (e ≤ now → now < e + g.linger → timeState g now e = .started) ∧
    (e + g.linger ≤ now → timeState g now e = .closed) := by
  unfold timeState
  refine ⟨fun h => if_pos h, fun h1 h2 => ?_, fun h1 h2 => ?_, fun h => ?_⟩
  · rw [if_neg (by omega), if_pos h1]
  · rw [if_neg (by omega), if_neg (by omega), if_pos h2]
  · rw [if_neg (by omega), if_neg (by omega), if_neg (by omega)]

/-- A recomputation sets the time state of a show that is LISTED, BOARDING or STARTED, and leaves
the state of any other (R6). -/
theorem recomputed_table (g : TallySettings) (now : Nat) (w : Show) :
    (w.state = .listed ∨ w.state = .boarding ∨ w.state = .started →
      recomputed g now w = timeState g now (w.start + w.delay)) ∧
    (w.state = .closed ∨ w.state = .cancelled ∨ w.state = .empty →
      recomputed g now w = w.state) := by
  unfold recomputed
  constructor <;> rintro (h | h | h) <;> rw [h] <;> rfl

/-- The band by the seats left: the first of its four tests that holds (R9). -/
theorem bandOf_table (g : TallySettings) (w : Show) (left : Nat)
    (h : w.sold + w.held + w.blocked + left = w.capacity) :
    (left = 0 → bandOf g w = .soldOut) ∧
    (left ≠ 0 → left * 100 ≤ w.capacity * g.almostPct ∨ left ≤ g.almostAbs →
      bandOf g w = .almost) ∧
    (left ≠ 0 → w.capacity * g.almostPct < left * 100 → g.almostAbs < left →
      (w.capacity * g.fillingPct ≤ (w.capacity - left) * 100 → bandOf g w = .filling) ∧
      ((w.capacity - left) * 100 < w.capacity * g.fillingPct → bandOf g w = .plenty)) := by
  have hleft : w.left = left := by unfold Show.left; omega
  unfold bandOf
  rw [hleft]
  refine ⟨fun h0 => if_pos h0, fun h0 ha => ?_, fun h0 h1 h2 => ?_⟩
  · rw [if_neg h0, if_pos ha]
  · rw [if_neg h0, if_neg (by omega)]
    exact ⟨fun hf => if_pos hf, fun hf => if_neg (by omega)⟩

/-- The band event by the old band and the new one (R10). -/
theorem bandEvent_table (a b : Band) :
    (a = b → bandEvent a b = none) ∧
    (a ≠ .soldOut → b = .soldOut → bandEvent a b = some .soldOut) ∧
    (a = .plenty ∨ a = .filling → b = .almost → bandEvent a b = some .almost) ∧
    (a = .plenty → b = .filling → bandEvent a b = none) ∧
    (a = .soldOut → b = .almost ∨ b = .filling ∨ b = .plenty →
      bandEvent a b = some .bandDown) ∧
    (a = .almost → b = .filling ∨ b = .plenty → bandEvent a b = some .bandDown) ∧
    (a = .filling → b = .plenty → bandEvent a b = some .bandDown) := by
  cases a <;> cases b <;> simp [bandEvent]

/-- The changed shows stand by rising number (log entry 34). -/
theorem changedShows_sorted (old new : List Show) :
    (changedShows old new).Pairwise (fun a b => a < b) :=
  List.pairwise_lt_range.sublist List.filter_sublist

/-! ### The change of minute -/

/-- A change of minute recomputes every show of a sound unit at the clock's minute (R7, R34). -/
theorem changeOfMinute_recomputes {s : State} (hr : s.path.resetHeld = false)
    (hw : s.tally.minuteWaiting = true) (hi : TallyInv s.tally) :
    ∃ t, exec .changeOfMinute s = .next t ∧ s.tallyFrame t ∧ t.intake = s.intake ∧
      s.tally.recomputesTo t.tally s.tally.settings s.clock.minute ∧
      t.tally.minuteWaiting = false ∧
      s.emits t (allRecomputeEvents s.tally s.tally.settings s.clock.minute) := by
  have hi' : TallyInv { s.tally with minuteWaiting := false } := hi.congr rfl rfl rfl rfl
  obtain ⟨hrec, hwait, hout⟩ := recomputeAll_spec hi' s.clock.minute
  generalize hr' : TallyUnit.recomputeAll { s.tally with minuteWaiting := false } s.clock.minute = r
    at hrec hwait hout
  refine ⟨s.tallyDone r.unit r.out, ?_, tallyDone_frame _ _ _, rfl, hrec, hwait, ?_⟩
  · change whenRunning takeMinute s = _
    rw [whenRunning_runs hr, takeMinute, if_pos hw, hr']
  · rw [hout]
    exact tallyDone_emits _ _ _

/-- Settles O6: each table by its tests, and the change of minute by the recomputation of all
shows. -/
theorem changeOfMinuteRecomputesShows : Obligations.ChangeOfMinuteRecomputesShows :=
  ⟨timeState_table, recomputed_table, bandOf_table, bandEvent_table,
    ⟨rfl, rfl, rfl, rfl, rfl, rfl⟩,
    fun old new => ⟨changedShows_sorted old new, mem_changedShows old new⟩,
    fun _ hr hw hi => changeOfMinute_recomputes hr hw hi⟩

end Sys2Proof.Machine

namespace Sys2Proof.Machine

/-! ### SET_CLOCK, DAY_START, SET_TALLY -/

/-- What SET_CLOCK and DAY_START leave before the cells follow: the clock set, CLOCK_HELD cleared,
the Tally Unit as `r` has it and its events handed on, and the views recomputed. -/
def State.clockTaken (s : State) (c : ClockUnit) (r : TallyResult) : State :=
  boardRecompute ((s.withClock c).releaseClock.tallyDone r.unit r.out)

/-- The same with every field written out. -/
theorem clockTaken_eq (s : State) (c : ClockUnit) {r : TallyResult} {events : List TallyEvent}
    (hout : r.out = events.map BoardEvent.tally) :
    s.clockTaken c r = { s with
      clock := c
      tally := r.unit
      board := { s.board with
        views := s.board.views.map (fun v => v.recompute r.unit c.minute)
        inbox := s.board.inbox ++ events.map BoardEvent.tally }
      notice := { s.notice with inbox := s.notice.inbox ++ events }
      pane := { s.pane with inbox := s.pane.inbox ++ events }
      patch := { s.patch with
        fromTally := s.patch.fromTally ++ changedShows s.tally.shows r.unit.shows
        fromBoard := s.patch.fromBoard ++ viewsThatDiffer s.board.views
          (s.board.views.map (fun v => v.recompute r.unit c.minute)) }
      command := s.command.lower .clockHeld } := by
  have hviews := changedViews_differ (a := s.board.views)
    (b := s.board.views.map (fun v => v.recompute r.unit c.minute)) (by simp)
  rw [State.clockTaken, boardRecompute_eq, ← hviews, hout]
  simp only [State.tallyDone, tallyEventsOf_map]
  rfl

/-- SET_CLOCK and DAY_START, answered: every show, view and cell of `reached` has followed the clock
(R22, R43, R46, R53, R87). -/
theorem clockTaken_changed (s : State) (c : ClockUnit) {r : TallyResult} (reached : Source → Bool)
    {purged : TallyUnit} {events : List TallyEvent} (hout : r.out = events.map BoardEvent.tally)
    (hrec : purged.recomputesTo r.unit s.tally.settings c.minute)
    (hwait : r.unit.minuteWaiting = s.tally.minuteWaiting) (code tag : Nat) (result : List Byte) :
    ∃ t, ((s.clockTaken c r).derive reached).answer code tag result = t ∧ t.clock = c ∧
      t.command = s.answeredOk code tag (s.command.causes &&& ~~~(32#12)) result ∧
      s.clockChanged t purged events reached := by
  have heq := clockTaken_eq s c hout
  generalize s.clockTaken c r = u at heq
  have hcells : u.patch.cells = s.patch.cells := by rw [heq]
  have hsurf : u.patch.surfaces = s.patch.surfaces := by rw [heq]
  have hclock : (u.derive reached).clock = c := by rw [derive_eq, heq]
  have htally : (u.derive reached).tally = r.unit := by rw [derive_eq, heq]
  have hviews : (u.derive reached).board.views =
      s.board.views.map (fun v => v.recompute r.unit c.minute) := by rw [derive_eq, heq]
  refine ⟨_, rfl, hclock, ?_, ?_, ?_, ?_, ?_, ?_, ?_, ?_⟩
  · rw [answer_eq, derive_eq, heq]
    rfl
  · rw [answer_eq]
    simp only [htally, hviews, hclock]
    rw [derive_eq, heq]
  · change purged.recomputesTo (u.derive reached).tally _ (u.derive reached).clock.minute
    rw [htally, hclock]
    exact hrec
  · change (u.derive reached).tally.minuteWaiting = _
    rw [htally]
    exact hwait
  · change viewsFollow _ (u.derive reached).board.views (u.derive reached).tally
      (u.derive reached).clock.minute
    rw [hviews, htally, hclock]
    exact recompute_follow _ _ _
  · exact derive_cellsFollow reached hcells
  · exact derive_surfacesWait reached hsurf
  · exact derive_idleShows reached hcells hsurf

section
variable {s : State}

/-- SET_CLOCK (R168). -/
theorem setClock_recomputes (hr : s.path.resetHeld = false) (hi : TallyInv s.tally) (tag : Nat)
    {minute second : Nat} (hm : minute ≤ 2159) (hs : second ≤ 59) :
    ∃ t, exec (.setClock tag minute second) s = .next t ∧
      t.clock = { s.clock with minute := minute, second := second, holding := false } ∧
      t.command = s.answeredOk 3 tag (s.command.causes &&& ~~~(32#12)) (leBytes 4 s.clock.uptime) ∧
      s.clockChanged t s.tally (allRecomputeEvents s.tally s.tally.settings minute)
        readsClock := by
  obtain ⟨hrec, hwait, hout⟩ := recomputeAll_spec hi minute
  obtain ⟨t, ht, hclock, hcommand, hchanged⟩ := clockTaken_changed s
    { s.clock with minute := minute, second := second, holding := false } readsClock hout hrec hwait
    3 tag (u32 s.clock.uptime)
  refine ⟨t, ?_, hclock, hcommand, hchanged⟩
  change whenRunning (cmdSetClock tag minute second) s = _
  rw [whenRunning_runs hr, cmdSetClock, if_neg (by simp only [Config.lastMinute]; omega), ← ht]
  rfl

/-- The events of the purge are those of the shows that are CLOSED or CANCELLED. -/
theorem purge_out_eq (t : TallyUnit) :
    (showNumbers.filter (fun m => (t.entry m).over)).map
        (fun m => ({ showNo := m, kind := .removed } : TallyEvent)) =
      ((List.range 128).filter (fun m => (t.entry m).state == .closed ||
        (t.entry m).state == .cancelled)).map (fun m => { showNo := m, kind := .removed }) := rfl

/-- DAY_START (R22, R169). -/
theorem dayStart_recomputes (hr : s.path.resetHeld = false) (hi : TallyInv s.tally) (tag : Nat)
    {minute origin : Nat} (hm : minute ≤ 2159) (ho : origin ≤ 1439) :
    ∃ t, exec (.dayStart tag minute origin) s = .next t ∧
      t.clock = { s.clock with
        minute := minute, second := 0, holding := false, origin := origin } ∧
      t.command = s.answeredOk 4 tag (s.command.causes &&& ~~~(32#12)) (leBytes 4 s.clock.uptime) ∧
      s.clockChanged t s.tally.purged
        (((List.range 128).filter (fun m => (s.tally.entry m).state == .closed ||
            (s.tally.entry m).state == .cancelled)).map
          (fun m => { showNo := m, kind := .removed }) ++
          allRecomputeEvents s.tally.purged s.tally.settings minute) readsOrigin := by
  obtain ⟨hrec, hwait, hout⟩ := recomputeAll_spec (purged_sound hi) minute
  have hday := dayStart_eq hi.shows_length minute
  rw [hout, purge_out_eq, ← List.map_append,
    show s.tally.purged.settings = s.tally.settings from rfl] at hday
  generalize (s.tally.purged.recomputeAll minute).unit = u at hrec hwait hday
  obtain ⟨t, ht, hclock, hcommand, hchanged⟩ := clockTaken_changed s
    { s.clock with minute := minute, second := 0, holding := false, origin := origin }
    (r := { unit := u, out := _ }) readsOrigin rfl hrec hwait 4 tag (u32 s.clock.uptime)
  refine ⟨t, ?_, hclock, hcommand, hchanged⟩
  change whenRunning (cmdDayStart tag minute origin) s = _
  rw [whenRunning_runs hr, cmdDayStart, if_neg (by simp only [Config.lastMinute]; omega), ← ht,
    ← hday]
  rfl

/-- SET_TALLY (R4). -/
theorem setTally_recomputes (hr : s.path.resetHeld = false) (hi : TallyInv s.tally) (tag : Nat)
    (p : TallyParams) {g : TallySettings} (hg : g = tallySettingsOf p) :
    ∃ t, exec (.setTally tag p) s = .next t ∧ s.tallyFrame { t with command := s.command } ∧
      t.intake = s.intake ∧ t.command = s.answeredOk 6 tag s.command.causes [] ∧
      s.tally.recomputesTo t.tally g s.clock.minute ∧
      t.tally.minuteWaiting = s.tally.minuteWaiting ∧
      s.emits t (allRecomputeEvents s.tally g s.clock.minute) := by
  obtain ⟨hrec, hwait, hout⟩ := setSettings_spec hi s.clock.minute g
  generalize hset : s.tally.setSettings s.clock.minute g = r at hrec hwait hout
  refine ⟨(s.tallyDone r.unit r.out).answer 6 tag [], ?_, tallyDone_frame _ _ _, rfl, rfl, hrec,
    hwait, ?_⟩
  · change whenRunning (cmdSetTally tag p) s = _
    rw [whenRunning_runs hr, cmdSetTally, ← hg, hset]
  · rw [hout]
    exact tallyDone_emits s r.unit _

end

/-- Settles O36: both clock commands by the recomputation at the new minute, SET_TALLY by the one
under its settings. -/
theorem clockAndTallyCommandsRecompute : Obligations.ClockAndTallyCommandsRecompute := by
  intro s tag hr hi
  refine ⟨fun _ _ hm hs => setClock_recomputes hr hi tag hm hs, fun _ _ _ hm ho hp => ?_,
    fun p g hg => setTally_recomputes hr hi tag p ?_⟩
  · rw [hp]
    exact dayStart_recomputes hr hi tag hm ho
  · rw [hg]
    simp only [tallySettingsOf, clamp_zero]
    rfl

end Sys2Proof.Machine

namespace Sys2Proof.Machine

/-! ### The lengths of the inspect copies -/

@[simp] theorem u8_length (n : Nat) : (u8 n).length = 1 := leBytes_length 1 n
@[simp] theorem u16_length (n : Nat) : (u16 n).length = 2 := leBytes_length 2 n
@[simp] theorem u32_length (n : Nat) : (u32 n).length = 4 := leBytes_length 4 n
@[simp] theorem u40_length (n : Nat) : (u40 n).length = 5 := leBytes_length 5 n
@[simp] theorem flagByte_length (b : Bool) : (flagByte b).length = 1 := u8_length _
@[simp] theorem absent_length (w : Nat) : (absent w).length = w := List.length_replicate
@[simp] theorem colourBytes_length (c : Colour) : (colourBytes c).length = 3 := rfl

@[simp] theorem orAbsent_length (w : Nat) (o : Option Nat) : (orAbsent w o).length = w := by
  cases o with
  | none => exact absent_length w
  | some n => exact leBytes_length w n

@[simp] theorem textBytes_length (w : Nat) (t : Text) : (textBytes w t).length = w := by
  simp only [textBytes, List.length_append, List.length_map, List.length_take,
    List.length_replicate]
  omega

section
variable {α : Type} {w : Nat} {f : α → List Byte}

/-- Items of one width, one after the other. -/
theorem flatten_length (h : ∀ x, (f x).length = w) (l : List α) :
    ((l.map f).flatten).length = l.length * w := by
  induction l with
  | nil => simp
  | cons x rest ih => simp [h, ih, Nat.succ_mul, Nat.add_comm]

theorem counted_length (h : ∀ x, (f x).length = w) (l : List α) :
    (counted f l).length = 1 + l.length * w := by
  rw [counted, List.length_append, u8_length, flatten_length h]

theorem packed_length (h : ∀ x, (f x).length = w) (o : Option α) : (packed w f o).length = w := by
  cases o with
  | none => exact absent_length w
  | some x => exact h x

end

@[simp] theorem showCopy_length (w : Show) : (showCopy w).length = 40 := by simp [showCopy]

@[simp] theorem holdCopy_length (h : Hold) : (holdCopy h).length = 9 := by simp [holdCopy]

@[simp] theorem holdsCopy_length (t : TallyUnit) (i : Nat) : (holdsCopy t i).length = 148 := by
  simp [holdsCopy, counted_length (packed_length holdCopy_length)]

@[simp] theorem timingCopy_length (t : Timing) : (timingCopy t).length = 9 := by
  cases t <;> simp [timingCopy]

@[simp] theorem noticeSourceCopy_length (x : NoticeSource) : (noticeSourceCopy x).length = 2 := by
  cases x <;> simp [noticeSourceCopy]

@[simp] theorem remainingCopy_length (x : Notice) : x.remainingCopy.length = 1 := by
  unfold Notice.remainingCopy
  split <;> simp

@[simp] theorem noticeCopy_length (x : Notice) : (noticeCopy x).length = 58 := by
  simp [noticeCopy]

@[simp] theorem noticeEntryCopy_length (u : NoticeUnit) (n : Nat) :
    (noticeEntryCopy u n).length = 83 := by
  have htop : ∀ k, (orAbsent 1 (u.top k) ++ flagByte (u.isFull k)).length = 2 := by simp
  simp [noticeEntryCopy, packed_length noticeCopy_length, flatten_length htop, surfaceNumbers,
    Config.surfaces]

@[simp] theorem itemCopy_length (x : TemplateItem) : (itemCopy x).length = 1 := by
  cases x <;> simp [itemCopy]

@[simp] theorem triggerSettingsCopy_length (g : TriggerSettings) :
    (triggerSettingsCopy g).length = 22 := by
  have hitem : ∀ i : Nat, (packed 1 itemCopy g.template[i]?).length = 1 := fun _ =>
    packed_length itemCopy_length _
  simp [triggerSettingsCopy, flatten_length hitem]

@[simp] theorem triggerCopy_length (t : Trigger) : (triggerCopy t).length = 25 := by
  simp [triggerCopy, packed_length triggerSettingsCopy_length]

@[simp] theorem sourceCopy_length (x : Source) : (sourceCopy x).length = 4 := by
  cases x <;> simp [sourceCopy]

@[simp] theorem cellCopy_length (c : Cell) : (cellCopy c).length = 63 := by simp [cellCopy]

@[simp] theorem recordCopy_length (c : CellRecord) : (recordCopy c).length = 57 := by
  simp [recordCopy]

@[simp] theorem cellEntryCopy_length (p : PatchUnit) (n : Nat) :
    (cellEntryCopy p n).length = 180 := by
  unfold cellEntryCopy
  split <;> simp [cellSurfaceCopy, packed_length recordCopy_length]

@[simp] theorem paneSettingsCopy_length (g : PaneSettings) : (paneSettingsCopy g).length = 37 := by
  simp [paneSettingsCopy]

@[simp] theorem frameCopy_length (f : Frame) : (frameCopy f).length = 2 := by simp [frameCopy]

@[simp] theorem cueCopy_length (l : Playlist) : (cueCopy l).length = 3 := by simp [cueCopy]

@[simp] theorem paneCounters_bytes_length (c : PaneCounters) : c.bytes.length = 12 := by
  simp [PaneCounters.bytes]

@[simp] theorem paneCopy_length (p : Pane) (flag : Bool) (g : PaneSettings) :
    (paneCopy p flag g).length = 64 + 2 * p.queue.length + p.outstanding.length := by
  simp [paneCopy, packed_length frameCopy_length, counted_length frameCopy_length,
    flatten_length u8_length]
  omega

@[simp] theorem entryCopy_length (x : PlayEntry) : (entryCopy x).length = 6 := by simp [entryCopy]

@[simp] theorem playlistCopy_length (l : Playlist) :
    (playlistCopy l).length = 8 + 6 * l.entries.length := by
  simp [playlistCopy, counted_length entryCopy_length]
  omega

/-- A pane of a table whose panes keep their bounds keeps them. -/
theorem pane_bounds {u : PaneUnit} (h : ∀ p, p ∈ u.panes →
      p.queue.length ≤ 7 ∧ p.playlist.entries.length = 16 ∧ p.outstanding.length = 8) (k : Nat) :
    (u.pane k).queue.length ≤ 7 ∧ (u.pane k).playlist.entries.length = 16 ∧
      (u.pane k).outstanding.length = 8 := by
  rcases getD_mem_or u.panes k Pane.vacant with hk | hk
  · exact h _ hk
  · rw [PaneUnit.pane, hk]
    simp [Pane.vacant, Config.slots, Config.entries]

/-- The PANE copy of a pane within its bounds fits the inspect area. -/
theorem paneEntryCopy_bound {u : PaneUnit} (h : ∀ p, p ∈ u.panes →
      p.queue.length ≤ 7 ∧ p.playlist.entries.length = 16 ∧ p.outstanding.length = 8) (k : Nat) :
    (paneEntryCopy u k).length ≤ 252 := by
  obtain ⟨hq, he, ho⟩ := pane_bounds h k
  unfold paneEntryCopy
  split <;> simp [he, ho]
  omega

theorem viewCopy_length (v : BoardView) : (viewCopy v).length = 12 + v.list.length := by
  simp [viewCopy, counted_length u8_length, leBytes_length]
  omega

/-- Every copy of an entry within its bounds fits the inspect area (R178). -/
theorem inspectCopy_bound {s : State} {kind index : Nat} {bytes : List Byte}
    (hc : inspectCopy s kind index = some bytes)
    (hp : ∀ p, p ∈ s.pane.panes → p.queue.length ≤ 7 ∧ p.playlist.entries.length = 16 ∧
      p.outstanding.length = 8)
    (hv : ∀ v, v ∈ s.board.views → v.list.length ≤ 128) : bytes.length ≤ 252 := by
  have within : ∀ {p : Prop} [Decidable p] {l : List Byte},
      (if p then some l else none) = some bytes → l.length ≤ 252 → bytes.length ≤ 252 := by
    intro p _ l h hl
    split at h
    · cases h
      exact hl
    · cases h
  unfold inspectCopy at hc
  split at hc
  · exact within hc (by simp)
  · exact within hc (by simp)
  · exact within hc (by simp)
  · exact within hc (by simp)
  · exact within hc (by simp)
  · exact within hc (paneEntryCopy_bound hp index)
  · obtain ⟨v, hget, rfl⟩ := Option.map_eq_some_iff.mp hc
    have := hv v (List.mem_of_getElem? hget)
    rw [viewCopy_length]
    omega
  · cases hc

/-! ### INSPECT -/

/-- The inspect count as the response reports it. -/
theorem u8_wrapInc (n : Nat) : u8 (wrapInc n) = [byte ((n + 1) % 256)] := by
  simp [u8, leBytes, wrapInc]

/-- INSPECT of an entry in range leaves its copy in the inspect area (R178). -/
theorem inspect_copies {s : State} (hr : s.path.resetHeld = false) (tag : Nat) {kind index : Nat}
    {bytes bytes' : List Byte} (h : inspectCopy s kind index = some bytes) (he : bytes = bytes') :
    exec (.inspect tag kind index) s = .next (s.inspected tag kind index bytes') := by
  subst he
  change whenRunning (cmdInspect tag kind index) s = _
  rw [whenRunning_runs hr, cmdInspect, h, u8_wrapInc]
  rfl

/-- The number of a show state in one byte. -/
theorem u8_stateCode (x : ShowState) : u8 x.code = [byte x.code] := by cases x <;> rfl

/-- The number of a band in one byte. -/
theorem u8_bandCode (x : Band) : u8 x.code = [byte x.code] := by cases x <;> rfl

/-- The SHOW copy byte by byte (R1, R181). -/
theorem showCopy_bytes {w : Show} (hw : w.title.length ≤ 24) :
    showCopy w = [byte w.state.code, byte (w.auditorium % 256)] ++ leBytes 2 w.start ++
      [byte (w.delay % 256)] ++ leBytes 2 w.capacity ++ leBytes 2 w.sold ++
      leBytes 2 w.held ++ leBytes 2 w.blocked ++ [byte w.band.code] ++
      w.title.map byte ++ List.replicate (24 - w.title.length) 0 ++
      (match w.cancelMinute with
      | none => [255, 255]
      | some n => leBytes 2 n) := by
  have hlast : orAbsent 2 w.cancelMinute = (match w.cancelMinute with
      | none => [255, 255]
      | some n => leBytes 2 n) := by cases w.cancelMinute <;> rfl
  rw [← hlast, showCopy, textBytes, List.take_of_length_le hw, u8_stateCode, u8_bandCode]
  simp [u8, u16, leBytes]

/-- The HOLDS copy byte by byte (R38, R181). -/
theorem holdsCopy_bytes (t : TallyUnit) (i : Nat) :
    holdsCopy t i = leBytes 2 t.holds.length ++ [byte (t.expired.length % 256), 16] ++
      (List.range 16).flatMap (fun k =>
        match t.holds[i + k]? with
        | none => List.replicate 9 255
        | some h => [byte (h.desk % 256)] ++ leBytes 2 h.holdId ++
            [byte (h.showNo % 256), byte (h.n % 256)] ++ leBytes 4 h.expiry) := by
  have hhead : u16 t.holds.length ++ u8 t.expired.length ++ u8 16 =
      leBytes 2 t.holds.length ++ [byte (t.expired.length % 256), 16] := rfl
  rw [holdsCopy, counted, List.length_map, List.length_range, List.map_map, ← List.append_assoc,
    hhead, ← List.flatMap_def]
  refine congrArg (_ ++ ·) (List.flatMap_congr fun k _ => ?_)
  rw [Function.comp_apply]
  cases t.holds[i + k]? <;> rfl

/-- The VIEW copy byte by byte (R54, R181). -/
theorem viewCopy_bytes (v : BoardView) :
    viewCopy v = leBytes 3 v.filter.toNat ++ leBytes 2 v.horizon ++ [byte (v.rows % 256),
      byte (v.dwell % 256), byte (v.linger % 256), byte (v.page % 256)] ++
      leBytes 2 v.timer ++ [byte (v.list.length % 256)] ++
      v.list.map (fun n => byte (n % 256)) := by
  have hlist : (v.list.map u8).flatten = v.list.map (fun n => byte (n % 256)) := by
    induction v.list with
    | nil => rfl
    | cons n rest ih => simp only [List.map_cons, List.flatten_cons, ih]; rfl
  rw [viewCopy, counted, hlist]
  simp [u8, u16, leBytes]

/-- Settles O47: each kind by its copy, and their lengths. -/
theorem inspectCopies : Obligations.InspectCopies := by
  intro s tag index hr
  refine ⟨fun w hi hw ht => ?_, fun hi => ?_, fun hi => ?_, fun hi => ?_, fun hi => ?_,
    fun hi => ?_, fun v hv => ?_, fun kind bytes hc hp hv => inspectCopy_bound hc hp hv⟩
  · subst hw
    exact inspect_copies hr tag (if_pos hi) (showCopy_bytes ht)
  · exact inspect_copies hr tag (if_pos hi) (holdsCopy_bytes _ _)
  · exact inspect_copies hr tag (if_pos hi) rfl
  · exact inspect_copies hr tag (if_pos hi) rfl
  · exact inspect_copies hr tag (if_pos hi) rfl
  · exact inspect_copies hr tag (if_pos hi) rfl
  · exact inspect_copies hr tag (congrArg (Option.map viewCopy) hv) (viewCopy_bytes v)

end Sys2Proof.Machine

namespace Sys2Proof.Machine

/-! ### The units at the release of the reset input -/

/-- A table of default values reads as the default everywhere. -/
theorem getD_replicate_self {α : Type} (m : Nat) (d : α) (k : Nat) :
    (List.replicate m d).getD k d = d := by
  rw [List.getD_eq_getElem?_getD]
  exact List.getElem?_getD_replicate_default_eq d m k

/-- An empty table reads as empty everywhere. -/
theorem join_replicate_none {α : Type} (m k : Nat) :
    ((List.replicate m (none : Option α))[k]?).join = none := by
  rw [List.getElem?_replicate]
  split <;> rfl

/-- The Tally Unit of power-on is sound (R2, R24). -/
theorem tally_powerOn_sound : TallyInv TallyUnit.powerOn := empty_sound _ rfl rfl rfl

/-- No notice is in use at power-on (R56). -/
theorem powerOn_at? (n : Nat) : NoticeUnit.powerOn.at? n = none :=
  join_replicate_none Config.notices n

/-- Every trigger of power-on is EMPTY (R68). -/
theorem powerOn_trigger (k : Nat) :
    NoticeUnit.powerOn.trigger k = { state := .empty, settings := none, blocked := 0 } :=
  getD_replicate_self _ _ k

/-- Every stack of power-on is empty (R56). -/
theorem powerOn_stack (k : Nat) : NoticeUnit.powerOn.noticeStacks.getD k [] = [] :=
  getD_replicate_self _ _ k

/-- The Notice Unit of power-on is sound (R56, R68). -/
theorem notice_powerOn_sound : NoticeInv NoticeUnit.powerOn where
  notices_length := List.length_replicate
  stacks_length := List.length_replicate
  triggers_length := List.length_replicate
  stacked k _ n := by rw [powerOn_stack]; simp [powerOn_at?]
  once k := by rw [powerOn_stack]; exact List.nodup_nil
  ranked k := by rw [powerOn_stack]; exact List.Pairwise.nil
  spent t := by simp [powerOn_trigger, powerOn_at?]
  single t n m x y h := by simp [powerOn_at?] at h
  settled t := by simp [powerOn_trigger]
  targets t g h := by simp [powerOn_trigger] at h

/-- Every surface of power-on is UNSET (R75). -/
theorem powerOn_surface (k : Nat) : PatchUnit.powerOn.surface k = Surface.vacant :=
  getD_replicate_self _ _ k

/-- No cell is in use at power-on (R81). -/
theorem powerOn_cell (n : Nat) : PatchUnit.powerOn.cell n = none :=
  join_replicate_none Config.cells n

/-- The surfaces and cells of power-on are sound (R75, R81). -/
theorem screen_powerOn_sound : ScreenInv PatchUnit.powerOn where
  surfaces_length := List.length_replicate
  cells_length := List.length_replicate
  surfaces k := by simp [powerOn_surface, Surface.sound, Surface.vacant]
  pictures k := by simp [powerOn_surface, Picture.ordered, Surface.vacant, Picture.blank]
  cells n c h := by simp [powerOn_cell] at h

/-- Every glyph set of power-on is EMPTY (R90). -/
theorem powerOn_set (k : Nat) : PatchUnit.powerOn.set k = { state := .empty, bytes := [] } :=
  getD_replicate_self _ _ k

/-- The glyph store of power-on is sound (R90). -/
theorem glyph_powerOn_sound : GlyphInv PatchUnit.powerOn where
  sets_length := rfl
  canonical := wf_powerOn
  bounded k c h := by simp [powerOn_set] at h
  loader := trivial

/-- No pane of power-on is configured (R109). -/
theorem powerOn_pane (k : Nat) : PaneUnit.powerOn.pane k = Pane.vacant :=
  getD_replicate_self _ _ k

/-- The Pane Unit of power-on is sound (R109). -/
theorem pane_powerOn_sound : PanesInv PaneUnit.powerOn where
  panes_length := List.length_replicate
  panes k g h := by simp [powerOn_pane, Pane.vacant] at h

/-- The Intake Unit of power-on is sound (R140, R152). -/
theorem intake_powerOn_sound : IntakeInv IntakeUnit.powerOn := by
  constructor <;> simp [IntakeUnit.powerOn, IntakeCounters.zero, Config.records]

/-- The Path Unit at the release is sound, whatever the straps (R158, R162). -/
theorem path_powerOn_sound (straps : Nat) : PathInv (PathUnit.powerOn straps) := by
  constructor <;> simp [PathUnit.powerOn]

/-- The Clock Unit of power-on is sound (R166). -/
theorem clock_powerOn_sound : ClockInv ClockUnit.powerOn := by
  constructor <;> simp [ClockUnit.powerOn]

/-- The Board Unit of power-on is sound (R39). -/
theorem board_powerOn_sound : BoardInv BoardUnit.powerOn where
  views_length := List.length_replicate
  views v h := by
    rw [List.eq_of_mem_replicate h]
    constructor <;> simp [BoardView.powerOn]

/-- The Patch Unit of power-on holds the views as they are (R53). -/
theorem handed_powerOn (straps : Nat) : HandedInv (State.powerOn straps) where
  pages_length := rfl
  handed k v h _ := by
    obtain ⟨hk, hv⟩ := List.getElem?_eq_some_iff.mp h
    have hlen : k < Config.views := by simpa [State.powerOn, BoardUnit.powerOn] using hk
    have : v = BoardView.powerOn := List.eq_of_mem_replicate (List.mem_of_getElem? h)
    subst this
    exact List.getElem?_replicate_of_lt hlen

/-- Settles O58: at the release every unit is that of power-on, whatever commands wait. -/
theorem soundAtReset : Obligations.SoundAtReset := by
  intro u hu
  obtain ⟨straps, pending, rfl⟩ : ∃ straps pending, u = (State.powerOn straps).withPending pending := by
    rcases hu with rfl | ⟨straps, s, h⟩
    · exact ⟨0, [], rfl⟩
    · exact ⟨straps, s.pending, (Host.Outcome.next.inj h).symm⟩
  obtain ⟨hpages, hhanded⟩ := handed_powerOn straps
  exact ⟨tally_powerOn_sound, notice_powerOn_sound, screen_powerOn_sound, glyph_powerOn_sound,
    pane_powerOn_sound, intake_powerOn_sound, path_powerOn_sound straps, clock_powerOn_sound,
    board_powerOn_sound, ⟨hpages, hhanded⟩⟩

end Sys2Proof.Machine

namespace Sys2Proof.Machine

/-! ### WARM_RESET at the Patch Unit -/

section
variable (p : PatchUnit)

/-- An abort changes the glyph sets and the loader alone. -/
theorem abortLoad_eq :
    p.abortLoad = { p with sets := p.abortLoad.sets, loader := p.abortLoad.loader } := by
  unfold PatchUnit.abortLoad
  split <;> rfl

variable {p}

/-- With no load in flight there is nothing to abort. -/
theorem abortLoad_idle (h : ∀ l, p.loader ≠ .busy l) : p.abortLoad = p := by
  unfold PatchUnit.abortLoad
  split
  · next l hl => exact absurd hl (h l)
  · rfl

variable {l : Load}

theorem abortLoad_busy (h : p.loader = .busy l) :
    p.abortLoad = { p.putSet l.set { p.set l.set with state := .empty } with
      loader := if l.outstanding.isEmpty then .idle
        else .draining (l.outstanding.map (fun x => x.1)) } := by
  rw [PatchUnit.abortLoad, h]

/-- An abort empties the set of the load alone (R93). -/
theorem abortLoad_set (h : p.loader = .busy l) (hl : l.set < p.sets.length) (k : Nat) :
    p.abortLoad.set k =
      if k = l.set then { p.set k with state := .empty } else p.set k := by
  rw [abortLoad_busy h]
  change (p.putSet l.set { p.set l.set with state := .empty }).set k = _
  rw [PatchUnit.putSet_set]
  by_cases hk : k = l.set
  · subst hk
    simp [hl]
  · simp [hk]

/-- The reads already issued are drained, and with none the loader is idle (R93; log entry 21). -/
theorem abortLoad_loader (h : p.loader = .busy l) :
    (l.outstanding = [] → p.abortLoad.loader = .idle) ∧
      (l.outstanding ≠ [] →
        p.abortLoad.loader = .draining (l.outstanding.map (fun x => x.1))) := by
  rw [abortLoad_busy h]
  exact ⟨fun ho => if_pos (by simp [ho]), fun ho => if_neg (by simpa using ho)⟩

end

/-! ### WARM_RESET -/

section
variable (s : State)

/-- The part after a WARM_RESET, before it answers. -/
def State.warmed : State := (s.resetUnits.derive (fun _ => true)).commitAll

/-- Committing every surface is a matter of the Patch Unit. -/
theorem commitAll_patch : s.commitAll.patch = s.patch.commitIdleEach surfaceNumbers := by
  unfold State.commitAll State.withPatch
  dsimp only

/-- The surfaces commit once the cells have followed. -/
theorem warmed_patch : s.warmed.patch =
    (s.resetUnits.derive (fun _ => true)).patch.commitIdleEach surfaceNumbers :=
  commitAll_patch _

/-- The commits leave the cells and the glyph sets. -/
theorem warmed_cells : s.warmed.patch.cells = (s.resetUnits.derive (fun _ => true)).patch.cells := by
  rw [warmed_patch, commitIdleEach_eq]

theorem warmed_sets : s.warmed.patch.sets = (s.resetUnits.derive (fun _ => true)).patch.sets := by
  rw [warmed_patch, commitIdleEach_eq]

/-- After the units' own resets only cells and surfaces change. -/
theorem warmed_eq : s.warmed = { s.resetUnits with patch := { s.resetUnits.patch with
    cells := s.warmed.patch.cells, surfaces := s.warmed.patch.surfaces } } := by
  unfold State.warmed State.commitAll State.withPatch
  rw [commitIdleEach_eq, derive_eq]

/-- The Patch Unit's own reset leaves the cells. -/
theorem resetUnits_cells : s.resetUnits.patch.cells = s.patch.cells := by
  change s.patch.abortLoad.cells = _
  rw [abortLoad_eq]

/-- The Patch Unit's own reset takes back the pending flag of each surface (R56, R75). -/
theorem resetUnits_surface (k : Nat) :
    s.resetUnits.patch.surface k = { s.patch.surface k with pendingFlag := false } :=
  getD_map (fun f : Surface => ({ f with pendingFlag := false } : Surface)) s.patch.surfaces k
    Surface.vacant

/-- Every cell follows its emptied source (R87, R179). -/
theorem warmed_cellsFollow : s.cellsFollow s.warmed (fun _ => true) := by
  have hd := derive_cellsFollow (s := s) (u := s.resetUnits) (fun _ => true) (resetUnits_cells s)
  have htext : ∀ c, s.warmed.targetText c =
      (s.resetUnits.derive (fun _ => true)).targetText c := by
    rw [warmed_eq, derive_eq]
    exact targetText_congr rfl rfl rfl rfl rfl rfl rfl
  intro n
  have hcell : s.warmed.patch.cell n = (s.resetUnits.derive (fun _ => true)).patch.cell n := by
    simp only [PatchUnit.cell, warmed_cells]
  rw [hcell, hd n]
  simp only [htext]

/-- A surface after a WARM_RESET: the flag taken back, and an IDLE one of the table with a new
picture of g (R89, R179). -/
theorem warmed_surface (k : Nat) :
    ((s.patch.surface k).state ≠ .idle →
      s.warmed.patch.surface k = { s.patch.surface k with pendingFlag := false }) ∧
    ((s.patch.surface k).state = .idle → k < 12 →
      s.warmed.patch.surface k = { s.patch.surface k with
        pendingFlag := false, current := (s.warmed.patch.surface k).current } ∧
      (s.warmed.patch.surface k).current.commits s.warmed.patch k false) := by
  have hd := derive_surface s.resetUnits (fun _ => true) k
  rw [resetUnits_surface] at hd
  have hc := commitIdleEach_surface (s.resetUnits.derive (fun _ => true)).patch surfaceNumbers k
  have hcells := warmed_cells s
  have hsets := warmed_sets s
  rw [← warmed_patch] at hc
  generalize (s.resetUnits.derive (fun _ => true)).patch = p at hd hc hcells hsets
  refine ⟨fun hi => ?_, fun hi hk => ?_⟩
  · rw [if_neg (fun h => hi h.2)] at hd
    rw [hc, hd, if_neg (fun h => hi h.2)]
  · obtain ⟨q, hq⟩ : ∃ q, p.surface k =
        { s.patch.surface k with pendingFlag := false, current := q } := by
      rw [hd]
      split
      · exact ⟨_, rfl⟩
      · exact ⟨(s.patch.surface k).current, rfl⟩
    rw [if_pos ⟨List.mem_range.mpr hk, by rw [hq]; exact hi⟩] at hc
    refine ⟨by rw [hc, hq], ?_⟩
    have hflag : (p.surface k).pendingFlag = false := by rw [hq]
    rw [hc, ← hflag]
    exact commits_congr hcells hsets (newPicture_commits p k _)

end

/-- A pane after a WARM_RESET: its playlist stopped, and a configured one restarted (R111, R129). -/
theorem pane_warmReset (p : Pane) : ∃ l : Playlist, l = { p.playlist with
      state := .idle, cueEntry := none, pass := 0, startRequest := none,
      resumeRequest := false, successor := none } ∧
    (p.settings = none → p.warmReset = { p with playlist := l }) ∧
    (∀ g, p.settings = some g → p.warmReset = { p with
      display := .dark, displayed := none, queue := [], acc := 0, flow := .go,
      underrunRun := 0, retriesUsed := 0, retryTimer := none, verdict := .none,
      counters := PaneCounters.zero, playlist := l }) := by
  refine ⟨p.playlist.stop, rfl, fun h => ?_, fun g h => ?_⟩
  · rw [Pane.warmReset, if_neg (by simp [h])]
  · rw [Pane.warmReset, if_pos (by simp [h])]
    rfl

/-- What the units' own resets leave, written out. -/
theorem resetUnits_eq (s : State) : s.resetUnits = { s with
    path := { s.path with run := 0 }
    tally := { s.tally with
      shows := List.replicate 128 Show.vacant, holds := [], expired := [] }
    board := { s.board with
      views := s.board.views.map (fun v => { v with list := [], page := 0, timer := v.dwell }) }
    notice := { s.notice with
      notices := List.replicate 64 none, noticeStacks := List.replicate 12 []
      triggers := s.notice.triggers.map (fun r =>
        { r with state := if r.state = .empty then .empty else .armed, blocked := 0 }) }
    patch := { s.patch with
      surfaces := s.resetUnits.patch.surfaces, sets := s.patch.abortLoad.sets,
      loader := s.patch.abortLoad.loader, noticeText := List.replicate 12 [], fromNotice := []
      viewPages := s.board.views.map (fun v => { list := [], page := 0, rows := v.rows }) }
    pane := { s.pane with
      panes := s.pane.panes.map Pane.warmReset, flags := List.replicate 12 false,
      flagInbox := [] }
    intake := { s.intake with
      queue := [], verdicts := []
      issued := s.intake.issued.map (fun w => { w with cancelled := true })
      raised := false, since := 0, reannounced := 0, counters := IntakeCounters.zero }
    command := { s.command with causes := 0#12 } } := by
  have hviews : s.board.warmReset.views.map BoardView.shown =
      s.board.views.map (fun v => { list := [], page := 0, rows := v.rows }) := List.map_map
  rw [← hviews]
  unfold State.resetUnits PatchUnit.warmReset
  rw [abortLoad_eq]
  rfl

/-- Settles O48: each unit's own reset, and what the cells and surfaces make of it. -/
theorem warmResetKeepsConfiguration : Obligations.WarmResetKeepsConfiguration := by
  intro s tag hr
  have hexec : exec (.warmReset tag) s = .next (s.warmed.answer 2 tag []) := by
    change whenRunning (cmdWarmReset tag) s = _
    rw [whenRunning_runs hr]
    rfl
  have hframe := warmed_eq s
  have hcells := warmed_cellsFollow s
  have hsurfaces := warmed_surface s
  generalize s.warmed = w at hexec hframe hcells hsurfaces
  rw [resetUnits_eq] at hframe
  have hsets : w.patch.sets = s.patch.abortLoad.sets := by rw [hframe]
  have hloader : w.patch.loader = s.patch.abortLoad.loader := by rw [hframe]
  have hpanes : w.pane.panes = s.pane.panes.map Pane.warmReset := by rw [hframe]
  have hset : ∀ k, w.patch.set k = s.patch.abortLoad.set k := fun k => by
    simp only [PatchUnit.set, hsets]
  refine ⟨_, hexec, ?_, hcells, hsurfaces, fun h => ?_, fun l h hl => ?_, ?_, fun k p hk => ?_⟩
  · rw [answer_eq]
    dsimp only
    rw [hsets, hloader, hpanes, hframe]
    rfl
  · rw [abortLoad_idle h] at hsets hloader
    exact ⟨hsets, hloader⟩
  · refine ⟨fun k => (hset k).trans (abortLoad_set h hl k), fun ho => ?_, fun ho => ?_⟩
    · exact hloader.trans ((abortLoad_loader h).1 ho)
    · exact hloader.trans ((abortLoad_loader h).2 ho)
  · change w.pane.panes.length = _
    rw [hpanes, List.length_map]
  · obtain ⟨l, hl, hnone, hsome⟩ := pane_warmReset p
    have hget : w.pane.panes[k]? = some p.warmReset := by
      rw [hpanes, List.getElem?_map, hk]
      rfl
    exact ⟨l, hl, fun h => hget.trans (congrArg some (hnone h)),
      fun g h => hget.trans (congrArg some (hsome g h))⟩

end Sys2Proof.Machine

namespace Sys2Proof.Machine

/-! ### A pair joins the expired-hold list -/

section
variable {l : List (Nat × Nat)} {p : Nat × Nat}

/-- Taking out a pair that is not there changes nothing. -/
theorem filter_pair_absent (h : p ∉ l) : l.filter (fun q => q != p) = l :=
  List.filter_eq_self.mpr fun _ hq => bne_iff_ne.mpr fun he => h (he ▸ hq)

/-- A fresh pair joins a list with room at its end (R25). -/
theorem appendExpired_room (hp : p ∉ l) (hl : l.length < Config.expired) :
    appendExpired l p = l ++ [p] := by
  rw [appendExpired, filter_pair_absent hp, if_pos hl]

/-- A fresh pair that joins a full list drives out the oldest one (R25). -/
theorem appendExpired_full {x : Nat × Nat} {rest : List (Nat × Nat)} (hl : l = x :: rest)
    (hfull : l.length = Config.expired) (hp : p ∉ l) : appendExpired l p = rest ++ [p] := by
  rw [appendExpired, filter_pair_absent hp, if_neg (by omega), hl, List.drop_one, List.tail_cons]

/-- A pair already listed moves to the end (R25). -/
theorem appendExpired_again {a b : List (Nat × Nat)} (hl : l = a ++ p :: b) (ha : p ∉ a)
    (hb : p ∉ b) (hlen : l.length ≤ Config.expired) : appendExpired l p = a ++ b ++ [p] := by
  have hrest : l.filter (fun q => q != p) = a ++ b := by
    rw [hl, List.filter_append, List.filter_cons_of_neg (by simp), filter_pair_absent ha,
      filter_pair_absent hb]
  have hroom : (a ++ b).length < Config.expired := by
    rw [hl] at hlen
    simp only [List.length_append, List.length_cons] at hlen ⊢
    omega
  rw [appendExpired, hrest, if_pos hroom]

end

/-! ### The due holds of an ordered list -/

section
variable {l : List Hold}

/-- In a list ordered by expiry the holds due at `v` are those at its front (R23, R32). -/
theorem takeWhile_due (h : l.Pairwise (fun a b => a.expiry ≤ b.expiry)) (v : Nat) :
    l.takeWhile (fun h => h.expiry ≤ v) = l.filter (fun h => h.expiry ≤ v) := by
  induction l with
  | nil => rfl
  | cons x rest ih =>
    obtain ⟨hx, hrest⟩ := List.pairwise_cons.mp h
    by_cases hv : x.expiry ≤ v
    · simp [hv, ih hrest]
    · have hnone : ∀ y, y ∈ rest → v < y.expiry := fun y hy => by
        have := hx y hy
        omega
      simpa [hv] using hnone

/-- The holds that stay are those not yet due (R32). -/
theorem dropWhile_due (h : l.Pairwise (fun a b => a.expiry ≤ b.expiry)) (v : Nat) :
    l.dropWhile (fun h => h.expiry ≤ v) = l.filter (fun h => v < h.expiry) := by
  induction l with
  | nil => rfl
  | cons x rest ih =>
    obtain ⟨hx, hrest⟩ := List.pairwise_cons.mp h
    by_cases hv : x.expiry ≤ v
    · simp [hv, ih hrest]
    · have hall : rest.filter (fun h => v < h.expiry) = rest :=
        List.filter_eq_self.mpr fun y hy => decide_eq_true (by have := hx y hy; omega)
      simp [hv, Nat.lt_of_not_le hv, hall]

end

/-! ### The shows and the events of the expiry event -/

/-- A list whose elements outside a test are sent to nothing may be cut to that test. -/
theorem flatMap_filter_of_nil {α β : Type} {l : List α} {p : α → Bool} {f : α → List β}
    (h : ∀ x, p x = false → f x = []) : (l.filter p).flatMap f = l.flatMap f := by
  induction l with
  | nil => rfl
  | cons x rest ih =>
    cases hp : p x
    · simp [hp, ih, h x hp]
    · simp [hp, ih]

/-- A band that stays has no event. -/
@[simp] theorem bandEvents_self (m : Nat) (b : Band) : bandEvents m b b = [] := by
  simp [bandEvents]

/-- Bands of distinct shows recomputed in turn emit their band events in that order (R33). -/
theorem visitEach_reband_out (t : TallyUnit) {l : List Nat} (hl : l.Nodup) :
    (visitEach (fun u n => u.reband n) t l).out =
      (l.flatMap fun m => bandEvents m (t.entry m).band (bandOf t.settings (t.entry m))).map
        BoardEvent.tally := by
  induction l generalizing t with
  | nil => rfl
  | cons n rest ih =>
    obtain ⟨hn, hrest⟩ := List.nodup_cons.mp hl
    have hsame : ∀ m ∈ rest, (t.reband n).unit.entry m = t.entry m := fun m hm => by
      rw [reband_entry, if_neg]
      rintro ⟨rfl, -⟩
      exact hn hm
    have hset : (t.reband n).unit.settings = t.settings := rfl
    rw [visitEach, ih _ hrest, reband_out, List.flatMap_cons, List.map_append,
      List.flatMap_congr fun m hm => by rw [hsame m hm, hset]]

/-- Holds lapsed leave the settings. -/
@[simp] theorem lapseAll_settings (t : TallyUnit) (l : List Hold) :
    (t.lapseAll l).settings = t.settings := by
  rw [lapseAll_frame]

section
variable {t : TallyUnit}

/-- The due holds lapsed: each show keeps the held seats of the holds that stay (R24, R32). -/
theorem lapseDue_entry (hi : TallyInv t) (v m : Nat) :
    ((t.withLists (t.holds.dropWhile (fun h => h.expiry ≤ v)) t.expired).lapseAll
        (t.holds.takeWhile (fun h => h.expiry ≤ v))).entry m =
      { t.entry m with held := heldBy m (t.holds.dropWhile (fun h => h.expiry ≤ v)) } := by
  have hsplit := heldBy_take_drop m t.holds (fun h => h.expiry ≤ v)
  have hheld := hi.held m
  rw [lapseAll_entry, withLists_entry, withLists_shows]
  split
  · rw [show (t.entry m).held - heldBy m (t.holds.takeWhile (fun h => h.expiry ≤ v)) =
      heldBy m (t.holds.dropWhile (fun h => h.expiry ≤ v)) by omega]
  · next hm =>
    have hzero : (t.entry m).held = 0 := by rw [entry_past (Nat.le_of_not_lt hm)]; rfl
    rw [show heldBy m (t.holds.dropWhile (fun h => h.expiry ≤ v)) = (t.entry m).held by omega]

/-- The expiry event leaves an EMPTY entry, and gives every other show the held seats of the holds
that stay and the band of R9: a show that lost no hold has both already (R32, R33). -/
theorem expire_show (hi : TallyInv t) (v m : Nat) :
    (t.expire v).unit.entry m =
      if (t.entry m).state = .empty then Show.vacant
      else Show.rebanded { t.entry m with held := heldBy m (t.expire v).unit.holds } t.settings := by
  have hholds : (t.expire v).unit.holds = t.holds.dropWhile (fun h => h.expiry ≤ v) := by
    rw [expire_frame]
  rw [expire_entry hi, hholds]
  by_cases ha : (t.holds.takeWhile (fun h => h.expiry ≤ v)).any (fun h => h.showNo == m) = true
  · obtain ⟨x, hx, hxm⟩ := List.any_eq_true.mp ha
    have he : (t.entry m).state ≠ .empty := fun he =>
      hi.no_holds (.inl he) ((List.takeWhile_sublist _).subset hx) (by simpa using hxm)
    rw [if_pos ha, if_neg he]
  · rw [if_neg ha]
    split
    · next he => exact hi.vacant m he
    · next he =>
      have hsplit := heldBy_take_drop m t.holds (fun h => h.expiry ≤ v)
      rw [heldBy_eq_zero (l := t.holds.takeWhile _) fun x hx hxm =>
        ha (List.any_eq_true.mpr ⟨x, hx, by simpa using hxm⟩), Nat.zero_add, ← hi.held] at hsplit
      rw [hsplit, Show.rebanded, ← hi.band m he]

/-- The expiry event emits the band event of every show whose band changed, in show-number order
(R33). -/
theorem expire_out (hi : TallyInv t) (v : Nat) :
    (t.expire v).out =
      ((List.range 128).flatMap fun m =>
        bandEvents m (t.entry m).band ((t.expire v).unit.entry m).band).map BoardEvent.tally := by
  have hnodup : (showNumbers.filter fun m =>
      (t.holds.takeWhile (fun h => h.expiry ≤ v)).any (fun h => h.showNo == m)).Nodup :=
    List.nodup_range.filter _
  have hquiet : ∀ m, (t.holds.takeWhile (fun h => h.expiry ≤ v)).any (fun h => h.showNo == m) =
      false → bandEvents m (t.entry m).band ((t.expire v).unit.entry m).band = [] := fun m ha => by
    rw [expire_entry hi, if_neg (by simp [ha]), bandEvents_self]
  change (visitEach (fun u n => u.reband n) ((t.withLists _ t.expired).lapseAll _) _).out = _
  rw [visitEach_reband_out _ hnodup, lapseAll_settings]
  refine congrArg _ (Eq.trans (List.flatMap_congr fun m hm => ?_) (flatMap_filter_of_nil hquiet))
  rw [expire_entry hi, if_pos (List.mem_filter.mp hm).2, lapseDue_entry hi]
  rfl

end

/-- HOLD_EXPIRY takes the waiting expiry event (R32, R33). -/
theorem holdExpiry_returnsSeats {s : State} {v : Nat} (hr : s.path.resetHeld = false)
    (hw : s.tally.expiryWaiting = some v) (hi : TallyInv s.tally) :
    ∃ t, exec .holdExpiry s = .next t ∧ s.tallyFrame t ∧ t.intake = s.intake ∧
      t.tally.shows.length = 128 ∧
      t.tally = { s.tally with
        shows := t.tally.shows
        holds := s.tally.holds.filter (fun h => v < h.expiry)
        expired := lapsedInto s.tally.expired (s.tally.holds.filter (fun h => h.expiry ≤ v))
        expiryWaiting := none } ∧
      (∀ m, (s.tally.entry m).state = .empty → t.tally.entry m = Show.vacant) ∧
      (∀ m w, (s.tally.entry m).state ≠ .empty →
        w = { s.tally.entry m with held := heldBy m t.tally.holds } →
        t.tally.entry m = { w with band := bandOf s.tally.settings w }) ∧
      s.emits t ((List.range 128).flatMap (fun m =>
        bandEvents m (s.tally.entry m).band (t.tally.entry m).band)) := by
  have hi' : TallyInv { s.tally with expiryWaiting := none } := hi.congr rfl rfl rfl rfl
  have hlen := expire_length { s.tally with expiryWaiting := none } v
  have hframe := expire_frame { s.tally with expiryWaiting := none } v
  have hshow := expire_show hi' v
  have hout := expire_out hi' v
  have htake : takeExpiry s =
      s.tallyDone (TallyUnit.expire { s.tally with expiryWaiting := none } v).unit
        (TallyUnit.expire { s.tally with expiryWaiting := none } v).out := by
    rw [takeExpiry, hw]
  rw [takeWhile_due hi'.sorted, dropWhile_due hi'.sorted] at hframe
  generalize TallyUnit.expire { s.tally with expiryWaiting := none } v = r
    at hlen hframe hshow hout htake
  refine ⟨s.tallyDone r.unit r.out, ?_, tallyDone_frame _ _ _, rfl, hlen.trans hi.shows_length,
    hframe, fun m he => (hshow m).trans (if_pos he), fun m w he hw => ?_, ?_⟩
  · change whenRunning takeExpiry s = _
    rw [whenRunning_runs hr, htake]
  · subst hw
    exact (hshow m).trans (if_neg he)
  · rw [hout]
    exact tallyDone_emits _ _ _

/-- Settles O7: a pair joins the expired-hold list in three ways, and the due holds are the front of
the ordered hold list. -/
theorem holdExpiryReturnsSeats : Obligations.HoldExpiryReturnsSeats :=
  ⟨fun _ _ => ⟨appendExpired_room, fun _ _ hl hfull hp => appendExpired_full hl hfull hp,
      fun _ _ hl ha hb hlen => appendExpired_again hl ha hb hlen⟩,
    fun _ _ hr hw hi => holdExpiry_returnsSeats hr hw hi⟩

end Sys2Proof.Machine

namespace Sys2Proof.Machine

/-! ### Records that change one show and the hold lists -/

/-- A hold inserted in an ordered list stands before every later one (R27). -/
theorem insertHold_place {new : Hold} {l : List Hold}
    (h : l.Pairwise (fun a b => a.expiry ≤ b.expiry)) :
    ∃ before after, l = before ++ after ∧ insertHold new l = before ++ new :: after ∧
      (∀ x, x ∈ before → x.expiry ≤ new.expiry) ∧ (∀ x, x ∈ after → new.expiry < x.expiry) := by
  obtain ⟨before, after, hl, hins, hbefore, hafter⟩ := insertHold_split new l
  refine ⟨before, after, hl, hins, hbefore, fun x hx => ?_⟩
  obtain ⟨-, hsorted, -⟩ := List.pairwise_append.mp (hl ▸ h)
  cases after with
  | nil => cases hx
  | cons y rest =>
    have hy := hafter y rfl
    rcases List.mem_cons.mp hx with rfl | hx
    · exact hy
    · have := (List.pairwise_cons.mp hsorted).1 x hx
      omega

/-- An entry replaced beside new lists, its band recomputed, and the record answered. -/
theorem withLists_reband_done {t : TallyUnit} {m : Nat} (hm : m < t.shows.length) (hs : List Hold)
    (ex : List (Nat × Nat)) (w : Show) :
    (((t.withLists hs ex).put m w).reband m).done m = (t.withLists hs ex).changed m w :=
  put_reband_done (t := t.withLists hs ex) hm w

section
variable {s : State} {q : QueuedRecord} {r : Record} {desk id : Nat}

/-- A record that changed one show and the two hold lists is done: the band recomputed, its event
emitted, the show reported in the verdict (R9, R10, R12). -/
theorem changedLists_done {m : Nat} {w : Show} {hs : List Hold} {ex : List (Nat × Nat)}
    (h : s.readsRecord q r) (hown : ownRecord r s = tallyRecord r s)
    (ha : s.tally.apply s.clock.minute s.clock.uptime r = (s.tally.withLists hs ex).changed m w)
    (hm : m < s.tally.shows.length) :
    ∃ t, exec .processingStep s = .next t ∧ s.tallyFrame t ∧
      t.tally = (s.tally.put m (w.rebanded s.tally.settings)).withLists hs ex ∧
      s.emits t (bandEvents m w.band (bandOf s.tally.settings w)) ∧
      s.intake.stepped t.intake {
        addr := q.addr, reason := .none, left := w.left, state := w.state,
        band := bandOf s.tally.settings w } := by
  obtain ⟨t, hexec, hframe, htally, hemits, hstep⟩ := processingStep_emits h hown ha rfl
  have hrep : ((s.tally.withLists hs ex).changed m w).reported = w.rebanded s.tally.settings :=
    put_entry_self (t := s.tally.withLists hs ex) hm _
  rw [hrep] at hstep
  exact ⟨t, hexec, hframe, htally, hemits, hstep⟩

/-! ### HOLD -/

/-- A HOLD that passes the tests of R26 inserts its hold, raises the held field of its show and
takes its pair off the expired-hold list (R27, R28). -/
theorem hold_passed {t : TallyUnit} {m n lifetime uptime : Nat} (hi : TallyInv t)
    (hm : m < Config.shows) (hd : desk ≤ 63) (hid : 1 ≤ id) (h1 : 1 ≤ n) (h2 : n ≤ 64)
    (he : (t.entry m).state ≠ .empty) (hc : (t.entry m).state ≠ .closed)
    (hx : (t.entry m).state ≠ .cancelled) (hp : ∀ h, h ∈ t.holds → h.pair ≠ (desk, id))
    (hl : t.holds.length < Config.holds)
    (hs : (t.entry m).sold + (t.entry m).held + (t.entry m).blocked + n ≤ (t.entry m).capacity) :
    t.hold uptime desk id m n lifetime =
      (t.withLists (insertHold (newHold uptime desk id m n lifetime) t.holds)
        (t.expired.filter (fun p => p != (desk, id)))).changed m
        { t.entry m with held := (t.entry m).held + n } := by
  have hlen : m < t.shows.length := by rw [hi.shows_length]; exact hm
  have hpair : ¬ t.hasHold (desk, id) = true := by
    rw [hasHold_iff]
    rintro ⟨h, hh, hhp⟩
    exact hp h hh hhp
  rw [TallyUnit.hold, if_neg (by omega), if_neg (by omega), if_neg (by omega),
    if_neg (by rw [badCount_iff]; omega), if_neg he, if_neg (by simp [over_iff, hc, hx]),
    if_neg hpair, if_neg (by omega), if_neg (by rw [left_lt_iff (hi.seats m)]; omega)]
  exact withLists_reband_done hlen _ _ _

/-- HOLD places its hold and raises the held field of its show (R27, R28). -/
theorem holdRecord_applies {m n lifetime : Nat} {w : Show} (hi : TallyInv s.tally) (hd : desk ≤ 63)
    (hid : 1 ≤ id) (h : s.readsRecord q (.hold desk id m n lifetime)) (hw : w = s.tally.entry m)
    (hm : m < 128) (h1 : 1 ≤ n) (h2 : n ≤ 64) (he : w.state ≠ .empty) (hc : w.state ≠ .closed)
    (hx : w.state ≠ .cancelled) (hp : ∀ h, h ∈ s.tally.holds → h.pair ≠ (desk, id))
    (hl : s.tally.holds.length < 256) (hs : w.sold + w.held + w.blocked + n ≤ w.capacity) :
    ∃ t h before after v, exec .processingStep s = .next t ∧ s.tallyFrame t ∧
      h = { desk := desk, holdId := id, showNo := m, n := n,
            expiry := s.clock.uptime + max 10 (min lifetime 900) } ∧
      s.tally.holds = before ++ after ∧ (∀ x, x ∈ before → x.expiry ≤ h.expiry) ∧
      (∀ x, x ∈ after → h.expiry < x.expiry) ∧
      v = { w with
        held := w.held + n, band := bandOf s.tally.settings { w with held := w.held + n } } ∧
      t.tally = { s.tally with
        shows := s.tally.shows.set m v, holds := before ++ h :: after
        expired := s.tally.expired.filter (fun p => p != (desk, id)) } ∧
      s.emits t (bandEvents m w.band v.band) ∧
      s.intake.stepped t.intake {
        addr := q.addr, reason := .none, left := v.left, state := v.state, band := v.band } := by
  subst hw
  obtain ⟨before, after, hsplit, hins, hbefore, hafter⟩ :=
    insertHold_place (new := newHold s.clock.uptime desk id m n lifetime) hi.sorted
  have hlen : m < s.tally.shows.length := by rw [hi.shows_length]; exact hm
  obtain ⟨t, hexec, hframe, htally, hemits, hstep⟩ :=
    changedLists_done h rfl (hold_passed hi hm hd hid h1 h2 he hc hx hp hl hs) hlen
  rw [hins] at htally
  exact ⟨t, _, before, after, _, hexec, hframe, rfl, hsplit, hbefore, hafter, rfl, htally, hemits,
    hstep⟩

/-! ### CONFIRM and RELEASE -/

/-- A search by pair finds a hold of a list of distinct pairs. -/
theorem find_pair_mem {l : List Hold} (hp : (l.map Hold.pair).Nodup) {h : Hold} (hh : h ∈ l)
    {p : Nat × Nat} (he : h.pair = p) : l.find? (fun x => x.pair == p) = some h := by
  rw [← List.head?_filter, ← he, filter_pair_eq hp hh, List.head?_cons]

section
variable {t : TallyUnit} {h : Hold}

/-- A hold names a show of the table (R23). -/
theorem TallyInv.showNo_lt (hi : TallyInv t) (hh : h ∈ t.holds) : h.showNo < t.shows.length := by
  rw [hi.shows_length]
  exact hi.numbers h hh

/-- The seats of a hold are among the held seats of its show (R24). -/
theorem TallyInv.seats_le_held (hi : TallyInv t) (hh : h ∈ t.holds) :
    h.n ≤ (t.entry h.showNo).held :=
  hi.held _ ▸ le_heldBy hh

/-- CONFIRM of a listed pair takes its hold off the list and counts its seats as sold (R29). -/
theorem confirm_found (hi : TallyInv t) (hd : desk ≤ 63) (hid : 1 ≤ id) (hh : h ∈ t.holds)
    (hp : h.pair = (desk, id)) :
    t.confirm desk id =
      (t.withLists (t.holds.filter (fun x => x.pair != (desk, id))) t.expired).changed h.showNo
        { t.entry h.showNo with
          held := (t.entry h.showNo).held - h.n, sold := (t.entry h.showNo).sold + h.n } := by
  rw [TallyUnit.confirm, if_neg (by omega), if_neg (by omega), find_pair_mem hi.pairs hh hp]
  exact withLists_reband_done (hi.showNo_lt hh) _ _ _

/-- RELEASE of a listed pair takes its hold off the list and returns its seats (R30). -/
theorem release_found (hi : TallyInv t) (hd : desk ≤ 63) (hid : 1 ≤ id) (hh : h ∈ t.holds)
    (hp : h.pair = (desk, id)) :
    t.release desk id =
      (t.withLists (t.holds.filter (fun x => x.pair != (desk, id))) t.expired).changed h.showNo
        { t.entry h.showNo with held := (t.entry h.showNo).held - h.n } := by
  rw [TallyUnit.release, if_neg (by omega), if_neg (by omega), find_pair_mem hi.pairs hh hp]
  exact withLists_reband_done (hi.showNo_lt hh) _ _ _

/-- Held seats sold leave the band as it was (R9, R29). -/
theorem bandOf_confirmed (hi : TallyInv t) (hh : h ∈ t.holds) :
    bandOf t.settings { t.entry h.showNo with
        held := (t.entry h.showNo).held - h.n, sold := (t.entry h.showNo).sold + h.n } =
      (t.entry h.showNo).band := by
  have hle := hi.seats_le_held hh
  rw [hi.band h.showNo fun he => hi.no_holds (.inl he) hh rfl]
  exact bandOf_congr _ rfl (by dsimp only; omega)

end

/-- CONFIRM turns the hold of its pair into a sale, its band as before (R29). -/
theorem confirmRecord_applies {h : Hold} {w : Show} (hi : TallyInv s.tally) (hd : desk ≤ 63)
    (hid : 1 ≤ id) (hrec : s.readsRecord q (.confirm desk id)) (hh : h ∈ s.tally.holds)
    (hp : h.pair = (desk, id)) (hw : w = s.tally.entry h.showNo) :
    ∃ t v, exec .processingStep s = .next t ∧ s.tallyFrame t ∧
      v = { w with held := w.held - h.n, sold := w.sold + h.n } ∧
      t.tally = { s.tally with
        shows := s.tally.shows.set h.showNo v
        holds := s.tally.holds.filter (fun x => x.pair != (desk, id)) } ∧
      s.emits t [] ∧
      s.intake.stepped t.intake {
        addr := q.addr, reason := .none, left := w.left, state := w.state, band := w.band } := by
  subst hw
  obtain ⟨t, hexec, hframe, htally, hemits, hstep⟩ :=
    changedLists_done hrec rfl (confirm_found hi hd hid hh hp) (hi.showNo_lt hh)
  rw [bandOf_confirmed hi hh] at hemits hstep
  rw [Show.rebanded, bandOf_confirmed hi hh] at htally
  rw [bandEvents_self] at hemits
  refine ⟨t, _, hexec, hframe, rfl, htally, hemits, ?_⟩
  have hleft : Show.left { s.tally.entry h.showNo with
      held := (s.tally.entry h.showNo).held - h.n
      sold := (s.tally.entry h.showNo).sold + h.n } = (s.tally.entry h.showNo).left := by
    have hle := hi.seats_le_held hh
    simp only [Show.left]
    omega
  rwa [hleft] at hstep

/-- RELEASE gives the seats of the hold of its pair back (R30). -/
theorem releaseRecord_applies {h : Hold} {w : Show} (hi : TallyInv s.tally) (hd : desk ≤ 63)
    (hid : 1 ≤ id) (hrec : s.readsRecord q (.release desk id)) (hh : h ∈ s.tally.holds)
    (hp : h.pair = (desk, id)) (hw : w = s.tally.entry h.showNo) :
    ∃ t v, exec .processingStep s = .next t ∧ s.tallyFrame t ∧
      v = { w with
        held := w.held - h.n
        band := bandOf s.tally.settings { w with held := w.held - h.n } } ∧
      t.tally = { s.tally with
        shows := s.tally.shows.set h.showNo v
        holds := s.tally.holds.filter (fun x => x.pair != (desk, id)) } ∧
      s.emits t (bandEvents h.showNo w.band v.band) ∧
      s.intake.stepped t.intake {
        addr := q.addr, reason := .none, left := v.left, state := v.state, band := v.band } := by
  subst hw
  obtain ⟨t, hexec, hframe, htally, hemits, hstep⟩ :=
    changedLists_done hrec rfl (release_found hi hd hid hh hp) (hi.showNo_lt hh)
  exact ⟨t, _, hexec, hframe, rfl, htally, hemits, hstep⟩

/-! ### A pair that stands in no hold -/

/-- A late answer takes the pair off the expired-hold list, and is HOLD_EXPIRED exactly where it
stood there (R29, R30). -/
theorem lateAnswer_eq (t : TallyUnit) (p : Nat × Nat) :
    t.lateAnswer p = (t.withLists t.holds (t.expired.filter (fun q => q != p))).refuse
      (if p ∈ t.expired then .holdExpired else .holdUnknown) none := by
  by_cases hp : p ∈ t.expired
  · rw [TallyUnit.lateAnswer, if_pos (by simpa using hp), if_pos hp]
    rfl
  · rw [TallyUnit.lateAnswer, if_neg (by simpa using hp), if_neg hp, filter_pair_absent hp]
    rfl

/-- CONFIRM and RELEASE of a pair that stands in no hold (R29, R30, R31). -/
theorem lateRecord_applies (hd : desk ≤ 63) (hid : 1 ≤ id)
    (hr : r = .confirm desk id ∨ r = .release desk id) (h : s.readsRecord q r)
    (hnone : ∀ h, h ∈ s.tally.holds → h.pair ≠ (desk, id)) :
    ∃ t reason, exec .processingStep s = .next t ∧ s.tallyFrame t ∧
      t.tally = { s.tally with
        expired := s.tally.expired.filter (fun p => p != (desk, id)) } ∧
      s.emits t [] ∧ ((desk, id) ∈ s.tally.expired → reason = .holdExpired) ∧
      ((desk, id) ∉ s.tally.expired → reason = .holdUnknown) ∧
      s.intake.stepped t.intake {
        addr := q.addr, reason := reason, left := 0, state := .empty, band := .plenty } := by
  obtain ⟨hown, htests⟩ := pair_tests hr
  obtain ⟨passed, hp, hlate⟩ := htests s.tally s.clock.minute s.clock.uptime
  rw [pairTests_passed hd hid, hlate hnone, lateAnswer_eq] at hp
  obtain ⟨t, hexec, hframe, htally, hemits, hstep⟩ :=
    processingStep_emits (l := []) h (hown s) hp rfl
  exact ⟨t, _, hexec, hframe, htally, hemits, fun he => if_pos he, fun he => if_neg he, hstep⟩

end

/-- Settles O31: each of the three records by the tests it passes, and a pair without a hold by the
late answer. -/
theorem holdRecordsApply : Obligations.HoldRecordsApply := by
  intro s q desk id hi hd hid
  exact ⟨fun _ _ _ _ h hw hm h1 h2 he hc hx hp hl hs =>
      holdRecord_applies hi hd hid h hw hm h1 h2 he hc hx hp hl hs,
    fun _ _ h hh hp hw => confirmRecord_applies hi hd hid h hh hp hw,
    fun _ _ h hh hp hw => releaseRecord_applies hi hd hid h hh hp hw,
    fun _ hr h hnone => lateRecord_applies hd hid hr h hnone⟩

end Sys2Proof.Machine

namespace Sys2Proof.Machine

/-! ### What the clock's and the views' invariants read -/

/-- What the Patch Unit holds of the views: each as handed on, and the numbers of those that wait
(R53). -/
def PatchUnit.viewPart (p : PatchUnit) : List ViewPage × List Nat := (p.viewPages, p.fromBoard)

/-- What the invariants of the clock and the views read of a state. -/
def State.viewPart (s : State) : ClockUnit × List BoardView × List ViewPage × List Nat :=
  (s.clock, s.board.views, s.patch.viewPart)

/-- What holds of the clock and of the views in one state holds in the other (R39, R53, R164). -/
structure State.KeepsViews (s t : State) : Prop where
  clock : ClockInv s.clock → ClockInv t.clock
  board : BoardInv s.board → BoardInv t.board
  handed : HandedInv s → HandedInv t

theorem State.KeepsViews.refl (s : State) : s.KeepsViews s := ⟨id, id, id⟩

theorem State.KeepsViews.trans {s t u : State} (h : s.KeepsViews t) (k : t.KeepsViews u) :
    s.KeepsViews u :=
  ⟨k.clock ∘ h.clock, k.board ∘ h.board, k.handed ∘ h.handed⟩

/-- The invariants read no more than `State.viewPart`. -/
theorem keepsViews_of_viewPart {s t : State} (h : t.viewPart = s.viewPart) : s.KeepsViews t := by
  obtain ⟨hclock, hrest⟩ := Prod.mk.inj h
  obtain ⟨hviews, hpatch⟩ := Prod.mk.inj hrest
  obtain ⟨hpages, hwait⟩ := Prod.mk.inj hpatch
  refine ⟨fun hc => hclock ▸ hc, fun hb => ⟨?_, ?_⟩, fun hh => ⟨?_, ?_⟩⟩
  · rw [hviews]; exact hb.views_length
  · rw [hviews]; exact hb.views
  · rw [hpages, hviews]; exact hh.pages_length
  · rw [hpages, hviews, hwait]; exact hh.handed

/-- A change of what the invariants do not read, before or after, has no part in what is kept. -/
theorem State.KeepsViews.from_same {s t u : State} (h : t.KeepsViews u)
    (e : t.viewPart = s.viewPart) : s.KeepsViews u := (keepsViews_of_viewPart e).trans h

theorem State.KeepsViews.to_same {s t u : State} (h : s.KeepsViews t)
    (e : u.viewPart = t.viewPart) : s.KeepsViews u := h.trans (keepsViews_of_viewPart e)

/-! ### What leaves the Patch Unit's views alone -/

section
variable (p : PatchUnit)

@[simp] theorem PatchUnit.commitIdle_viewPart (k : Nat) :
    (p.commitIdle k).viewPart = p.viewPart := by
  rw [commitIdle_eq]; rfl
@[simp] theorem PatchUnit.commitIdleEach_viewPart (l : List Nat) :
    (p.commitIdleEach l).viewPart = p.viewPart := by
  rw [commitIdleEach_eq]; rfl
@[simp] theorem PatchUnit.idleExpiry_viewPart (k : Nat) :
    (p.idleExpiry k).viewPart = p.viewPart := by
  unfold PatchUnit.idleExpiry
  split
  · exact PatchUnit.commitIdle_viewPart ..
  · rfl
@[simp] theorem PatchUnit.idleExpiryEach_viewPart (l : List Nat) :
    (p.idleExpiryEach l).viewPart = p.viewPart := by
  induction l generalizing p with
  | nil => rfl
  | cons k rest ih => rw [PatchUnit.idleExpiryEach, ih, PatchUnit.idleExpiry_viewPart]
@[simp] theorem PatchUnit.millisecond_viewPart : p.millisecond.viewPart = p.viewPart := by
  rw [← PatchUnit.idleExpiryEach_viewPart p surfaceNumbers]
  unfold PatchUnit.millisecond PatchUnit.viewPart
  dsimp only
@[simp] theorem PatchUnit.putCell_viewPart (n : Nat) (c : Option Cell) :
    (p.putCell n c).viewPart = p.viewPart := by
  rw [PatchUnit.putCell, PatchUnit.commitIdle_viewPart, PatchUnit.commitIdle_viewPart]; rfl
@[simp] theorem PatchUnit.endLoad_viewPart (l : Load) : (p.endLoad l).viewPart = p.viewPart := by
  rw [PatchUnit.endLoad, PatchUnit.commitIdleEach_viewPart]; rfl

variable {p}

theorem PatchUnit.glyphResponse_viewPart {txn : Nat} {reply : Reply} {q : PatchUnit}
    (h : p.glyphResponse txn reply = some q) : q.viewPart = p.viewPart := by
  unfold PatchUnit.glyphResponse at h
  split at h
  · cases h; rfl
  · split at h <;> cases h
    rfl
  · split at h
    · cases h; rfl
    · split at h <;> cases h <;> rfl

end

/-! ### What leaves the clock and the views alone -/

section
variable (s : State)

@[simp] theorem State.withPath_viewPart (u : PathUnit) : (s.withPath u).viewPart = s.viewPart := rfl
@[simp] theorem State.withNotice_viewPart (u : NoticeUnit) :
    (s.withNotice u).viewPart = s.viewPart := rfl
@[simp] theorem State.withPane_viewPart (u : PaneUnit) : (s.withPane u).viewPart = s.viewPart := rfl
@[simp] theorem State.withIntake_viewPart (u : IntakeUnit) :
    (s.withIntake u).viewPart = s.viewPart := rfl
@[simp] theorem State.withCommand_viewPart (u : CommandUnit) :
    (s.withCommand u).viewPart = s.viewPart := rfl
@[simp] theorem State.raise_viewPart (c : Cause) : (s.raise c).viewPart = s.viewPart := rfl
@[simp] theorem State.raiseAll_viewPart (l : List Cause) :
    (s.raiseAll l).viewPart = s.viewPart := by
  rw [raiseAll_eq]; rfl
@[simp] theorem State.refuse_viewPart (code tag : Nat) (status : Status) :
    (s.refuse code tag status).viewPart = s.viewPart := rfl
@[simp] theorem State.answer_viewPart (code tag : Nat) (result : List Byte) :
    (s.answer code tag result).viewPart = s.viewPart := rfl
@[simp] theorem State.forward_viewPart (r : Request) : (s.forward r).viewPart = s.viewPart := rfl
@[simp] theorem State.sendUp_viewPart (r : Response) : (s.sendUp r).viewPart = s.viewPart := rfl
@[simp] theorem State.sendDown_viewPart (r : Request) : (s.sendDown r).viewPart = s.viewPart := rfl
@[simp] theorem State.track_viewPart (r : Request) (k : Tracked) :
    (s.track r k).viewPart = s.viewPart := rfl
@[simp] theorem State.untrack_viewPart (i t : Nat) : (s.untrack i t).viewPart = s.viewPart := rfl
@[simp] theorem State.tallyDone_viewPart (u : TallyUnit) (out : List BoardEvent) :
    (s.tallyDone u out).viewPart = s.viewPart := rfl
@[simp] theorem State.noticeDone_viewPart (u : NoticeUnit) :
    (s.noticeDone u).viewPart = s.viewPart := rfl

/-- A Patch Unit that holds the same views leaves them. -/
theorem State.withPatch_viewPart {u : PatchUnit} (h : u.viewPart = s.patch.viewPart) :
    (s.withPatch u).viewPart = s.viewPart :=
  congrArg (fun x => (s.clock, s.board.views, x)) h

@[simp] theorem State.derive_viewPart (reached : Source → Bool) :
    (s.derive reached).viewPart = s.viewPart := by
  rw [derive_eq]; rfl
@[simp] theorem State.commitAll_viewPart : s.commitAll.viewPart = s.viewPart := by
  rw [State.commitAll, s.withPatch_viewPart (PatchUnit.commitIdleEach_viewPart ..)]
@[simp] theorem State.applyTop_viewPart (h : TopHandOn) : (s.applyTop h).viewPart = s.viewPart := by
  rw [State.applyTop, State.derive_viewPart]
  exact s.withPatch_viewPart (PatchUnit.commitIdle_viewPart ..)
@[simp] theorem State.applyTops_viewPart (l : List TopHandOn) :
    (s.applyTops l).viewPart = s.viewPart := by
  induction l generalizing s with
  | nil => rfl
  | cons h rest ih => rw [State.applyTops, ih, State.applyTop_viewPart]
@[simp] theorem settleTops_viewPart : (settleTops s).viewPart = s.viewPart := by
  rw [settleTops, State.withPane_viewPart, State.applyTops_viewPart]; rfl

/-! ### The units' own events -/

theorem takeMinute_viewPart : (takeMinute s).viewPart = s.viewPart := by
  unfold takeMinute
  split
  · exact State.tallyDone_viewPart ..
  · rfl
theorem takeExpiry_viewPart : (takeExpiry s).viewPart = s.viewPart := by
  unfold takeExpiry
  split
  · exact State.tallyDone_viewPart ..
  · rfl
theorem takeFromTally_viewPart : (takeFromTally s).viewPart = s.viewPart := by
  unfold takeFromTally
  split
  · rw [State.derive_viewPart]; rfl
  · rfl
theorem takeFromNotice_viewPart : (takeFromNotice s).viewPart = s.viewPart := by
  unfold takeFromNotice
  split
  · rw [State.applyTop_viewPart]; rfl
  · rfl
theorem takeClockCells_viewPart : (takeClockCells s).viewPart = s.viewPart := by
  unfold takeClockCells
  split
  · rw [State.derive_viewPart]; rfl
  · rfl
theorem takeNoticeTick_viewPart : (takeNoticeTick s).viewPart = s.viewPart := by
  unfold takeNoticeTick
  split
  · exact State.noticeDone_viewPart ..
  · rfl
theorem noticeTally_viewPart (e : TallyEvent) : (noticeTally e s).viewPart = s.viewPart := by
  simp only [noticeTally]; split <;> simp
theorem takeNoticeEvent_viewPart : (takeNoticeEvent s).viewPart = s.viewPart := by
  unfold takeNoticeEvent
  split
  · rw [noticeTally_viewPart]; rfl
  · rfl
theorem takeFlagHandOn_viewPart : (takeFlagHandOn s).viewPart = s.viewPart := by
  unfold takeFlagHandOn; split <;> rfl
theorem takeRetry_viewPart (k : Nat) : (takeRetry k s).viewPart = s.viewPart := by
  unfold takeRetry; split <;> rfl
theorem settleRetries_viewPart (n : Nat) : (settleRetries n s).viewPart = s.viewPart := by
  induction n generalizing s with
  | zero => rfl
  | succ n ih => rw [settleRetries, ih, takeRetry_viewPart]
theorem takeLoadDone_viewPart : (takeLoadDone s).viewPart = s.viewPart := by
  have hend : ∀ l, (s.withPatch (s.patch.endLoad l)).viewPart = s.viewPart := fun l =>
    s.withPatch_viewPart (PatchUnit.endLoad_viewPart ..)
  unfold takeLoadDone
  split
  · split
    · split <;> simp [hend]
    · rfl
  · rfl
theorem takeDrainEnd_viewPart : (takeDrainEnd s).viewPart = s.viewPart := by
  unfold takeDrainEnd; split <;> rfl
theorem ownRecord_viewPart (r : Record) : (ownRecord r s).state.viewPart = s.viewPart := by
  unfold ownRecord; split <;> rfl
theorem applyRecord_viewPart (data : List Byte) :
    (applyRecord data s).state.viewPart = s.viewPart := by
  unfold applyRecord
  split
  · rfl
  · split
    · rfl
    · exact ownRecord_viewPart ..
theorem processStep_viewPart : (processStep s).viewPart = s.viewPart := by
  unfold processStep
  split
  · rfl
  · split
    · rw [State.withIntake_viewPart, applyRecord_viewPart]
    · rfl

/-! ### The commands that leave the clock and the views -/

theorem cmdSetMode_viewPart (tag mode : Nat) : (cmdSetMode tag mode s).viewPart = s.viewPart := by
  unfold cmdSetMode; split <;> rfl
theorem cmdSetIntake_viewPart (tag : Nat) (p : IntakeParams) :
    (cmdSetIntake tag p s).viewPart = s.viewPart := by
  unfold cmdSetIntake; split_ifs <;> rfl
theorem cmdSetTally_viewPart (tag : Nat) (p : TallyParams) :
    (cmdSetTally tag p s).viewPart = s.viewPart := by
  simp only [cmdSetTally]
  rw [State.answer_viewPart, State.tallyDone_viewPart]
theorem cmdSetWords_viewPart (tag : Nat) (words : List Nat) :
    (cmdSetWords tag words s).viewPart = s.viewPart := by
  unfold cmdSetWords
  split
  · rw [State.answer_viewPart, State.derive_viewPart]; rfl
  · rfl
theorem cmdSetSegment_viewPart (tag segment : Nat) (text : List Byte) :
    (cmdSetSegment tag segment text s).viewPart = s.viewPart := by
  unfold cmdSetSegment; split_ifs <;> simp
theorem cmdSetTrigger_viewPart (tag : Nat) (p : TriggerParams) :
    (cmdSetTrigger tag p s).viewPart = s.viewPart := by
  unfold cmdSetTrigger; split <;> simp
theorem cmdClearTrigger_viewPart (tag trigger : Nat) :
    (cmdClearTrigger tag trigger s).viewPart = s.viewPart := by
  unfold cmdClearTrigger; split <;> simp
theorem cmdClearCauses_viewPart (tag mask : Nat) :
    (cmdClearCauses tag mask s).viewPart = s.viewPart := by
  unfold cmdClearCauses; split <;> rfl
theorem cmdInspect_viewPart (tag kind index : Nat) :
    (cmdInspect tag kind index s).viewPart = s.viewPart := by
  unfold cmdInspect; split <;> rfl
theorem cmdSetSurface_viewPart (tag : Nat) (p : SurfaceParams) :
    (cmdSetSurface tag p s).viewPart = s.viewPart := by
  unfold cmdSetSurface; split_ifs <;> rfl
theorem cmdSetCell_viewPart (tag : Nat) (p : CellParams) :
    (cmdSetCell tag p s).viewPart = s.viewPart := by
  unfold cmdSetCell
  split
  · rfl
  · exact s.withPatch_viewPart (PatchUnit.putCell_viewPart ..)
theorem cmdClearCell_viewPart (tag cell : Nat) :
    (cmdClearCell tag cell s).viewPart = s.viewPart := by
  unfold cmdClearCell
  split
  · rfl
  · exact s.withPatch_viewPart (PatchUnit.putCell_viewPart ..)
theorem cmdLoadGlyphs_viewPart (tag set source sum : Nat) :
    (cmdLoadGlyphs tag set source sum s).viewPart = s.viewPart := by
  unfold cmdLoadGlyphs; split_ifs <;> rfl
theorem cmdSetPane_viewPart (tag : Nat) (p : PaneParams) :
    (cmdSetPane tag p s).viewPart = s.viewPart := by
  unfold cmdSetPane
  split_ifs
  any_goals rfl
  split <;> rfl
theorem cmdSetPlaylist_viewPart (tag pane first count : Nat) (entries : List EntryParams) :
    (cmdSetPlaylist tag pane first count entries s).viewPart = s.viewPart := by
  unfold cmdSetPlaylist; split_ifs <;> rfl
theorem cmdPlayStart_viewPart (tag pane entry now : Nat) :
    (cmdPlayStart tag pane entry now s).viewPart = s.viewPart := by
  unfold cmdPlayStart
  split
  · rfl
  · split <;> rfl
theorem State.resumed_viewPart (pane : Nat) (r : PlayResult) :
    (s.resumed pane r).viewPart = s.viewPart := by
  simp only [State.resumed]; split <;> rfl
theorem cmdPlayResume_viewPart (tag pane : Nat) :
    (cmdPlayResume tag pane s).viewPart = s.viewPart := by
  unfold cmdPlayResume
  split
  · rfl
  · split
    · rfl
    · rfl
    · exact State.resumed_viewPart ..
theorem cmdPlayStop_viewPart (tag pane : Nat) : (cmdPlayStop tag pane s).viewPart = s.viewPart := by
  unfold cmdPlayStop; split <;> rfl
theorem cmdPaneClear_viewPart (tag pane : Nat) :
    (cmdPaneClear tag pane s).viewPart = s.viewPart := by
  unfold cmdPaneClear; split <;> rfl

/-! ### Requests, responses and grants -/

theorem scanRead_viewPart (k : Nat) (r : Request) : (scanRead k r s).viewPart = s.viewPart := by
  simp only [scanRead]; split <;> rfl
theorem frameStart_viewPart (k : Nat) : (frameStart k s).viewPart = s.viewPart := by
  simp only [frameStart, State.raiseAll_viewPart]; rfl
theorem takeRead_viewPart (r : Request) : (takeRead r s).viewPart = s.viewPart := by
  unfold takeRead
  split
  · rfl
  · split
    · rfl
    · split
      · rw [scanRead_viewPart, frameStart_viewPart]
      · exact scanRead_viewPart ..
theorem takeWrite_viewPart (a : Nat) (full : Bool) (data : Line) :
    (takeWrite a full data s).viewPart = s.viewPart := by
  unfold takeWrite
  split
  · simp [takeIntake]
  · split
    · simp [takeMarker]
    · rfl
theorem State.returnRead_viewPart (t : Tracked) : (s.returnRead t).viewPart = s.viewPart := by
  unfold State.returnRead; split <;> rfl
theorem State.countLate_viewPart (t : Tracked) : (s.countLate t).viewPart = s.viewPart := by
  unfold State.countLate; split <;> rfl
theorem returnData_viewPart (e : InFlight) (data : Line) :
    (returnData e data s).viewPart = s.viewPart := by
  simp [returnData, State.returnRead_viewPart, State.countLate_viewPart]
theorem returnError_viewPart (e : InFlight) : (returnError e s).viewPart = s.viewPart := by
  simp [returnError, State.returnRead_viewPart]
theorem grantStream_viewPart (run : Nat) : (grantStream run s).viewPart = s.viewPart := by
  unfold grantStream; split <;> rfl
theorem grantVerdict_viewPart (own : Nat) : (grantVerdict own s).viewPart = s.viewPart := by
  unfold grantVerdict; split <;> rfl
theorem grantGlyph_viewPart (own : Nat) : (grantGlyph own s).viewPart = s.viewPart := by
  unfold grantGlyph; split <;> rfl
theorem grantOwn_viewPart (own : Nat) : (grantOwn own s).viewPart = s.viewPart := by
  simp only [grantOwn]
  split
  · rw [grantVerdict_viewPart]; rfl
  · rw [grantGlyph_viewPart]; rfl
theorem grant_viewPart (own : Nat) : (grant own s).viewPart = s.viewPart := by
  unfold grant
  split_ifs
  all_goals simp only [grantOwn_viewPart, grantStream_viewPart]

end

theorem takeResponse_viewPart {r : Response} {s t : State} (h : takeResponse r s = .next t) :
    t.viewPart = s.viewPart := by
  unfold takeResponse at h
  split_ifs at h
  · unfold verdictResponse at h
    split at h
    · split at h <;> cases h
      rfl
    · cases h; simp
    · cases h; simp
  · unfold loaderResponse at h
    split at h
    · cases h
    · next hp => cases h; exact s.withPatch_viewPart (PatchUnit.glyphResponse_viewPart hp)
  · unfold playerResponse at h
    split at h
    · cases h; rfl
    · split at h <;> cases h
      · exact returnData_viewPart ..
      · exact returnError_viewPart ..

/-! ### The Clock Unit stays in range -/

/-- A Clock Unit in range put for another leaves the views. -/
theorem withClock_keeps (s : State) {c : ClockUnit} (h : ClockInv s.clock → ClockInv c) :
    s.KeepsViews (s.withClock c) :=
  ⟨h, id, fun hh => ⟨hh.pages_length, hh.handed⟩⟩

/-- A millisecond tick counts below 1000 (R164). -/
theorem ClockInv.millisecond {c : ClockUnit} (hi : ClockInv c) : ClockInv c.millisecond := by
  unfold ClockUnit.millisecond
  split
  · next h => exact { hi with msCount := h }
  · exact { hi with msCount := Nat.succ_pos _ }

/-- The business clock advances within its day and holds at its end alone (R166). -/
theorem ClockInv.advance {c : ClockUnit} (hi : ClockInv c) : ClockInv c.advance.unit := by
  unfold ClockUnit.advance
  split
  · exact hi
  · next hrun =>
    split
    · next hs => exact { hi with second := hs, holding := fun h => absurd h hrun }
    · next hs =>
      split
      · next hm =>
        exact { hi with
          minute := hm, second := Nat.zero_le _, holding := fun h => absurd h hrun }
      · next hm =>
        have hsecond := Nat.le_antisymm hi.second (Nat.le_of_not_lt hs)
        exact { hi with
          holding := fun _ => ⟨Nat.le_antisymm hi.minute (Nat.le_of_not_lt hm), hsecond⟩ }

/-- A seconds tick leaves the Clock Unit in range: uptime stops at its end (R164, R166). -/
theorem ClockInv.second? {c : ClockUnit} (hi : ClockInv c) : ClockInv c.second?.unit := by
  refine ClockInv.advance { hi with uptime := ?_ }
  have h := hi.uptime
  dsimp only
  split <;> omega

/-- A Clock Unit set to a moment of the day is in range (R168, R169). -/
theorem ClockInv.setTo {c : ClockUnit} (hi : ClockInv c) {minute second origin : Nat}
    (hm : minute ≤ Config.lastMinute) (hs : second ≤ 59) (ho : origin < 1440) :
    ClockInv { c with minute := minute, second := second, holding := false, origin := origin } :=
  { hi with minute := hm, second := hs, origin := ho, holding := by simp }

/-! ### The views stay in range -/

/-- A view recomputed stays in range: a page beyond the list becomes 0 (R42, R46). -/
theorem ViewInv.recompute {v : BoardView} (hi : ViewInv v) (t : TallyUnit) (now : Nat) :
    ViewInv (v.recompute t now) := by
  have hd := hi.dwell
  unfold BoardView.recompute
  split
  · exact { hi with timer := ⟨by dsimp only; omega, Nat.le_refl _⟩, page := .inl rfl }
  · next h => exact { hi with page := by dsimp only; omega }

/-- A dwell tick keeps a view in range: the page turns within the list (R45). -/
theorem ViewInv.tick {v : BoardView} (hi : ViewInv v) : ViewInv v.tick := by
  have hd := hi.dwell
  have ht := hi.timer
  unfold BoardView.tick
  split
  · refine { hi with timer := ⟨?_, Nat.le_refl _⟩, page := ?_ }
    · simp only [BoardView.turn]; omega
    · simp only [BoardView.turn]
      split
      · exact .inl rfl
      · exact .inr (by omega)
  · exact { hi with timer := ⟨by dsimp only; omega, by dsimp only; omega⟩ }

/-- A tick handed on or taken has no part in the range of a view. -/
theorem ViewInv.withTick {v : BoardView} (hi : ViewInv v) (b : Bool) :
    ViewInv { v with tickWaiting := b } := { hi with }

/-- A WARM_RESET leaves a view in range (R47). -/
theorem ViewInv.warmReset {v : BoardView} (hi : ViewInv v) : ViewInv v.warmReset := by
  have hd := hi.dwell
  exact { hi with
    timer := ⟨by simp only [BoardView.warmReset]; omega, Nat.le_refl _⟩, page := .inl rfl }

/-- A view as SET_VIEW clamps it is in range (R40). -/
theorem viewOf_sound (p : ViewParams) (v : BoardView) (t : TallyUnit) (now : Nat)
    (hrows : ¬ (p.rows = 0 ∨ 16 < p.rows)) : ViewInv (viewOf p v t now) := by
  constructor <;> simp only [viewOf, clamp, true_or] <;> omega

/-! ### Views replaced and handed on -/

/-- Each view of a table is replaced by one of the same rows per page, in range where it was. -/
def viewsReplaced (old new : List BoardView) : Prop :=
  new.length = old.length ∧ ∀ (k : Nat) (v w : BoardView), old[k]? = some v → new[k]? = some w →
    w.rows = v.rows ∧ (ViewInv v → ViewInv w)

/-- Replacing views keeps the Board Unit in range. -/
theorem viewsReplaced.sound {b c : BoardUnit} (h : viewsReplaced b.views c.views)
    (hi : BoardInv b) : BoardInv c := by
  obtain ⟨hlen, hview⟩ := h
  refine ⟨hlen.trans hi.views_length, fun w hw => ?_⟩
  obtain ⟨k, hk, rfl⟩ := List.getElem_of_mem hw
  have hv := List.getElem?_eq_getElem (hlen ▸ hk)
  exact (hview k _ _ hv (List.getElem?_eq_getElem hk)).2 (hi.views _ (List.getElem_mem _))

/-- A view is handed on exactly when its list or its page differs. -/
theorem mem_viewsThatDiffer (old new : List BoardView) (k : Nat) :
    k ∈ viewsThatDiffer old new ↔ k < old.length ∧
      (old[k]?).map (fun v => (v.list, v.page)) ≠ (new[k]?).map (fun v => (v.list, v.page)) := by
  simp [viewsThatDiffer]

/-- An event of the Board Unit that replaces views keeps them handed on (R53). -/
theorem boardDone_keeps (s : State) {views : List BoardView}
    (h : viewsReplaced s.board.views views) : s.KeepsViews (s.boardDone views) := by
  refine ⟨id, h.sound, fun hh => ⟨hh.pages_length.trans h.1.symm, fun k w hw hk => ?_⟩⟩
  obtain ⟨hlen, hview⟩ := h
  rw [State.boardDone_patch, changedViews_differ hlen.symm, List.mem_append, not_or,
    mem_viewsThatDiffer] at hk
  obtain ⟨hwait, hsame⟩ := hk
  obtain ⟨hlt, -⟩ := List.getElem?_eq_some_iff.mp hw
  have hv := List.getElem?_eq_getElem (hlen ▸ hlt : k < s.board.views.length)
  have hpage := hh.handed k _ hv hwait
  rw [State.boardDone_board] at hw
  have hrows := (hview k _ _ hv hw).1
  have hpair := not_not.mp (not_and.mp hsame (hlen ▸ hlt))
  rw [hv, hw] at hpair
  obtain ⟨hl, hp⟩ := Prod.mk.inj (Option.some.inj hpair)
  rw [State.boardDone_patch, hrows, ← hl, ← hp]
  exact hpage

/-- Views mapped one by one are replaced. -/
theorem viewsReplaced_map {l : List BoardView} {f : BoardView → BoardView}
    (hrows : ∀ v, (f v).rows = v.rows) (hf : ∀ {v}, ViewInv v → ViewInv (f v)) :
    viewsReplaced l (l.map f) := by
  refine ⟨List.length_map _, fun k v w hv hw => ?_⟩
  rw [List.getElem?_map, hv] at hw
  cases hw
  exact ⟨hrows v, hf⟩

/-- One view of a table is replaced. -/
theorem viewsReplaced_set {l : List BoardView} {k : Nat} {v w : BoardView} (hv : l[k]? = some v)
    (hrows : w.rows = v.rows) (hw : ViewInv v → ViewInv w) : viewsReplaced l (l.set k w) := by
  refine ⟨List.length_set .., fun j a b ha hb => ?_⟩
  rw [List.getElem?_set] at hb
  split at hb
  · next hj =>
    subst hj
    obtain rfl := Option.some.inj (hv.symm.trans ha)
    split at hb <;> cases hb
    exact ⟨hrows, hw⟩
  · obtain rfl := Option.some.inj (ha.symm.trans hb)
    exact ⟨rfl, id⟩

/-- The recomputation of all views keeps them (R42, R43, R46). -/
theorem boardRecompute_keeps (s : State) : s.KeepsViews (boardRecompute s) := by
  refine boardDone_keeps s (viewsReplaced_map (fun v => ?_) (ViewInv.recompute · _ _))
  obtain ⟨_, _, h, -⟩ := recompute_spec v s.tally s.clock.minute
  rw [h]

theorem takeBoardEvent_keeps (s : State) : s.KeepsViews (takeBoardEvent s) := by
  unfold takeBoardEvent
  split
  · exact (boardRecompute_keeps _).from_same rfl
  · exact .refl s

theorem takeBoardMinute_keeps (s : State) : s.KeepsViews (takeBoardMinute s) := by
  unfold takeBoardMinute
  split
  · exact (boardRecompute_keeps _).from_same rfl
  · exact .refl s

/-- A dwell tick keeps the views (R45). -/
theorem takeDwell_keeps (k : Nat) (s : State) : s.KeepsViews (takeDwell k s) := by
  unfold takeDwell
  split
  · exact .refl s
  · next v hv =>
    split
    · refine boardDone_keeps s (viewsReplaced_set hv ?_ fun hi => (hi.withTick false).tick)
      unfold BoardView.tick
      split <;> rfl
    · exact .refl s

theorem settleDwells_keeps (n : Nat) (s : State) : s.KeepsViews (settleDwells n s) := by
  induction n generalizing s with
  | zero => exact .refl s
  | succ n ih => exact (takeDwell_keeps n s).trans (ih _)

/-- The events of the tick before keep the clock and the views (log entry 4). -/
theorem settleTick_keeps (s : State) : s.KeepsViews (settleTick s) := by
  refine State.KeepsViews.to_same (State.KeepsViews.from_same
    ((settleDwells_keeps Config.views (takeMinute (takeExpiry s))).trans
      (takeBoardMinute_keeps _)) ?_) ?_
  · rw [takeMinute_viewPart, takeExpiry_viewPart]
  · rw [settleTick, takeClockCells_viewPart, settleRetries_viewPart, takeNoticeTick_viewPart]

/-- Ticks handed to the views leave their lists and pages (R164). -/
theorem handTick_keeps (s : State) : s.KeepsViews s.handTick := by
  refine ⟨id, (viewsReplaced_map (f := fun v => { v with tickWaiting := true })
    (fun _ => rfl) (ViewInv.withTick · true)).sound, fun hh => ?_⟩
  refine ⟨?_, fun k w hw hk => ?_⟩
  · exact hh.pages_length.trans (List.length_map _).symm
  · obtain ⟨v, hv, rfl⟩ := Option.map_eq_some_iff.mp (List.getElem?_map.symm.trans hw)
    exact hh.handed k v hv hk

/-- A seconds tick keeps the clock and the views (R164, R166). -/
theorem takeSecond_keeps (s : State) : s.KeepsViews (takeSecond s) := by
  refine (withClock_keeps s ClockInv.second?).trans ((handTick_keeps _).trans ?_)
  refine keepsViews_of_viewPart ?_
  simp only [takeSecond]
  split <;> split <;> rfl

theorem secondsTick_keeps (s : State) : s.KeepsViews (secondsTick s) := by
  unfold secondsTick
  split
  · exact .refl s
  · exact (settleTick_keeps s).trans (takeSecond_keeps _)

/-- A view handed on is what the Patch Unit holds of it, and the others are as they were (R53). -/
theorem handView_handed {s : State} {k : Nat}
    (hlen : s.patch.viewPages.length = s.board.views.length)
    (h : ∀ j v, j ≠ k → s.board.views[j]? = some v → j ∉ s.patch.fromBoard →
      s.patch.viewPages[j]? = some v.shown) : HandedInv (s.handView k) := by
  rw [State.handView_eq]
  refine ⟨?_, fun j v hv hj => ?_⟩
  · dsimp only
    split <;> simp [hlen]
  · dsimp only at hv hj ⊢
    by_cases hjk : j = k
    · subst hjk
      obtain ⟨hlt, -⟩ := List.getElem?_eq_some_iff.mp hv
      rw [hv]
      dsimp only
      rw [List.getElem?_set_self (hlen ▸ hlt)]
      rfl
    · have hpage := h j v hjk hv hj
      split
      · exact hpage
      · rw [List.getElem?_set_ne (Ne.symm hjk)]
        exact hpage

/-- The oldest view handed on is taken as it stands (R53). -/
theorem takeFromBoard_keeps (s : State) : s.KeepsViews (takeFromBoard s) := by
  unfold takeFromBoard
  split
  · next k rest hq =>
    refine State.KeepsViews.to_same
      (t := (s.withPatch { s.patch with fromBoard := rest }).handView k) ?_
      (State.derive_viewPart ..)
    refine ⟨fun hc => ?_, fun hb => ?_, fun hh => ?_⟩
    · rw [State.handView_clock]; exact hc
    · rw [State.handView_board]; exact hb
    · refine handView_handed hh.pages_length fun j v hj hv hrest => hh.handed j v hv ?_
      rw [hq]
      exact fun hmem => (List.mem_cons.mp hmem).elim hj hrest
  · exact .refl s

/-- SET_VIEW keeps the views: the new one is in range and is handed on within the command (R40). -/
theorem cmdSetView_keeps (tag : Nat) (p : ViewParams) (s : State) :
    s.KeepsViews (cmdSetView tag p s) := by
  unfold cmdSetView
  split
  · exact keepsViews_of_viewPart rfl
  · next v hv =>
    split
    · exact keepsViews_of_viewPart rfl
    · next hrows =>
      generalize hw : viewOf p v s.tally s.clock.minute = w
      have hsound : ViewInv w := hw ▸ viewOf_sound p v _ _ hrows
      refine State.KeepsViews.to_same (t := (s.withBoard { s.board with
        views := s.board.views.set p.view w }).handView p.view) ?_
        ((State.answer_viewPart ..).trans (State.derive_viewPart ..))
      refine ⟨fun hc => ?_, fun hb => ?_, fun hh => ?_⟩
      · rw [State.handView_clock]; exact hc
      · rw [State.handView_board]
        refine ⟨(List.length_set ..).trans hb.views_length, fun x hx => ?_⟩
        rcases List.mem_or_eq_of_mem_set hx with hx | rfl
        · exact hb.views x hx
        · exact hsound
      · refine handView_handed (hh.pages_length.trans (List.length_set ..).symm)
          fun j x hj hx hwait => hh.handed j x ?_ hwait
        rwa [State.withBoard_board, List.getElem?_set_ne (Ne.symm hj)] at hx

/-- SET_CLOCK keeps the clock in range and the views (R168). -/
theorem cmdSetClock_keeps (tag minute second : Nat) (s : State) :
    s.KeepsViews (cmdSetClock tag minute second s) := by
  unfold cmdSetClock
  split
  · exact keepsViews_of_viewPart rfl
  · next h =>
    refine State.KeepsViews.to_same (State.KeepsViews.trans (withClock_keeps s fun hi => ?_)
      ((boardRecompute_keeps _).from_same (State.tallyDone_viewPart ..)))
      ((State.answer_viewPart ..).trans (State.derive_viewPart ..))
    exact hi.setTo (by omega) (by omega) hi.origin

/-- DAY_START keeps the clock in range and the views (R169). -/
theorem cmdDayStart_keeps (tag minute origin : Nat) (s : State) :
    s.KeepsViews (cmdDayStart tag minute origin s) := by
  unfold cmdDayStart
  split
  · exact keepsViews_of_viewPart rfl
  · next h =>
    refine State.KeepsViews.to_same (State.KeepsViews.trans (withClock_keeps s fun hi => ?_)
      ((boardRecompute_keeps _).from_same (State.tallyDone_viewPart ..)))
      ((State.answer_viewPart ..).trans (State.derive_viewPart ..))
    exact hi.setTo (by omega) (Nat.zero_le _) (by omega)

/-- WARM_RESET leaves the views in range and all handed on (R47, R179). -/
theorem cmdWarmReset_keeps (tag : Nat) (s : State) : s.KeepsViews (cmdWarmReset tag s) := by
  refine State.KeepsViews.to_same (t := s.resetUnits) ?_ ?_
  · refine ⟨id, (viewsReplaced_map (f := BoardView.warmReset) (fun _ => rfl)
      ViewInv.warmReset).sound, fun _ => ?_⟩
    refine ⟨List.length_map _, fun k v hv _ => ?_⟩
    exact List.getElem?_map.trans (congrArg (Option.map BoardView.shown) hv)
  · rw [cmdWarmReset, State.answer_viewPart, State.commitAll_viewPart, State.derive_viewPart]

/-! ### Every command -/

/-- Every command line keeps the clock and the views. -/
theorem runCommand_keeps (c : Instr) (s : State) : s.KeepsViews (runCommand c s) := by
  unfold runCommand
  split
  case h_2 => exact cmdWarmReset_keeps ..
  case h_3 => exact cmdSetClock_keeps ..
  case h_4 => exact cmdDayStart_keeps ..
  case h_8 => exact cmdSetView_keeps ..
  case h_1 => exact keepsViews_of_viewPart (cmdSetMode_viewPart ..)
  case h_5 => exact keepsViews_of_viewPart (cmdSetIntake_viewPart ..)
  case h_6 => exact keepsViews_of_viewPart (cmdSetTally_viewPart ..)
  case h_7 => exact keepsViews_of_viewPart (cmdSetWords_viewPart ..)
  case h_9 => exact keepsViews_of_viewPart (cmdSetSurface_viewPart ..)
  case h_10 => exact keepsViews_of_viewPart (cmdSetCell_viewPart ..)
  case h_11 => exact keepsViews_of_viewPart (cmdClearCell_viewPart ..)
  case h_12 => exact keepsViews_of_viewPart (cmdLoadGlyphs_viewPart ..)
  case h_13 => exact keepsViews_of_viewPart (cmdSetSegment_viewPart ..)
  case h_14 => exact keepsViews_of_viewPart (cmdSetTrigger_viewPart ..)
  case h_15 => exact keepsViews_of_viewPart (cmdClearTrigger_viewPart ..)
  case h_16 => exact keepsViews_of_viewPart (cmdSetPane_viewPart ..)
  case h_17 => exact keepsViews_of_viewPart (cmdSetPlaylist_viewPart ..)
  case h_18 => exact keepsViews_of_viewPart (cmdPlayStart_viewPart ..)
  case h_19 => exact keepsViews_of_viewPart (cmdPlayResume_viewPart ..)
  case h_20 => exact keepsViews_of_viewPart (cmdPlayStop_viewPart ..)
  case h_21 => exact keepsViews_of_viewPart (cmdPaneClear_viewPart ..)
  case h_22 => exact keepsViews_of_viewPart (State.answer_viewPart ..)
  case h_23 => exact keepsViews_of_viewPart (cmdClearCauses_viewPart ..)
  case h_24 => exact keepsViews_of_viewPart (cmdInspect_viewPart ..)
  all_goals exact .refl s

/-- A request taken keeps the clock and the views, a command line included (R157, R171). -/
theorem recognise_keeps (r : Request) (s : State) : s.KeepsViews (recognise r s) := by
  unfold recognise
  split_ifs
  · unfold takeAnchor
    split
    · split
      · refine State.KeepsViews.to_same ?_ (State.forward_viewPart ..)
        unfold takeCommand
        split_ifs
        · exact keepsViews_of_viewPart rfl
        · exact keepsViews_of_viewPart rfl
        · split
          · exact keepsViews_of_viewPart rfl
          · exact runCommand_keeps ..
      · exact keepsViews_of_viewPart rfl
    · split <;> exact keepsViews_of_viewPart rfl
  · exact keepsViews_of_viewPart rfl
  · refine keepsViews_of_viewPart ?_
    split
    · exact takeRead_viewPart ..
    · rw [State.forward_viewPart, takeWrite_viewPart]

theorem takeOldest_keeps {s t : State} (h : takeOldest s = .next t) : s.KeepsViews t := by
  unfold takeOldest at h
  split at h
  · cases h; exact .refl s
  · split at h
    · cases h; exact .refl s
    · unfold takeRequest at h
      split_ifs at h <;> cases h
      · exact keepsViews_of_viewPart rfl
      · exact (recognise_keeps ..).from_same rfl

/-- The release of the reset input leaves the clock and the views of power-on (R163). -/
theorem resetRelease_keeps (straps : Nat) (s : State) :
    s.KeepsViews ((State.powerOn straps).withPending s.pending) :=
  ⟨fun _ => clock_powerOn_sound, fun _ => board_powerOn_sound, fun _ =>
    ⟨(handed_powerOn straps).pages_length, (handed_powerOn straps).handed⟩⟩

/-- Every command keeps the clock and the views. -/
theorem exec_keepsViews {c : Instr} {s t : State} (h : exec c s = .next t) : s.KeepsViews t := by
  have sound : ∀ {f : State → State}, whenRunning f s = .next t → s.KeepsViews (f s) →
      s.KeepsViews t := fun h hf => whenRunning_keeps h (.refl s) hf
  have keeps : ∀ {f : State → State}, whenRunning f s = .next t → (f s).viewPart = s.viewPart →
      s.KeepsViews t := fun h hf => sound h (keepsViews_of_viewPart hf)
  have may : ∀ {f : State → Host.Outcome State Fault Refusal}, unlessReset f s = .next t →
      (f s = .next t → s.KeepsViews t) → s.KeepsViews t := fun h hf =>
    unlessReset_keeps h (.refl s) hf
  have line : ∀ {c : Instr}, whenRunning (runCommand c) s = .next t → s.KeepsViews t :=
    fun h => sound h (runCommand_keeps _ s)
  cases c with
  | resetRelease straps => cases h; exact resetRelease_keeps straps s
  | resetAssert => cases h; exact keepsViews_of_viewPart rfl
  | millisecondTick =>
    refine sound h ((withClock_keeps s ClockInv.millisecond).trans (keepsViews_of_viewPart ?_))
    exact State.withPatch_viewPart _ (PatchUnit.millisecond_viewPart _)
  | secondsTick => exact sound h (secondsTick_keeps s)
  | changeOfMinute => exact keeps h (takeMinute_viewPart s)
  | boardMinuteRecompute => exact sound h (takeBoardMinute_keeps s)
  | clockCellUpdate => exact keeps h (takeClockCells_viewPart s)
  | holdExpiry => exact keeps h (takeExpiry_viewPart s)
  | dwellExpiry view => exact sound h (takeDwell_keeps view s)
  | timedNoticeExpiry => exact keeps h (takeNoticeTick_viewPart s)
  | cyclePhaseExpiry => exact keeps h (takeNoticeTick_viewPart s)
  | retryTimerExpiry pane => exact keeps h (takeRetry_viewPart s pane)
  | idleTimerExpiry surface =>
    exact keeps (f := fun u => u.withPatch (u.patch.idleExpiry surface)) h
      (s.withPatch_viewPart (PatchUnit.idleExpiry_viewPart ..))
  | boardTallyEvent => exact sound h (takeBoardEvent_keeps s)
  | noticeTallyEvent => exact keeps h (takeNoticeEvent_viewPart s)
  | paneTallyEvent => exact keeps h rfl
  | patchSourceChange source =>
    cases source with
    | tally => exact keeps h (takeFromTally_viewPart s)
    | board => exact sound h (takeFromBoard_keeps s)
    | notice => exact keeps h (takeFromNotice_viewPart s)
  | paneFullscreenFlag => exact keeps h (takeFlagHandOn_viewPart s)
  | upstreamRequest offer =>
    exact may (f := fun u => takeOldest (offerRequest offer u)) h fun h =>
      (takeOldest_keeps h).from_same rfl
  | downstreamResponse response =>
    exact may (f := takeResponse response) h fun h =>
      keepsViews_of_viewPart (takeResponse_viewPart h)
  | loadDone => exact keeps h (takeLoadDone_viewPart s)
  | loaderDrainEnd => exact keeps h (takeDrainEnd_viewPart s)
  | slotFree response =>
    refine may (f := fun u => if u.freesSlot response then takeResponse response u else .next u) h
      fun h => ?_
    split at h
    · exact keepsViews_of_viewPart (takeResponse_viewPart h)
    · cases h; exact .refl s
  | downstreamGrant own => exact keeps h (grant_viewPart s own)
  | processingStep => exact keeps h (processStep_viewPart s)
  | anchorLineWrite line initiator txn enables data =>
    unfold exec execAnchorLineWrite at h
    refine may h fun h => ?_
    split at h
    · exact (takeOldest_keeps h).from_same rfl
    · cases h; exact .refl s
  | setMode tag mode => exact line (c := .setMode tag mode) h
  | warmReset tag => exact line (c := .warmReset tag) h
  | setClock tag minute second => exact line (c := .setClock tag minute second) h
  | dayStart tag minute origin => exact line (c := .dayStart tag minute origin) h
  | setIntake tag params => exact line (c := .setIntake tag params) h
  | setTally tag params => exact line (c := .setTally tag params) h
  | setWords tag words => exact line (c := .setWords tag words) h
  | setView tag params => exact line (c := .setView tag params) h
  | setSurface tag params => exact line (c := .setSurface tag params) h
  | setCell tag params => exact line (c := .setCell tag params) h
  | clearCell tag cell => exact line (c := .clearCell tag cell) h
  | loadGlyphs tag set source sum => exact line (c := .loadGlyphs tag set source sum) h
  | setSegment tag segment text => exact line (c := .setSegment tag segment text) h
  | setTrigger tag params => exact line (c := .setTrigger tag params) h
  | clearTrigger tag trigger => exact line (c := .clearTrigger tag trigger) h
  | setPane tag params => exact line (c := .setPane tag params) h
  | setPlaylist tag pane first count entries =>
    exact line (c := .setPlaylist tag pane first count entries) h
  | playStart tag pane entry now => exact line (c := .playStart tag pane entry now) h
  | playResume tag pane => exact line (c := .playResume tag pane) h
  | playStop tag pane => exact line (c := .playStop tag pane) h
  | paneClear tag pane => exact line (c := .paneClear tag pane) h
  | setMask tag mask => exact line (c := .setMask tag mask) h
  | clearCauses tag mask => exact line (c := .clearCauses tag mask) h
  | inspect tag kind index => exact line (c := .inspect tag kind index) h

/-- Settles O57: an idle step changes nothing, and every command keeps the clock and the views. -/
theorem clockAndViewsStaySound : Obligations.ClockAndViewsStaySound := by
  intro s t h
  have hkeeps : s.KeepsViews t := by
    unfold step at h
    split at h
    · cases h; exact .refl s
    · next c rest _ =>
      exact (exec_keepsViews h).from_same rfl
  exact ⟨fun hc hb => ⟨hkeeps.clock hc, hkeeps.board hb⟩, hkeeps.handed⟩

end Sys2Proof.Machine

namespace Sys2Proof.Machine

/-! ### The lists of the views -/

/-- The members of a view, by the conditions of R41. -/
theorem member_iff (v : BoardView) (now : Nat) (w : Show) :
    v.member now w = true ↔ w.state ≠ .empty ∧ 1 ≤ w.auditorium ∧
      v.filter.getLsbD (w.auditorium - 1) = true ∧
      ((w.state = .listed ∧ w.start + w.delay ≤ now + v.horizon) ∨ w.state = .boarding ∨
        w.state = .started ∨
        (w.state = .cancelled ∧ now < w.cancelMinute.getD 0 + v.linger)) := by
  unfold BoardView.member
  rw [Bool.and_eq_true, Bool.and_eq_true, Bool.and_eq_true, bne_iff_ne, bne_iff_ne,
    ← Nat.one_le_iff_ne_zero, and_assoc, and_assoc]
  cases w.state <;> simp only [decide_eq_true_eq] <;> simp [Show.effective]

/-- The order of shows, written out (R42). -/
theorem standsBefore_iff (t : TallyUnit) (m n : Nat) :
    standsBefore t m n = true ↔
      (t.entry m).start + (t.entry m).delay < (t.entry n).start + (t.entry n).delay ∨
      ((t.entry m).start + (t.entry m).delay = (t.entry n).start + (t.entry n).delay ∧
        ((t.entry m).auditorium < (t.entry n).auditorium ∨
          ((t.entry m).auditorium = (t.entry n).auditorium ∧ m < n))) := by
  simp only [standsBefore, Bool.or_eq_true, Bool.and_eq_true, decide_eq_true_eq, beq_iff_eq]
  rfl

/-- Settles O9: the list is the members put in order. -/
theorem viewListsHoldMembersInOrder : Obligations.ViewListsHoldMembersInOrder := by
  intro v t now
  constructor
  · intro m
    rw [BoardView.listFor, mem_orderShows, List.mem_filter, member_iff]
    simp only [showNumbers, Config.shows, List.mem_range, exists_eq_left]
  · have hnodup : (showNumbers.filter (fun n => v.member now (t.entry n))).Nodup :=
      showNumbers_nodup.filter _
    exact (orderShows_sorted t hnodup).imp (standsBefore_iff t _ _).mp

/-! ### The Board Unit's events -/

/-- The recomputation of all views, after events of the Board Unit were taken (R42, R43, R46). -/
theorem boardRecompute_recomputed (s : State) (inbox : List BoardEvent) (waiting : Bool) :
    s.viewsRecomputed (boardRecompute
      (s.withBoard { s.board with inbox := inbox, minuteWaiting := waiting })) := by
  refine ⟨?_, recompute_follow _ _ _⟩
  have hviews := changedViews_differ (a := s.board.views)
    (b := s.board.views.map (fun v => v.recompute s.tally s.clock.minute)) (by simp)
  rw [boardRecompute_eq]
  dsimp only [State.withBoard_board, State.withBoard_tally, State.withBoard_clock]
  rw [← hviews]
  rfl

/-- Settles O8: both events recompute all views and leave what else waits. -/
theorem boardEventsRecomputeViews : Obligations.BoardEventsRecomputeViews := by
  intro s hr
  refine ⟨fun e rest h => ?_, fun h => ?_⟩
  · refine ⟨_, ?_, boardRecompute_recomputed s rest s.board.minuteWaiting, rfl, rfl⟩
    change whenRunning takeBoardEvent s = _
    rw [whenRunning_runs hr, takeBoardEvent, h]
  · refine ⟨_, ?_, boardRecompute_recomputed s s.board.inbox false, rfl, rfl⟩
    change whenRunning takeBoardMinute s = _
    rw [whenRunning_runs hr, takeBoardMinute, if_pos h]

/-! ### The dwell timer -/

/-- No view differs from itself. -/
theorem changedViews_self (i : Nat) (l : List BoardView) : changedViews i l l = [] := by
  induction l generalizing i with
  | nil => rfl
  | cons v rest ih => rw [changedViews, if_pos ⟨rfl, rfl⟩, ih]

/-- One view replaced by one of the same list is handed on exactly when its page changed. -/
theorem changedViews_set (i : Nat) {l : List BoardView} {k : Nat} {v w : BoardView}
    (hv : l[k]? = some v) (hlist : w.list = v.list) :
    changedViews i l (l.set k w) = if w.page = v.page then [] else [i + k] := by
  induction l generalizing i k with
  | nil => cases hv
  | cons x rest ih =>
    cases k with
    | zero =>
      obtain rfl := Option.some.inj hv
      rw [List.set_cons_zero, changedViews, changedViews_self]
      simp only [hlist, true_and, eq_comm]
      rfl
    | succ k =>
      rw [List.set_cons_succ, changedViews, if_pos ⟨rfl, rfl⟩, ih (i + 1) hv,
        Nat.add_right_comm, Nat.add_assoc]

/-- A dwell tick changes the page and the timer alone: the timer counts down, or the page turns and
the timer restarts (R45). -/
theorem tick_spec (v : BoardView) : ∃ page timer,
    v.tick = { v with page := page, timer := timer } ∧
    (1 < v.timer → page = v.page ∧ timer = v.timer - 1) ∧
    (v.timer ≤ 1 → timer = v.dwell ∧
      (v.list.length ≤ (v.page + 1) * v.rows → page = 0) ∧
      ((v.page + 1) * v.rows < v.list.length → page = v.page + 1)) := by
  unfold BoardView.tick
  split
  · next h =>
    exact ⟨_, _, rfl, fun h1 => absurd h1 (Nat.not_lt.mpr h), fun _ =>
      ⟨rfl, fun hl => if_pos hl, fun hl => if_neg (Nat.not_le.mpr hl)⟩⟩
  · next h => exact ⟨v.page, _, rfl, fun _ => ⟨rfl, rfl⟩, fun h1 => absurd h1 h⟩

/-- Settles O10: the tick of one view, handed on where its page changed. -/
theorem dwellExpiryTurnsThePage : Obligations.DwellExpiryTurnsThePage := by
  intro s k v hr hv hw
  obtain ⟨page, timer, htick, hcount, hturn⟩ := tick_spec { v with tickWaiting := false }
  have hexec : exec (.dwellExpiry k) s = .next (s.boardDone (s.board.views.set k
      { v with page := page, timer := timer, tickWaiting := false })) := by
    change whenRunning (takeDwell k) s = _
    rw [whenRunning_runs hr, takeDwell, hv]
    dsimp only
    rw [if_pos hw, htick]
  refine ⟨_, page, timer, hexec, hcount, hturn, ?_⟩
  have hchanged := changedViews_set 0 hv
    (w := { v with page := page, timer := timer, tickWaiting := false }) rfl
  rw [Nat.zero_add] at hchanged
  rw [State.boardDone, hchanged]

end Sys2Proof.Machine

namespace Sys2Proof.Machine

/-! ### Cells derived afresh -/

section
variable {s u : State} (reached : Source → Bool)

/-- What a derivation does to the cells and surfaces of a state it starts with: the reached cells
follow, IDLE surfaces show them and the others wait (R87, R89). -/
theorem derive_follows (hc : u.patch.cells = s.patch.cells)
    (hf : u.patch.surfaces = s.patch.surfaces) :
    s.cellsFollow (u.derive reached) reached ∧ s.surfacesWait (u.derive reached) ∧
      s.idleShows (u.derive reached) :=
  ⟨derive_cellsFollow reached hc, derive_surfacesWait reached hf, derive_idleShows reached hc hf⟩

/-- A surface that a derivation does not touch holds its cells as they were. -/
theorem derive_cell_untouched {k n : Nat} {c : Cell}
    (h : touches k u.patch.cells (u.patch.cells.map (u.derivedCell reached)) = false)
    (hn : u.patch.cell n = some c) (hk : c.config.surface = k) :
    (u.derive reached).patch.cell n = some c := by
  rw [derive_cell, hn, Option.map_some]
  split
  · next hr =>
    have hget : u.patch.cells[n]? = some (some c) := Option.join_eq_some_iff.mp hn
    have hmap : (u.patch.cells.map (u.derivedCell reached))[n]? =
        some (some { c with target := u.targetText c.config }) := by
      rw [List.getElem?_map, hget, Option.map_some, State.derivedCell, if_pos hr]
    by_cases ht : c.target = u.targetText c.config
    · rw [← ht]
    · rw [touches_of_changed hget hmap hk ht] at h
      cases h
  · rfl

/-- After a derivation an IDLE surface whose picture of g held what R88 says holds it still. -/
theorem derive_commits {k : Nat} {flag : Bool} (hk : k < 12)
    (hidle : (u.patch.surface k).state = .idle)
    (hflag : (u.patch.surface k).pendingFlag = flag)
    (h : (u.patch.surface k).current.commits u.patch k flag) :
    ((u.derive reached).patch.surface k).current.commits (u.derive reached).patch k flag := by
  rw [derive_surface]
  by_cases ht : touches k u.patch.cells (u.patch.cells.map (u.derivedCell reached)) = true
  · rw [if_pos ⟨⟨hk, ht⟩, hidle⟩, ← hflag]
    refine commits_congr (p := { u.patch with
      cells := u.patch.cells.map (u.derivedCell reached) }) ?_ ?_ (newPicture_commits _ _ _) <;>
      rw [derive_eq]
  · rw [if_neg fun hh => ht hh.1.2]
    obtain ⟨hord, hfull, hv0, hv1, hrec⟩ := h
    have hset : ∀ j, (u.derive reached).patch.setState j = u.patch.setState j := by
      intro j; rw [derive_eq]; rfl
    refine ⟨hord, hfull, by rw [hv0, hset], by rw [hv1, hset], fun n r => ?_⟩
    rw [hrec]
    have hsame : ∀ c, u.patch.cell n = some c → c.config.surface = k →
        (u.derive reached).patch.cell n = some c := fun c hn hon =>
      derive_cell_untouched reached (Bool.eq_false_iff.mpr ht) hn hon
    constructor
    · rintro ⟨c, hn, hon, rfl⟩
      exact ⟨c, hsame c hn hon, hon, rfl⟩
    · rintro ⟨d, hd, hon, rfl⟩
      obtain ⟨c, hn, hcd⟩ : ∃ c, u.patch.cell n = some c ∧ c.config = d.config := by
        rw [derive_cell] at hd
        obtain ⟨c, hn, rfl⟩ := Option.map_eq_some_iff.mp hd
        exact ⟨c, hn, by split <;> rfl⟩
      obtain rfl := Option.some.inj ((hsame c hn (hcd ▸ hon)).symm.trans hd)
      exact ⟨c, hn, hon, rfl⟩

end

/-! ### Changes the Patch Unit takes -/

section
variable {s : State}

/-- A show handed on is taken: the cells that show it are derived afresh (R53, R87). -/
theorem takeFromTally_follows {n : Nat} {rest : List Nat} (hr : s.path.resetHeld = false)
    (hq : s.patch.fromTally = n :: rest) :
    ∃ t, exec (.patchSourceChange .tally) s = .next t ∧
      t = { s with patch := { s.patch with
        fromTally := rest, cells := t.patch.cells, surfaces := t.patch.surfaces } } ∧
      s.cellsFollow t (s.readsShow n) ∧ s.surfacesWait t ∧ s.idleShows t := by
  refine ⟨(s.withPatch { s.patch with fromTally := rest }).derive (s.readsShow n), ?_, ?_,
    derive_follows _ rfl rfl⟩
  · change whenRunning takeFromTally s = _
    rw [whenRunning_runs hr, takeFromTally, hq]
  · rw [derive_eq]; rfl

/-- A view handed on is taken whole, with every cell bound to it (R53; log entry 29). -/
theorem takeFromBoard_follows {v : Nat} {rest : List Nat} (hr : s.path.resetHeld = false)
    (hq : s.patch.fromBoard = v :: rest) :
    ∃ t, exec (.patchSourceChange .board) s = .next t ∧
      t = { s with patch := { s.patch with
        fromBoard := rest, cells := t.patch.cells, surfaces := t.patch.surfaces
        viewPages := match s.board.views[v]? with
          | none => s.patch.viewPages
          | some w => s.patch.viewPages.set v
              { list := w.list, page := w.page, rows := w.rows } } } ∧
      s.cellsFollow t (readsView v) ∧ s.surfacesWait t ∧ s.idleShows t := by
  refine ⟨((s.withPatch { s.patch with fromBoard := rest }).handView v).derive (readsView v),
    ?_, ?_, derive_follows _ (State.handView_cells ..) (State.handView_surfaces ..)⟩
  · change whenRunning takeFromBoard s = _
    rw [whenRunning_runs hr, takeFromBoard, hq]
  · rw [derive_eq, State.handView_eq, State.withPatch_board]
    cases s.board.views[v]? <;> rfl

/-- A change of minute is taken by the CLOCK cells (R87). -/
theorem takeClockCells_follows (hr : s.path.resetHeld = false)
    (hw : s.patch.minuteWaiting = true) :
    ∃ t, exec .clockCellUpdate s = .next t ∧
      t = { s with patch := { s.patch with
        minuteWaiting := false, cells := t.patch.cells, surfaces := t.patch.surfaces } } ∧
      s.cellsFollow t readsClock ∧ s.surfacesWait t ∧ s.idleShows t := by
  refine ⟨(s.withPatch { s.patch with minuteWaiting := false }).derive readsClock, ?_, ?_,
    derive_follows _ rfl rfl⟩
  · change whenRunning takeClockCells s = _
    rw [whenRunning_runs hr, takeClockCells, if_pos hw]
  · rw [derive_eq]; rfl

end

/-! ### A top notice taken -/

/-- The unit with the pending full-screen flag of one surface stored (R58). -/
def PatchUnit.withFlag (p : PatchUnit) (k : Nat) (flag : Bool) : PatchUnit :=
  p.putSurface k { p.surface k with pendingFlag := flag }

/-- A surface after a pending flag is stored: the flag of the one surface changes, where it stands
in the table. -/
theorem withFlag_surface (p : PatchUnit) (k : Nat) (flag : Bool) (j : Nat) :
    (p.withFlag k flag).surface j = { p.surface j with
      pendingFlag := if j = k ∧ j < p.surfaces.length then flag
        else (p.surface j).pendingFlag } := by
  rw [PatchUnit.withFlag, putSurface_surface]
  by_cases hj : j = k
  · subst hj
    by_cases hl : j < p.surfaces.length <;> simp [hl]
  · simp [hj]

/-- The state once the top-notice text and the flag of a hand-on are stored, before the cells follow
(R58, R84, R89). -/
def State.topStored (s : State) (h : TopHandOn) : State :=
  s.withPatch (({ s.patch with
    noticeText := s.patch.noticeText.set h.surface h.text }.withFlag h.surface
      h.fullScreen).commitIdle h.surface)

section
variable (s : State) (h : TopHandOn)

theorem applyTop_eq : s.applyTop h = (s.topStored h).derive (readsNotice h.surface) := rfl

/-- A top notice stored changes its text and the surfaces alone. -/
theorem topStored_eq : s.topStored h = { s with patch := { s.patch with
    noticeText := s.patch.noticeText.set h.surface h.text
    surfaces := (s.topStored h).patch.surfaces } } := by
  unfold State.topStored
  rw [commitIdle_eq]
  rfl

/-- The pending flag of the one surface is stored; an IDLE one takes a new picture of g. -/
theorem topStored_surface (k : Nat) :
    (s.topStored h).patch.surface k = { s.patch.surface k with
      pendingFlag := if k = h.surface ∧ k < s.patch.surfaces.length then h.fullScreen
        else (s.patch.surface k).pendingFlag
      current := ((s.topStored h).patch.surface k).current } ∧
    ((s.patch.surface k).state ≠ .idle →
      ((s.topStored h).patch.surface k).current = (s.patch.surface k).current) ∧
    (k = h.surface → (s.patch.surface k).state = .idle →
      ((s.topStored h).patch.surface k).current.commits (s.topStored h).patch k h.fullScreen) := by
  obtain ⟨p, hp⟩ : ∃ p, p = { s.patch with
    noticeText := s.patch.noticeText.set h.surface h.text } := ⟨_, rfl⟩
  have hsurf : p.surface k = s.patch.surface k := by rw [hp]; rfl
  have hlen : p.surfaces.length = s.patch.surfaces.length := by rw [hp]
  have hflag := withFlag_surface p h.surface h.fullScreen k
  rw [hsurf, hlen] at hflag
  have hpatch : (s.topStored h).patch =
      (p.withFlag h.surface h.fullScreen).commitIdle h.surface := by rw [hp]; rfl
  rw [hpatch]
  generalize p.withFlag h.surface h.fullScreen = q at hflag
  have hcommit := commitIdle_surface q h.surface k
  by_cases hk : k = h.surface ∧ (s.patch.surface k).state = .idle
  · obtain ⟨rfl, hidle⟩ := hk
    have hstate : (q.surface h.surface).state = .idle := by rw [hflag]; exact hidle
    have hin : h.surface < s.patch.surfaces.length := surface_in_table (by simp [hidle])
    have hset : (q.surface h.surface).pendingFlag = h.fullScreen := by rw [hflag]; simp [hin]
    rw [if_pos ⟨rfl, hstate⟩] at hcommit
    refine ⟨?_, fun hne => absurd hidle hne, fun _ _ => ?_⟩
    · rw [hcommit, hflag]
    · rw [hcommit, ← hset]
      exact commits_congr (by rw [commitIdle_eq]) (by rw [commitIdle_eq]) (newPicture_commits q _ _)
  · have hno : ¬ (k = h.surface ∧ (q.surface h.surface).state = .idle) := by
      rintro ⟨rfl, hq⟩
      rw [hflag] at hq
      exact hk ⟨rfl, hq⟩
    rw [if_neg hno] at hcommit
    exact ⟨by rw [hcommit, hflag], fun _ => by rw [hcommit, hflag],
      fun he hidle => absurd ⟨he, hidle⟩ hk⟩

/-- The cells are those before the hand-on. -/
theorem topStored_cells : (s.topStored h).patch.cells = s.patch.cells := by rw [topStored_eq]

/-- A surface after a top notice is taken: its flag stored, its picture of g as the cells that
follow leave it (R58, R89). -/
theorem applyTop_surface (k : Nat) :
    (s.applyTop h).patch.surface k = { s.patch.surface k with
      pendingFlag := if k = h.surface ∧ k < s.patch.surfaces.length then h.fullScreen
        else (s.patch.surface k).pendingFlag
      current := ((s.applyTop h).patch.surface k).current } ∧
    ((s.patch.surface k).state ≠ .idle →
      ((s.applyTop h).patch.surface k).current = (s.patch.surface k).current) := by
  obtain ⟨hstored, hkept, -⟩ := topStored_surface s h k
  have hstate : ((s.topStored h).patch.surface k).state = (s.patch.surface k).state := by
    rw [hstored]
  rw [applyTop_eq]
  rcases derive_surfacesWait (u := s.topStored h) (readsNotice h.surface) rfl k with
    hsame | ⟨hidle, hnew, -⟩
  · rw [hsame]
    exact ⟨hstored, hkept⟩
  · refine ⟨?_, fun hne => absurd (hstate.symm.trans hidle) hne⟩
    rw [hnew, hstored]

/-- An IDLE surface whose top notice is taken shows what R88 says (R89). -/
theorem applyTop_commits (hk : h.surface < 12)
    (hidle : (s.patch.surface h.surface).state = .idle) :
    ((s.applyTop h).patch.surface h.surface).current.commits (s.applyTop h).patch h.surface
      h.fullScreen := by
  obtain ⟨hstored, -, hcommits⟩ := topStored_surface s h h.surface
  have hin : h.surface < s.patch.surfaces.length := surface_in_table (by simp [hidle])
  rw [applyTop_eq]
  refine derive_commits _ hk ?_ ?_ (hcommits rfl hidle)
  · rw [hstored]; exact hidle
  · rw [hstored]; exact if_pos ⟨rfl, hin⟩

/-- The NOTICE cells follow a top notice taken, and IDLE surfaces show them (R87, R89). -/
theorem applyTop_follows : s.cellsFollow (s.applyTop h) (readsNotice h.surface) ∧
    s.idleShows (s.applyTop h) := by
  rw [applyTop_eq]
  refine ⟨derive_cellsFollow _ (topStored_cells s h), fun k n c d hk hidle hc => ?_⟩
  obtain ⟨hstored, -⟩ := topStored_surface s h k
  refine derive_idleShows (s := s.topStored h) _ rfl rfl k n c d hk ?_ ?_
  · rw [hstored]; exact hidle
  · rw [PatchUnit.cell, topStored_cells]; exact hc

end

/-- The oldest hand-on of the Notice Unit is taken (R58, R84, R87, R89). -/
theorem takeFromNotice_follows {s : State} {h : TopHandOn} {rest : List TopHandOn}
    (hr : s.path.resetHeld = false) (hq : s.patch.fromNotice = h :: rest) :
    ∃ t, exec (.patchSourceChange .notice) s = .next t ∧
      t = { s with patch := { s.patch with
        fromNotice := rest, noticeText := s.patch.noticeText.set h.surface h.text,
        cells := t.patch.cells, surfaces := t.patch.surfaces } } ∧
      s.cellsFollow t (readsNotice h.surface) ∧ s.idleShows t ∧
      (∀ k, t.patch.surface k = { s.patch.surface k with
        pendingFlag := if k = h.surface ∧ k < s.patch.surfaces.length then h.fullScreen
          else (s.patch.surface k).pendingFlag
        current := (t.patch.surface k).current }) ∧
      (∀ k, (s.patch.surface k).state ≠ .idle →
        (t.patch.surface k).current = (s.patch.surface k).current) ∧
      (h.surface < 12 → (s.patch.surface h.surface).state = .idle →
        (t.patch.surface h.surface).current.commits t.patch h.surface h.fullScreen) := by
  obtain ⟨u, hu⟩ : ∃ u, u = s.withPatch { s.patch with fromNotice := rest } := ⟨_, rfl⟩
  have hexec : exec (.patchSourceChange .notice) s = .next (u.applyTop h) := by
    change whenRunning takeFromNotice s = _
    rw [whenRunning_runs hr, takeFromNotice, hq, hu]
  have hsurf : ∀ k, u.patch.surface k = s.patch.surface k := fun k => by rw [hu]; rfl
  have hlen : u.patch.surfaces.length = s.patch.surfaces.length := by rw [hu]; rfl
  have hframe : u.applyTop h = { s with patch := { s.patch with
      fromNotice := rest, noticeText := s.patch.noticeText.set h.surface h.text,
      cells := (u.applyTop h).patch.cells, surfaces := (u.applyTop h).patch.surfaces } } := by
    rw [applyTop_eq, derive_eq, topStored_eq, hu]; rfl
  obtain ⟨hfollow, hshows⟩ := applyTop_follows u h
  have hsurface := applyTop_surface u h
  have hcommits := applyTop_commits u h
  simp only [hsurf, hlen] at hsurface hcommits
  refine ⟨_, hexec, hframe, ?_, ?_, fun k => (hsurface k).1, fun k => (hsurface k).2, hcommits⟩
  · subst hu; exact hfollow
  · subst hu; exact hshows

/-- Settles O15: each of the four changes by the derivation that takes it. -/
theorem cellsFollowTheirSources : Obligations.CellsFollowTheirSources := by
  intro s hr
  exact ⟨fun _ _ => takeFromTally_follows hr, fun _ _ => takeFromBoard_follows hr,
    fun _ _ => takeFromNotice_follows hr, takeClockCells_follows hr⟩

/-! ### Commands whose cells follow -/

section
variable {s u : State} {reached : Source → Bool}

/-- A command that derives cells and answers: they follow, as after the derivation alone (R87,
R171). -/
theorem derive_answer_follows (code tag : Nat) (result : List Byte)
    (hc : u.patch.cells = s.patch.cells) (hf : u.patch.surfaces = s.patch.surfaces) :
    s.cellsFollow ((u.derive reached).answer code tag result) reached ∧
      s.surfacesWait ((u.derive reached).answer code tag result) ∧
      s.idleShows ((u.derive reached).answer code tag result) :=
  derive_follows reached hc hf

/-- Such a command leaves its state but for the cells, the surfaces and the response (R87, R172). -/
theorem derive_answer_eq (code tag : Nat) (result : List Byte) :
    (u.derive reached).answer code tag result = { u with
      patch := { u.patch with
        cells := ((u.derive reached).answer code tag result).patch.cells
        surfaces := ((u.derive reached).answer code tag result).patch.surfaces }
      command := u.answeredOk code tag u.command.causes result } := by
  rw [answer_eq, derive_eq]
  rfl

end

/-! ### SET_WORDS, SET_SEGMENT -/

/-- A byte that names a segment or none passes the test of SET_WORDS (R50). -/
theorem isWord_iff (n : Nat) : isWord n = true ↔ n < 64 ∨ n = 255 := by
  simp [isWord]

/-- SET_WORDS of seven good entries (R50). -/
theorem setWords_follows {s : State} (hr : s.path.resetHeld = false) (tag : Nat) {words : List Nat}
    (hlen : words.length = 7) (hwords : ∀ w, w ∈ words → w < 64 ∨ w = 255) :
    ∃ t, exec (.setWords tag words) s = .next t ∧
      t = { s with
        board := { s.board with
          words := words.map (fun w => if w = 255 then none else some w) }
        patch := { s.patch with cells := t.patch.cells, surfaces := t.patch.surfaces }
        command := s.answeredOk 7 tag s.command.causes [] } ∧
      s.cellsFollow t readsWords ∧ s.surfacesWait t ∧ s.idleShows t := by
  have hgood : words.all isWord = true :=
    List.all_eq_true.mpr fun w hw => (isWord_iff w).mpr (hwords w hw)
  refine ⟨((s.withBoard { s.board with words := words.map orNone }).derive readsWords).answer
    7 tag [], ?_, derive_answer_eq .., derive_answer_follows _ _ _ rfl rfl⟩
  change whenRunning (cmdSetWords tag words) s = _
  rw [whenRunning_runs hr, cmdSetWords, List.take_of_length_le (Nat.le_of_eq hlen), if_pos hgood]

/-- SET_SEGMENT of a segment in range (R67); the cells follow where its text changed. -/
theorem setSegment_follows {s : State} (hr : s.path.resetHeld = false) (tag : Nat) {k : Nat}
    (text : List Byte) (hk : k < 64) :
    ∃ t, exec (.setSegment tag k text) s = .next t ∧
      t = { s with
        notice := { s.notice with
          segments := s.notice.segments.set k { isDefined := true, text := takeText 24 text } }
        patch := { s.patch with cells := t.patch.cells, surfaces := t.patch.surfaces }
        command := s.answeredOk 13 tag s.command.causes [] } ∧
      (s.notice.segmentText k = takeText 24 text → t.patch = s.patch) ∧
      (s.notice.segmentText k ≠ takeText 24 text →
        s.cellsFollow t (readsSegment s.board.words k) ∧ s.surfacesWait t ∧ s.idleShows t) := by
  have hexec : exec (.setSegment tag k text) s = .next (cmdSetSegment tag k text s) :=
    whenRunning_runs hr
  rw [cmdSetSegment, if_neg (Nat.not_le.mpr hk)] at hexec
  by_cases ht : takeText 24 text = s.notice.segmentText k
  · rw [if_pos ht] at hexec
    exact ⟨_, hexec, rfl, fun _ => rfl, fun hne => absurd ht.symm hne⟩
  · rw [if_neg ht] at hexec
    exact ⟨_, hexec, derive_answer_eq .., fun he => absurd he.symm ht, fun _ =>
      derive_answer_follows _ _ _ rfl rfl⟩

/-- Settles O38: both commands by the derivation they end with. -/
theorem wordsAndSegmentsAreSet : Obligations.WordsAndSegmentsAreSet := by
  intro s tag hr
  exact ⟨fun _ hlen hwords => setWords_follows hr tag hlen hwords,
    fun _ text hk => setSegment_follows hr tag text hk⟩

/-! ### SET_VIEW -/

/-- Settles O39: the view is replaced and handed on, and its cells follow. -/
theorem setViewConfigures : Obligations.SetViewConfigures := by
  intro s tag p v hr hv hlow hhigh
  obtain ⟨w, hw⟩ : ∃ w : BoardView, w = { v with
    filter := BitVec.ofNat 24 p.filter, horizon := max 30 (min p.horizon 720), rows := p.rows,
    dwell := max 5 (min p.dwell 60), linger := min p.linger 120, page := 0,
    timer := max 5 (min p.dwell 60) } := ⟨_, rfl⟩
  have hview : viewOf p v s.tally s.clock.minute =
      { w with list := w.listFor s.tally s.clock.minute } := by
    rw [hw]
    simp only [viewOf, clamp_zero]
    rfl
  obtain ⟨u, hu⟩ : ∃ u, u = (s.withBoard { s.board with
    views := s.board.views.set p.view (viewOf p v s.tally s.clock.minute) }).handView p.view :=
    ⟨_, rfl⟩
  have hexec : exec (.setView tag p) s =
      .next ((u.derive (readsView p.view)).answer 8 tag []) := by
    change whenRunning (cmdSetView tag p) s = _
    rw [whenRunning_runs hr, cmdSetView, hv, hu]
    dsimp only
    rw [if_neg (by omega)]
  have hpos : p.view < s.board.views.length := (List.getElem?_eq_some_iff.mp hv).1
  refine ⟨_, w, hexec, hw, ?_, derive_answer_follows _ _ _ ?_ ?_⟩
  · rw [derive_answer_eq, hu, State.handView_eq]
    simp only [State.withBoard_board, List.getElem?_set_self hpos, hview, hw]
    rfl
  · rw [hu, State.handView_cells]; rfl
  · rw [hu, State.handView_surfaces]; rfl

end Sys2Proof.Machine

namespace Sys2Proof.Machine

/-! ### A text fitted to a cell -/

/-- A fitted text is the text cut, between the spaces its justification asks for (R86). -/
theorem fitText_eq (j : Just) (chars : Nat) (t : Text) :
    fitText j chars t = List.replicate (leftPad j chars (min t.length chars)) 32 ++ t.take chars ++
      List.replicate (chars - min t.length chars - leftPad j chars (min t.length chars)) 32 := by
  rw [fitText, cutText, List.length_take, Nat.min_comm]

/-- The spaces on the left are no more than there is room for. -/
theorem leftPad_le (j : Just) (chars len : Nat) : leftPad j chars len ≤ chars - len := by
  cases j with
  | left => exact Nat.zero_le _
  | right => exact Nat.le_refl _
  | centre => exact Nat.div_le_self ..

/-- A fitted text has exactly the characters of its cell (R86). -/
theorem fitText_length (j : Just) (chars : Nat) (t : Text) :
    (fitText j chars t).length = chars := by
  have hpad := leftPad_le j chars (min t.length chars)
  rw [fitText_eq]
  simp only [List.length_append, List.length_replicate, List.length_take]
  omega

/-- The characters of a fitted text are spaces and those of the text. -/
theorem mem_fitText {j : Just} {chars c : Nat} {t : Text} (h : c ∈ fitText j chars t) :
    c = 32 ∨ c ∈ t := by
  rw [fitText_eq, List.mem_append, List.mem_append] at h
  rcases h with (h | h) | h
  · exact .inl (List.eq_of_mem_replicate h)
  · exact .inr (List.mem_of_mem_take h)
  · exact .inl (List.eq_of_mem_replicate h)

/-- The fitting of R86 by justification, whatever the text. -/
theorem fitText_spec (just : Just) (chars : Nat) (text : Text) :
    (fitText just chars text).length = chars ∧
    ∃ left right, fitText just chars text =
        List.replicate left 32 ++ text.take chars ++ List.replicate right 32 ∧
      (just = .left → left = 0 ∧ right = chars - min text.length chars) ∧
      (just = .right → left = chars - min text.length chars ∧ right = 0) ∧
      (just = .centre → left = (chars - min text.length chars) / 2 ∧
        right = chars - min text.length chars - (chars - min text.length chars) / 2) ∧
      ((∀ c, c ∈ text → 32 ≤ c ∧ c ≤ 126) →
        ∀ c, c ∈ fitText just chars text → 32 ≤ c ∧ c ≤ 126) := by
  refine ⟨fitText_length .., _, _, fitText_eq .., ?_, ?_, ?_, fun hall c hc => ?_⟩
  · rintro rfl
    exact ⟨rfl, rfl⟩
  · rintro rfl
    exact ⟨rfl, Nat.sub_self _⟩
  · rintro rfl
    exact ⟨rfl, rfl⟩
  · rcases mem_fitText hc with rfl | hc
    · decide
    · exact hall c hc

/-! ### Numbers and times of day -/

/-- The number a list of digit characters writes. -/
def digitsValue (t : Text) : Nat := t.foldl (fun v c => 10 * v + (c - 48)) 0

/-- A number below ten is written by its one digit. -/
theorem oneDigit_spec {n : Nat} (h : n < 10) :
    digitsValue [48 + n] = n ∧ [48 + n] ≠ [] ∧ (∀ c, c ∈ [48 + n] → 48 ≤ c ∧ c ≤ 57) ∧
      ([48 + n].head? = some 48 → n = 0) := by
  refine ⟨?_, List.cons_ne_nil _ _, fun c hc => ?_, fun hz => ?_⟩
  · change 10 * 0 + (48 + n - 48) = n
    omega
  · rw [List.mem_singleton.mp hc]
    omega
  · have := Option.some.inj hz
    omega

/-- With digits enough, the digits of a number write it, without leading zeros. -/
theorem digitsUpTo_spec (fuel n : Nat) (h : n < 10 ^ (fuel + 1)) :
    digitsValue (digitsUpTo (fuel + 1) n) = n ∧ digitsUpTo (fuel + 1) n ≠ [] ∧
      (∀ c, c ∈ digitsUpTo (fuel + 1) n → 48 ≤ c ∧ c ≤ 57) ∧
      ((digitsUpTo (fuel + 1) n).head? = some 48 → n = 0) := by
  induction fuel generalizing n with
  | zero =>
    have hn : n < 10 := by simpa using h
    rw [digitsUpTo, if_pos hn]
    exact oneDigit_spec hn
  | succ fuel ih =>
    rw [digitsUpTo]
    split
    · next hn => exact oneDigit_spec hn
    · next hn =>
      have hdiv : n / 10 < 10 ^ (fuel + 1) := Nat.div_lt_of_lt_mul (by rwa [Nat.pow_succ'] at h)
      obtain ⟨hvalue, hne, hdigit, hhead⟩ := ih (n / 10) hdiv
      refine ⟨?_, by simp, fun c hc => ?_, fun hz => ?_⟩
      · rw [digitsValue, List.foldl_append]
        change 10 * digitsValue (digitsUpTo (fuel + 1) (n / 10)) + (48 + n % 10 - 48) = n
        rw [hvalue]
        omega
      · rcases List.mem_append.mp hc with hc | hc
        · exact hdigit c hc
        · rw [List.mem_singleton.mp hc]
          omega
      · rw [List.head?_append_of_ne_nil _ hne] at hz
        have := hhead hz
        omega

/-- A number in decimal, of ten digits at most. -/
theorem decimal_spec (n : Nat) (h : n < 10000000000) :
    (decimal n).foldl (fun v c => 10 * v + (c - 48)) 0 = n ∧ decimal n ≠ [] ∧
      (∀ c, c ∈ decimal n → 48 ≤ c ∧ c ≤ 57) ∧ ((decimal n).head? = some 48 → n = 0) :=
  digitsUpTo_spec 9 n h

/-- The two forms of a time of day (R167). -/
theorem timeText_spec (t : Nat) :
    timeText false t = [48 + t / 600, 48 + t / 60 % 10, 58, 48 + t % 60 / 10, 48 + t % 10] ∧
    timeText true t = decimal (if t / 60 % 12 = 0 then 12 else t / 60 % 12) ++
      [58, 48 + t % 60 / 10, 48 + t % 10, if t < 720 then 97 else 112] := by
  have htens : t / 60 / 10 = t / 600 := Nat.div_div_eq_div_mul t 60 10
  have hunits : t % 60 % 10 = t % 10 := Nat.mod_mod_of_dvd t (by decide)
  have hhalf : t / 60 < 12 ↔ t < 720 := Nat.div_lt_iff_lt_mul (by decide)
  constructor
  · simp [timeText, twoDigits, htens, hunits]
  · simp [timeText, twoDigits, hour12, hunits, hhalf]

/-- The seats rendering by the room for it (R52). -/
theorem seatsText_spec (left w : Nat) :
    (left < 10 ^ w → seatsText left w = decimal left) ∧
    (10 ^ w ≤ left → 2 ≤ w → seatsText left w = decimal (10 ^ (w - 1) - 1) ++ [43]) ∧
    (10 ^ w ≤ left → w = 1 → seatsText left w = [43]) := by
  unfold seatsText
  refine ⟨fun h => if_pos h, fun h h2 => ?_, fun h h1 => ?_⟩
  · rw [if_neg (Nat.not_lt.mpr h), if_pos h2]
  · rw [if_neg (Nat.not_lt.mpr h), if_neg (by omega)]

/-! ### The fields of a show -/

/-- The condition of R51 that gives a show's state word, as the place of its entry (R50). -/
def Show.hasWord (w : Show) (place : Nat) : Prop :=
  w.state = .cancelled ∧ place = 0 ∨
    (w.state = .listed ∨ w.state = .boarding ∨ w.state = .started) ∧
      (w.band = .soldOut ∧ place = 1 ∨
        w.band ≠ .soldOut ∧ (w.state = .started ∧ place = 2 ∨
          w.state = .boarding ∧ place = 3 ∨
          w.state = .listed ∧ (w.band = .almost ∧ place = 4 ∨
            w.band = .filling ∧ place = 5 ∨ w.band = .plenty ∧ place = 6)))

/-- The place in the state-word table is that of R51. -/
theorem wordPlace_of_hasWord {w : Show} {place : Nat} (h : w.hasWord place) :
    w.wordPlace = some place := by
  unfold Show.wordPlace
  rcases h with ⟨hs, rfl⟩ | ⟨hs, ⟨hb, rfl⟩ | ⟨hb, hcase⟩⟩
  · rw [hs]
  · rcases hs with hs | hs | hs <;> rw [hs] <;> simp [hb]
  · rcases hcase with ⟨hs, rfl⟩ | ⟨hs, rfl⟩ | ⟨hs, ⟨hb, rfl⟩ | ⟨hb, rfl⟩ | ⟨hb, rfl⟩⟩
    · rw [hs]; exact if_neg hb
    · rw [hs]; exact if_neg hb
    all_goals rw [hs, hb]

section
variable (words : List (Option Nat)) (u : NoticeUnit) (origin width : Nat) (twelve : Bool)
  {w : Show}

/-- The text of a segment in the store (R67). -/
theorem segmentText_of_get {k : Nat} {g : Segment} (h : u.segments[k]? = some g) :
    u.segmentText k = g.text := by
  simp [NoticeUnit.segmentText, List.getD_eq_getElem?_getD, h]

/-- The fields of an EMPTY show are blank (R85). -/
theorem fieldText_empty (h : w.state = .empty) (f : Field) :
    fieldText words u origin twelve width w f = [] := by
  cases f with
  | status => simp [fieldText, statusText, Show.wordPlace, h]
  | seats => simp [fieldText, Show.seatsBlank, h]
  | auditorium | start | title | delay => exact if_pos h

/-- The fields but SEATS and STATUS of a show in use (R49). -/
theorem fieldText_present {render : Field → Text}
    (hf : render = fieldText words u origin twelve width w) (h : w.state ≠ .empty) :
    render .auditorium = decimal w.auditorium ∧
      render .start = timeText twelve ((origin + (w.start + w.delay)) % 1440) ∧
      render .title = w.title ∧ (w.delay = 0 → render .delay = []) ∧
      (0 < w.delay → render .delay = [43] ++ decimal w.delay) := by
  have hdelay : render .delay = delayText w.delay := by rw [hf]; exact if_neg h
  refine ⟨by rw [hf]; exact if_neg h, by rw [hf]; exact if_neg h, by rw [hf]; exact if_neg h,
    fun h0 => ?_, fun h0 => ?_⟩
  · rw [hdelay]; exact if_pos h0
  · rw [hdelay]; exact if_neg (Nat.ne_of_gt h0)

/-- SEATS is blank for a show that is over or EMPTY, and else the seats left (R52). -/
theorem fieldText_seats :
    (w.state = .cancelled ∨ w.state = .closed ∨ w.state = .empty →
      fieldText words u origin twelve width w .seats = []) ∧
    (w.state = .listed ∨ w.state = .boarding ∨ w.state = .started →
      fieldText words u origin twelve width w .seats =
        seatsText (w.capacity - (w.sold + w.held + w.blocked)) width) := by
  constructor
  · intro h
    refine if_pos ?_
    rcases h with h | h | h <;> simp [Show.seatsBlank, Show.over, h]
  · intro h
    refine if_neg ?_
    rcases h with h | h | h <;> simp [Show.seatsBlank, Show.over, h]

/-- STATUS of a show that has no word is blank (R51). -/
theorem fieldText_status_none (h : w.state = .closed ∨ w.state = .empty) :
    fieldText words u origin twelve width w .status = [] := by
  rcases h with h | h <;> simp [fieldText, statusText, Show.wordPlace, h]

/-- STATUS of a show is the word of its condition, blank where the entry is none (R50, R51). -/
theorem fieldText_status {place : Nat} (h : w.hasWord place) :
    (words.getD place none = none → fieldText words u origin twelve width w .status = []) ∧
    (∀ k g, words.getD place none = some k → u.segments[k]? = some g →
      fieldText words u origin twelve width w .status = g.text) := by
  have hstatus : fieldText words u origin twelve width w .status = statusText words u w := rfl
  rw [hstatus, statusText, wordPlace_of_hasWord h]
  dsimp only
  refine ⟨fun hn => by rw [hn], fun k g hk hg => ?_⟩
  rw [hk]
  exact segmentText_of_get u hg

/-- A template is its items in order, cut at 40 characters (R72). -/
theorem templateText_spec (items : List TemplateItem) :
    templateText words u origin w items =
      (items.flatMap (fun i => match i with
        | .segment k => u.segmentText k
        | .field f => fieldText words u origin false 4 w f)).take 40 := by
  have hitem : itemText words u origin w = fun i => match i with
      | .segment k => u.segmentText k
      | .field f => fieldText words u origin false 4 w f := by
    funext i
    cases i <;> rfl
  rw [templateText, cutText, ← List.flatMap_def, hitem]

end

/-! ### The text of a source -/

section
variable (s : State) {c : CellConfig}

/-- The show in a row of a view as last handed on: past the rows or the list there is none (R48,
R53; log entry 29). -/
theorem showAt_handed {v : Nat} {w : ViewPage} (hv : s.patch.viewPages[v]? = some w) (row : Nat) :
    s.patch.showAt v row = if w.rows ≤ row then none else w.list[w.page * w.rows + row]? := by
  simp only [PatchUnit.showAt, hv, ViewPage.showAt]

/-- A row without a show is blank (R48, R84). -/
theorem sourceText_board_blank {v row : Nat} {f : Field} (hc : c.source = .board v row f)
    (hn : s.patch.showAt v row = none) : s.sourceText c = [] := by
  simp only [State.sourceText, hc, hn]

/-- A row with a show renders its field (R84, R85). -/
theorem sourceText_board_show {v row n : Nat} {f : Field} (hc : c.source = .board v row f)
    (hn : s.patch.showAt v row = some n) :
    s.sourceText c = fieldText s.board.words s.notice s.clock.origin c.twelveHour c.chars
      (s.tally.entry n) f := by
  simp only [State.sourceText, hc, hn]

/-- The source texts, source by source (R48, R84, R85, R167). -/
theorem sourceText_spec {field : Nat → Field → Text}
    (hf : ∀ n f, field n f = fieldText s.board.words s.notice s.clock.origin c.twelveHour c.chars
      (s.tally.entry n) f) :
    (∀ k g, c.source = .fixed k → s.notice.segments[k]? = some g → s.sourceText c = g.text) ∧
    (∀ n f, c.source = .showField n f → s.sourceText c = field n f) ∧
    (∀ v row f w, c.source = .board v row f → s.patch.viewPages[v]? = some w →
      (w.rows ≤ row → s.sourceText c = []) ∧
      (w.list.length ≤ w.page * w.rows + row → s.sourceText c = []) ∧
      (∀ n, row < w.rows → w.list[w.page * w.rows + row]? = some n →
        s.sourceText c = field n f)) ∧
    (∀ k, c.source = .notice k → s.sourceText c = s.patch.noticeText.getD k []) ∧
    (c.source = .clock → s.sourceText c =
      timeText c.twelveHour ((s.clock.origin + s.clock.minute) % 1440)) := by
  refine ⟨fun k g hc hg => ?_, fun n f hc => ?_, fun v row f w hc hv => ?_, fun k hc => ?_,
    fun hc => ?_⟩
  · rw [State.sourceText, hc]
    exact segmentText_of_get s.notice hg
  · rw [State.sourceText, hc, hf]
  · have hshow := showAt_handed s hv row
    refine ⟨fun h => ?_, fun h => ?_, fun n h hn => ?_⟩
    · rw [if_pos h] at hshow
      exact sourceText_board_blank s hc hshow
    · rw [List.getElem?_eq_none h, ite_self] at hshow
      exact sourceText_board_blank s hc hshow
    · rw [if_neg (Nat.not_le.mpr h), hn] at hshow
      rw [hf]
      exact sourceText_board_show s hc hshow
  · rw [State.sourceText, hc]
  · rw [State.sourceText, hc]
    rfl

end

/-- Settles O60: fitting, numbers, times, seats, fields, templates and sources, each by its
lemma. -/
theorem targetTextsAreFitted : Obligations.TargetTextsAreFitted := by
  refine ⟨fitText_spec, decimal_spec, fun t _ => timeText_spec t, seatsText_spec,
    fun words u origin width twelve w render hf => ?_, fun s c field hf =>
      ⟨rfl, sourceText_spec s hf⟩⟩
  refine ⟨fieldText_present words u origin width twelve hf, fun h => ?_, ?_, ?_, ?_, ?_,
    templateText_spec words u origin⟩
  · rw [hf]
    exact ⟨fieldText_empty _ _ _ _ _ h _, fieldText_empty _ _ _ _ _ h _,
      fieldText_empty _ _ _ _ _ h _, fieldText_empty _ _ _ _ _ h _⟩
  all_goals rw [hf]
  · exact (fieldText_seats words u origin width twelve).1
  · exact (fieldText_seats words u origin width twelve).2
  · exact fieldText_status_none words u origin width twelve
  · exact fun _ h => fieldText_status words u origin width twelve h

end Sys2Proof.Machine

namespace Sys2Proof.Machine

/-! ### The notice table and the triggers by number -/

/-- Reading a table of optional entries after a place is set. -/
theorem join_set {α : Type} (l : List (Option α)) (k j : Nat) (o : Option α) :
    ((l.set k o)[j]?).join = if j = k ∧ k < l.length then o else (l[j]?).join := by
  simp only [List.getElem?_set]
  grind

section
variable {u w : NoticeUnit}

/-- What the invariant of the Notice Unit reads: the notice table, the stacks and the triggers. -/
def NoticeUnit.tables (u : NoticeUnit) :
    List (Option Notice) × List (List Nat) × List Trigger :=
  (u.notices, u.noticeStacks, u.triggers)

/-- The invariant reads no more than `NoticeUnit.tables`. -/
theorem NoticeInv.of_tables (hi : NoticeInv u) (h : w.tables = u.tables) : NoticeInv w := by
  obtain ⟨notices, stack, triggers, _, _, _⟩ := w
  obtain ⟨rfl, hrest⟩ := Prod.mk.inj h
  obtain ⟨rfl, rfl⟩ := Prod.mk.inj hrest
  exact ⟨hi.notices_length, hi.stacks_length, hi.triggers_length, hi.stacked, hi.once, hi.ranked,
    hi.spent, hi.single, hi.settled, hi.targets⟩

/-- An ID in use stands in the table. -/
theorem at?_lt {n : Nat} {x : Notice} (h : u.at? n = some x) : n < u.notices.length := by
  obtain ⟨hn, -⟩ := List.getElem?_eq_some_iff.mp (Option.join_eq_some_iff.mp h)
  exact hn

/-- A trigger that is not EMPTY stands in the table. -/
theorem trigger_lt {r : Nat} (h : (u.trigger r).state ≠ .empty) : r < u.triggers.length := by
  by_contra hr
  exact h (by rw [NoticeUnit.trigger, List.getD_eq_default _ _ (Nat.le_of_not_lt hr)])

/-- Reading a trigger after one is replaced. -/
theorem putTrigger_trigger (u : NoticeUnit) (t r : Nat) (y : Trigger) :
    (u.putTrigger t y).trigger r = if r = t ∧ t < u.triggers.length then y else u.trigger r :=
  getD_set ..

/-- A notice is in no stack of a surface past the twelve. -/
theorem NoticeInv.stack_past (hi : NoticeInv u) {k : Nat} (hk : ¬ k < 12) :
    u.noticeStacks.getD k [] = [] :=
  List.getD_eq_default _ _ (hi.stacks_length.trans_le (Nat.le_of_not_lt hk))

/-- Every ID that stands in a stack is in use (R57). -/
theorem NoticeInv.in_use (hi : NoticeInv u) {k n : Nat} (h : n ∈ u.noticeStacks.getD k []) :
    (u.at? n).isSome = true := by
  by_cases hk : k < 12
  · obtain ⟨x, hx, -⟩ := (hi.stacked k hk n).1 h
    rw [hx]; rfl
  · rw [hi.stack_past hk] at h; cases h

/-- The trigger of a notice in use stands in the table (R68). -/
theorem NoticeInv.source_lt (hi : NoticeInv u) {n r : Nat} {x : Notice} (hx : u.at? n = some x)
    (hs : x.source = .trigger r) : r < u.triggers.length := by
  refine trigger_lt ?_
  rw [(hi.spent r).2 ⟨n, x, hx, hs⟩]
  decide

end

/-! ### Notices leaving -/

/-- Some notices have left the table between two states of the unit, each out of every stack and its
trigger re-armed, and the others stand with their source, priority and screens (R55, R57, R73). -/
structure NoticeUnit.ThinsTo (u w : NoticeUnit) : Prop where
  frame : w = { u with
    notices := w.notices, noticeStacks := w.noticeStacks, triggers := w.triggers }
  notices_length : w.notices.length = u.notices.length
  stacks_length : w.noticeStacks.length = u.noticeStacks.length
  triggers_length : w.triggers.length = u.triggers.length
  free : ∀ n, u.at? n = none → w.at? n = none
  kept : ∀ n x y, u.at? n = some x → w.at? n = some y →
    y.source = x.source ∧ y.priority = x.priority ∧ y.screens = x.screens
  stacked : ∀ k, w.noticeStacks.getD k [] =
    (u.noticeStacks.getD k []).filter (fun n => (w.at? n).isSome)
  rearmed : ∀ n x r, u.at? n = some x → x.source = .trigger r → w.at? n = none →
    w.trigger r = { u.trigger r with state := .armed }
  standing : ∀ r, (∀ n x, u.at? n = some x → x.source = .trigger r → w.at? n ≠ none) →
    w.trigger r = u.trigger r

namespace NoticeUnit.ThinsTo
variable {u v w : NoticeUnit}

/-- With no notice gone the unit thins to itself. -/
theorem refl (hi : NoticeInv u) : u.ThinsTo u where
  frame := rfl
  notices_length := rfl
  stacks_length := rfl
  triggers_length := rfl
  free _ h := h
  kept n x y hx hy := by
    obtain rfl := Option.some.inj (hx.symm.trans hy)
    exact ⟨rfl, rfl, rfl⟩
  stacked k := (List.filter_eq_self.2 fun _ h => hi.in_use h).symm
  rearmed n x r hx _ hn := by rw [hn] at hx; cases hx
  standing _ _ := rfl

/-- A notice that stands stood before. -/
theorem was (h : u.ThinsTo w) {n : Nat} {y : Notice} (hy : w.at? n = some y) :
    ∃ x, u.at? n = some x ∧ y.source = x.source ∧ y.priority = x.priority ∧
      y.screens = x.screens := by
  rcases hx : u.at? n with _ | x
  · rw [h.free n hx] at hy; cases hy
  · exact ⟨x, rfl, h.kept n x y hx hy⟩

/-- A trigger stays as it was or is re-armed. -/
theorem trigger_cases (h : u.ThinsTo w) (r : Nat) :
    w.trigger r = u.trigger r ∨ w.trigger r = { u.trigger r with state := .armed } := by
  by_cases hr : ∃ n x, u.at? n = some x ∧ x.source = .trigger r ∧ w.at? n = none
  · obtain ⟨n, x, hx, hs, hn⟩ := hr
    exact .inr (h.rearmed n x r hx hs hn)
  · push Not at hr
    exact .inl (h.standing r hr)

/-- The settings of a trigger stay. -/
theorem settings (h : u.ThinsTo w) (r : Nat) : (w.trigger r).settings = (u.trigger r).settings := by
  rcases h.trigger_cases r with hr | hr <;> rw [hr]

/-- Notices that leave in two goes have left. -/
theorem trans (h : u.ThinsTo v) (k : v.ThinsTo w) : u.ThinsTo w where
  frame := by rw [k.frame, h.frame]
  notices_length := k.notices_length.trans h.notices_length
  stacks_length := k.stacks_length.trans h.stacks_length
  triggers_length := k.triggers_length.trans h.triggers_length
  free n hn := k.free n (h.free n hn)
  kept n x y hx hy := by
    obtain ⟨z, hz, hs, hp, hsc⟩ := k.was hy
    obtain ⟨hs', hp', hsc'⟩ := h.kept n x z hx hz
    exact ⟨hs.trans hs', hp.trans hp', hsc.trans hsc'⟩
  stacked j := by
    rw [k.stacked, h.stacked, List.filter_filter]
    refine List.filter_congr fun n _ => ?_
    rcases hw : w.at? n with _ | y
    · simp
    · obtain ⟨z, hz, -⟩ := k.was hw
      simp [hz]
  rearmed n x r hx hs hn := by
    have hone : v.trigger r = { u.trigger r with state := .armed } ∨
        w.trigger r = { v.trigger r with state := .armed } := by
      rcases hv : v.at? n with _ | z
      · exact .inl (h.rearmed n x r hx hs hv)
      · exact .inr (k.rearmed n z r hv ((h.kept n x z hx hv).1.trans hs) hn)
    rcases hone with hv | hw
    · rcases k.trigger_cases r with hw | hw <;> rw [hw, hv]
    · rcases h.trigger_cases r with hv | hv <;> rw [hw, hv]
  standing r hr := by
    have hv : v.trigger r = u.trigger r := h.standing r fun n x hx hs hn =>
      hr n x hx hs (k.free n hn)
    rw [← hv]
    refine k.standing r fun n z hz hs => ?_
    obtain ⟨x, hx, hsx, -⟩ := h.was hz
    exact hr n x hx (hsx ▸ hs)

/-- A sound unit is sound after notices have left (R57, R68, R73). -/
theorem sound (h : u.ThinsTo w) (hi : NoticeInv u) : NoticeInv w where
  notices_length := h.notices_length.trans hi.notices_length
  stacks_length := h.stacks_length.trans hi.stacks_length
  triggers_length := h.triggers_length.trans hi.triggers_length
  stacked k hk n := by
    rw [h.stacked, List.mem_filter, hi.stacked k hk]
    constructor
    · rintro ⟨⟨x, hx, hon⟩, hs⟩
      obtain ⟨y, hy⟩ := Option.isSome_iff_exists.1 hs
      exact ⟨y, hy, (h.kept n x y hx hy).2.2 ▸ hon⟩
    · rintro ⟨y, hy, hon⟩
      obtain ⟨x, hx, -, -, hsc⟩ := h.was hy
      exact ⟨⟨x, hx, hsc ▸ hon⟩, by rw [hy]; rfl⟩
  once k := by
    rw [h.stacked]
    exact (hi.once k).filter _
  ranked k := by
    have hprio : ∀ n, (w.at? n).isSome = true → w.priorityOf n = u.priorityOf n := by
      intro n hn
      obtain ⟨y, hy⟩ := Option.isSome_iff_exists.1 hn
      obtain ⟨x, hx, -, hp, -⟩ := h.was hy
      rw [NoticeUnit.priorityOf, NoticeUnit.priorityOf, hx, hy]
      exact hp
    rw [h.stacked]
    refine ((hi.ranked k).filter _).imp_of_mem fun {a b} ha hb hab => ?_
    rw [hprio a (List.mem_filter.1 ha).2, hprio b (List.mem_filter.1 hb).2]
    exact hab
  spent r := by
    constructor
    · intro hr
      by_contra hno
      by_cases hgone : ∃ n x, u.at? n = some x ∧ x.source = .trigger r ∧ w.at? n = none
      · obtain ⟨n, x, hx, hs, hn⟩ := hgone
        rw [h.rearmed n x r hx hs hn] at hr
        cases hr
      · push Not at hgone
        rw [h.standing r hgone] at hr
        obtain ⟨n, x, hx, hs⟩ := (hi.spent r).1 hr
        obtain ⟨y, hy⟩ := Option.ne_none_iff_exists'.1 (hgone n x hx hs)
        exact hno ⟨n, y, hy, (h.kept n x y hx hy).1.trans hs⟩
    · rintro ⟨n, y, hy, hs⟩
      obtain ⟨x, hx, hsx, -⟩ := h.was hy
      have hsrc := hsx.symm.trans hs
      rw [h.standing r, hi.spent]
      · exact ⟨n, x, hx, hsrc⟩
      · intro m z hz hsz
        obtain rfl := hi.single r n m x z hx hz hsrc hsz
        rw [hy]; simp
  single r n m y z hy hz hsy hsz := by
    obtain ⟨a, ha, hsa, -⟩ := h.was hy
    obtain ⟨b, hb, hsb, -⟩ := h.was hz
    exact hi.single r n m a b ha hb (hsa ▸ hsy) (hsb ▸ hsz)
  settled r := by
    rw [h.settings, ← hi.settled]
    by_cases hgone : ∃ n x, u.at? n = some x ∧ x.source = .trigger r ∧ w.at? n = none
    · obtain ⟨n, x, hx, hs, hn⟩ := hgone
      rw [h.rearmed n x r hx hs hn, (hi.spent r).2 ⟨n, x, hx, hs⟩]
      simp
    · push Not at hgone
      rw [h.standing r hgone]
  targets r g hg := hi.targets r g (h.settings r ▸ hg)

end NoticeUnit.ThinsTo

section
variable {u : NoticeUnit} {n : Nat} {x : Notice}

/-- Re-arming keeps how many triggers there are. -/
theorem rearm_length (u : NoticeUnit) (src : NoticeSource) :
    (u.rearm src).triggers.length = u.triggers.length := by
  cases src with
  | desk d => rfl
  | trigger t => exact List.length_set

/-- Re-arming a source arms its trigger and no other (R73). -/
theorem rearm_trigger (u : NoticeUnit) (src : NoticeSource) (r : Nat) :
    (u.rearm src).trigger r = if src = .trigger r ∧ r < u.triggers.length then
      { u.trigger r with state := .armed } else u.trigger r := by
  cases src with
  | desk d => simp [NoticeUnit.rearm]
  | trigger t =>
    rw [NoticeUnit.rearm, putTrigger_trigger]
    by_cases h : r = t
    · subst h; simp
    · simp [h, Ne.symm h]

/-- A free ID has no notice to leave. -/
theorem leave_of_none (h : u.at? n = none) : u.leave n = u := by
  rw [NoticeUnit.leave, h]

/-- The notice of an ID in use leaves the table and every stack, and its trigger is re-armed
(R55). -/
theorem leave_of_some (h : u.at? n = some x) :
    u.leave n = { u with
      notices := u.notices.set n none
      noticeStacks := u.noticeStacks.map (fun st => st.filter (fun m => m != n))
      triggers := (u.rearm x.source).triggers } := by
  rw [NoticeUnit.leave, h]
  dsimp only
  cases x.source <;> rfl

/-- After a notice leaves its ID is free and every other holds what it held. -/
theorem leave_at? (u : NoticeUnit) (n m : Nat) :
    (u.leave n).at? m = if m = n then none else u.at? m := by
  rcases h : u.at? n with _ | x
  · rw [leave_of_none h]
    split
    · next he => rw [he, h]
    · rfl
  · rw [leave_of_some h, NoticeUnit.at?, join_set]
    simp only [at?_lt h, and_true]
    rfl

/-- A notice leaves the stacks and nothing else does. -/
theorem leave_stack (hi : NoticeInv u) (k : Nat) :
    (u.leave n).noticeStacks.getD k [] =
      (u.noticeStacks.getD k []).filter (fun m => m != n) := by
  rcases h : u.at? n with _ | x
  · rw [leave_of_none h, eq_comm, List.filter_eq_self]
    intro m hm
    have hm := hi.in_use hm
    rw [bne_iff_ne]
    rintro rfl
    rw [h] at hm; cases hm
  · rw [leave_of_some h]
    exact getD_map (fun st : List Nat => st.filter (fun m => m != n)) _ k []

/-- The trigger whose notice leaves is re-armed, any other stays (R73). -/
theorem leave_trigger (hi : NoticeInv u) (r : Nat) :
    (u.leave n).trigger r = if (u.at? n).any (fun x => x.source == .trigger r) then
      { u.trigger r with state := .armed } else u.trigger r := by
  rcases h : u.at? n with _ | x
  · rw [leave_of_none h]; rfl
  · rw [leave_of_some h]
    refine (rearm_trigger u x.source r).trans ?_
    by_cases hs : x.source = .trigger r
    · simp [hs, hi.source_lt h hs]
    · simp [hs]

/-- When a notice leaves, the unit thins. -/
theorem leave_thins (hi : NoticeInv u) (n : Nat) : u.ThinsTo (u.leave n) := by
  rcases h : u.at? n with _ | x
  · rw [leave_of_none h]; exact .refl hi
  · refine ⟨?_, ?_, ?_, ?_, fun m hm => ?_, fun m y z hy hz => ?_, fun k => ?_,
      fun m y r hy hs hm => ?_, fun r hr => ?_⟩
    · rw [leave_of_some h]
    · rw [leave_of_some h]; exact List.length_set
    · rw [leave_of_some h]; exact List.length_map _
    · rw [leave_of_some h]; exact rearm_length ..
    · rw [leave_at?, hm, ite_self]
    · rw [leave_at?] at hz
      split at hz
      · cases hz
      · obtain rfl := Option.some.inj (hy.symm.trans hz)
        exact ⟨rfl, rfl, rfl⟩
    · rw [leave_stack hi]
      refine List.filter_congr fun m hm => ?_
      rw [leave_at?]
      by_cases he : m = n
      · simp [he]
      · simp [he, hi.in_use hm]
    · rw [leave_at?] at hm
      split at hm
      · next he =>
        subst he
        rw [leave_trigger hi, hy]
        simp [hs]
      · rw [hy] at hm; cases hm
    · rw [leave_trigger hi, h, Option.any_some, if_neg]
      intro hs
      exact hr n x h (by simpa using hs) (by rw [leave_at?, if_pos rfl])

/-- A notice put for one of the same source, priority and screens thins nothing. -/
theorem store_thins (hi : NoticeInv u) (hx : u.at? n = some x) {y : Notice}
    (hs : y.source = x.source) (hp : y.priority = x.priority) (hsc : y.screens = x.screens) :
    u.ThinsTo { u with notices := u.notices.set n (some y) } := by
  have hat : ∀ m, ({ u with notices := u.notices.set n (some y) } : NoticeUnit).at? m =
      if m = n then some y else u.at? m := by
    intro m
    rw [NoticeUnit.at?, join_set]
    simp only [at?_lt hx, and_true]
    rfl
  have huse : ∀ m z, u.at? m = some z →
      ({ u with notices := u.notices.set n (some y) } : NoticeUnit).at? m ≠ none := by
    intro m z hz
    rw [hat]
    split <;> simp [hz]
  refine ⟨rfl, List.length_set, rfl, rfl, fun m hm => ?_, fun m z v hz hv => ?_, fun k => ?_,
    fun m z r hz _ hm => absurd hm (huse m z hz), fun r _ => rfl⟩
  · rw [hat, hm, if_neg]
    rintro rfl
    rw [hx] at hm; cases hm
  · rw [hat] at hv
    split at hv
    · next he =>
      subst he
      obtain rfl := Option.some.inj hv
      obtain rfl := Option.some.inj (hx.symm.trans hz)
      exact ⟨hs, hp, hsc⟩
    · obtain rfl := Option.some.inj (hz.symm.trans hv)
      exact ⟨rfl, rfl, rfl⟩
  · refine (List.filter_eq_self.2 fun m hm => ?_).symm
    obtain ⟨z, hz⟩ := Option.isSome_iff_exists.1 (hi.in_use hm)
    exact Option.isSome_iff_ne_none.2 (huse m z hz)

end

end Sys2Proof.Machine

namespace Sys2Proof.Machine

/-! ### The tick event -/

/-- What a notice whose timer has been counted down becomes: a TIMED one leaves at its expiry, a CYCLE
one moves (R64, R65). -/
def Notice.expired (x : Notice) : Option Notice :=
  if x.timer = some 0 then
    match x.timing with
    | .steady => some x
    | .timed _ => none
    | .cycle dwell gap _ stay => x.cycleMove dwell gap stay
  else some x

/-- A notice that stays keeps its source, priority and screens. -/
theorem expired_same {x y : Notice} (h : x.expired = some y) :
    y.source = x.source ∧ y.priority = x.priority ∧ y.screens = x.screens := by
  unfold Notice.expired at h
  split at h
  · split at h
    · cases h; exact ⟨rfl, rfl, rfl⟩
    · cases h
    · unfold Notice.cycleMove at h
      split_ifs at h <;> cases h <;> exact ⟨rfl, rfl, rfl⟩
  · cases h; exact ⟨rfl, rfl, rfl⟩

/-- Counting down keeps the source, priority and screens of a notice (R63). -/
theorem countDown_same (x : Notice) : x.countDown.source = x.source ∧
    x.countDown.priority = x.priority ∧ x.countDown.screens = x.screens := by
  unfold Notice.countDown
  split <;> exact ⟨rfl, rfl, rfl⟩

section
variable {u : NoticeUnit} {n : Nat} {x : Notice}

/-- A notice put back where it stands changes nothing. -/
theorem store_self (h : u.at? n = some x) :
    { u with notices := u.notices.set n (some x) } = u := by
  have hget : u.notices[n]? = some (some x) := Option.join_eq_some_iff.mp h
  have hset : u.notices.set n (some x) = u.notices := by
    have hd := set_getD_self u.notices n none
    rwa [List.getD_eq_getElem?_getD, hget] at hd
  rw [hset]

/-- A free ID has no timer. -/
theorem expireAt_of_none (h : u.at? n = none) : u.expireAt n = u := by
  rw [NoticeUnit.expireAt, h]

/-- The action on an ID in use: its notice leaves, or stands as `Notice.expired` says (R64, R65). -/
theorem expireAt_of_some (h : u.at? n = some x) :
    (x.expired = none ∧ u.expireAt n = u.leave n) ∨
      ∃ y, x.expired = some y ∧
        u.expireAt n = { u with notices := u.notices.set n (some y) } := by
  rw [NoticeUnit.expireAt, h]
  dsimp only
  unfold Notice.expired
  by_cases ht : x.timer = some 0
  · rw [if_neg (not_not.2 ht), if_pos ht]
    rcases x.timing with _ | lifetime | ⟨dwell, gap, repeats, stay⟩
    · exact .inr ⟨x, rfl, (store_self h).symm⟩
    · exact .inl ⟨rfl, rfl⟩
    · dsimp only
      rcases hm : x.cycleMove dwell gap stay with _ | y
      · exact .inl ⟨rfl, rfl⟩
      · exact .inr ⟨y, rfl, rfl⟩
  · rw [if_pos ht, if_neg ht]
    exact .inr ⟨x, rfl, (store_self h).symm⟩

/-- The action on one ID changes the notice it holds alone. -/
theorem expireAt_at? (u : NoticeUnit) (n m : Nat) :
    (u.expireAt n).at? m = if m = n then (u.at? n).bind Notice.expired else u.at? m := by
  rcases h : u.at? n with _ | x
  · rw [expireAt_of_none h]
    split
    · next he => rw [he, h]; rfl
    · rfl
  · rcases expireAt_of_some h with ⟨hx, he⟩ | ⟨y, hx, he⟩
    · rw [he, leave_at?, Option.bind_some, hx]
    · rw [he, NoticeUnit.at?, join_set, Option.bind_some, hx]
      simp only [at?_lt h, and_true]
      rfl

/-- The action on one ID thins the unit. -/
theorem expireAt_thins (hi : NoticeInv u) (n : Nat) : u.ThinsTo (u.expireAt n) := by
  rcases h : u.at? n with _ | x
  · rw [expireAt_of_none h]; exact .refl hi
  · rcases expireAt_of_some h with ⟨-, he⟩ | ⟨y, hx, he⟩
    · rw [he]; exact leave_thins hi n
    · obtain ⟨hs, hp, hsc⟩ := expired_same hx
      rw [he]; exact store_thins hi h hs hp hsc

/-- The actions on distinct IDs, each on the notice its ID held. -/
theorem expireEach_at? (u : NoticeUnit) {l : List Nat} (hl : l.Nodup) (m : Nat) :
    (u.expireEach l).at? m = if m ∈ l then (u.at? m).bind Notice.expired else u.at? m := by
  induction l generalizing u with
  | nil => simp [NoticeUnit.expireEach]
  | cons n rest ih =>
    obtain ⟨hn, hrest⟩ := List.nodup_cons.1 hl
    rw [NoticeUnit.expireEach, ih _ hrest, expireAt_at?]
    by_cases hm : m = n
    · subst hm; simp [hn]
    · simp [hm]

/-- The actions on several IDs thin the unit. -/
theorem expireEach_thins (hi : NoticeInv u) (l : List Nat) : u.ThinsTo (u.expireEach l) := by
  induction l generalizing u with
  | nil => exact .refl hi
  | cons n rest ih =>
    have h := expireAt_thins hi n
    exact h.trans (ih (h.sound hi))

/-- The unit with every timer counted down by one tick (R63). -/
def NoticeUnit.countedDown (u : NoticeUnit) : NoticeUnit :=
  { u with notices := u.notices.map (Option.map Notice.countDown) }

theorem tick_eq (u : NoticeUnit) :
    u.tick = u.countedDown.expireEach (List.range Config.notices) := rfl

/-- Every timer counts down and nothing else changes. -/
theorem countedDown_at? (u : NoticeUnit) (n : Nat) :
    u.countedDown.at? n = (u.at? n).map Notice.countDown := by
  simp only [NoticeUnit.at?, NoticeUnit.countedDown, List.getElem?_map]
  rcases u.notices[n]? with _ | _ | x <;> rfl

/-- No notice leaves when the timers count down. -/
theorem countedDown_thins (hi : NoticeInv u) : u.ThinsTo u.countedDown := by
  refine ⟨rfl, List.length_map _, rfl, rfl, fun n hn => ?_, fun n x y hx hy => ?_, fun k => ?_,
    fun n x r hx _ hn => ?_, fun _ _ => rfl⟩
  · rw [countedDown_at?, hn]; rfl
  · rw [countedDown_at?, hx] at hy
    obtain rfl := Option.some.inj hy
    exact countDown_same x
  · refine (List.filter_eq_self.2 fun n hn => ?_).symm
    rw [countedDown_at?, Option.isSome_map]
    exact hi.in_use hn
  · rw [countedDown_at?, hx] at hn; cases hn

/-- The tick event on each ID: its timer counts down, and at its expiry it leaves or moves (R63). -/
theorem tick_at? (hi : NoticeInv u) (n : Nat) :
    u.tick.at? n = (u.at? n).bind (fun x => x.countDown.expired) := by
  rw [tick_eq, expireEach_at? _ List.nodup_range, countedDown_at?, Option.bind_map]
  by_cases hn : n < 64
  · rw [if_pos (List.mem_range.2 hn)]; rfl
  · have hfree : u.at? n = none := by
      by_contra hx
      obtain ⟨x, hx⟩ := Option.ne_none_iff_exists'.1 hx
      exact hn ((at?_lt hx).trans_eq hi.notices_length)
    rw [hfree]; simp

/-- The tick event thins the unit. -/
theorem tick_thins (hi : NoticeInv u) : u.ThinsTo u.tick := by
  have h := countedDown_thins hi
  exact h.trans (expireEach_thins (h.sound hi) _)

end

/-! ### What one notice becomes at a tick -/

section
variable {x : Notice}

/-- A notice without a timer stays (R63). -/
theorem countDown_expired_none (h : x.timer = none) : x.countDown.expired = some x := by
  simp [Notice.countDown, Notice.expired, h]

/-- A timer that has more than one second to run counts down (R63). -/
theorem countDown_expired_running {j : Nat} (h : x.timer = some j) (hj : 1 < j) :
    x.countDown.expired = some { x with timer := some (j - 1) } := by
  rw [Notice.countDown, h]
  exact if_neg (by simp only [Option.some.injEq]; omega)

/-- A TIMED notice leaves at the last second of its lifetime (R64). -/
theorem countDown_expired_timed {lifetime : Nat} (h : x.timer = some 1)
    (hm : x.timing = .timed lifetime) : x.countDown.expired = none := by
  simp [Notice.countDown, Notice.expired, h, hm]

/-- A CYCLE notice moves at the last second of its dwell or gap (R65). -/
theorem countDown_expired_cycle {dwell gap repeats : Nat} {stay : Bool} (h : x.timer = some 1)
    (hm : x.timing = .cycle dwell gap repeats stay) :
    (x.shown = true → x.countDown.expired = some { x with shown := false, timer := some gap }) ∧
      (x.shown = false → 1 < x.remaining → x.countDown.expired =
        some { x with shown := true, timer := some dwell, remaining := x.remaining - 1 }) ∧
      (x.shown = false → x.remaining ≤ 1 → stay = false → x.countDown.expired = none) ∧
      (x.shown = false → x.remaining ≤ 1 → stay = true → x.countDown.expired =
        some { x with timing := .steady, shown := true, timer := none, remaining := 0 }) := by
  have hmove : x.countDown.expired =
      Notice.cycleMove { x with timer := some 0 } dwell gap stay := by
    simp [Notice.countDown, Notice.expired, h, hm]
  rw [hmove]
  refine ⟨fun hs => ?_, fun hs hr => ?_, fun hs hr hst => ?_, fun hs hr hst => ?_⟩
  · simp [Notice.cycleMove, hs]
  · simp [Notice.cycleMove, hs, hr]
  · simp [Notice.cycleMove, hs, Nat.not_lt.2 hr, hst]
  · simp [Notice.cycleMove, hs, Nat.not_lt.2 hr, hst]

end

/-! ### Top notices and what is handed on -/

/-- Whether an ID holds a SHOWN notice (R58). -/
def NoticeUnit.shows (u : NoticeUnit) (n : Nat) : Bool := (u.at? n).any (fun x => x.shown)

section
variable (u w : NoticeUnit) (k : Nat)

/-- The top notice is the first of its stack that is SHOWN (R58). -/
theorem topOf_eq_find (l : List Nat) : u.topOf l = l.find? u.shows := by
  induction l with
  | nil => rfl
  | cons n rest ih =>
    rw [NoticeUnit.topOf, List.find?_cons, NoticeUnit.shows]
    rcases u.at? n with _ | x
    · exact ih
    · by_cases hx : x.shown = true <;> simp [hx, ih]

/-- The top notice of a surface by its place in the stack (R58). -/
theorem top_eq_some_iff (n : Nat) :
    u.top k = some n ↔ ∃ before after, u.noticeStacks.getD k [] = before ++ n :: after ∧
      (∃ x, u.at? n = some x ∧ x.shown = true) ∧
      ∀ m x, m ∈ before → u.at? m = some x → x.shown = false := by
  have hshows : ∀ m, u.shows m = true ↔ ∃ x, u.at? m = some x ∧ x.shown = true := by
    intro m
    rw [NoticeUnit.shows]
    rcases u.at? m with _ | x <;> simp
  have hhides : ∀ m, u.shows m = false ↔ ∀ x, u.at? m = some x → x.shown = false := by
    intro m
    rw [NoticeUnit.shows]
    rcases u.at? m with _ | x <;> simp
  rw [NoticeUnit.top, topOf_eq_find, List.find?_eq_some_iff_append, hshows]
  simp only [Bool.not_eq_true', hhides]
  constructor
  · rintro ⟨hn, before, after, hl, hb⟩
    exact ⟨before, after, hl, hn, fun m x hm => hb m hm x⟩
  · rintro ⟨before, after, hl, hn, hb⟩
    exact ⟨hn, before, after, hl, fun m hm x => hb m x hm⟩

/-- A surface without a top notice has an empty text and no full-screen mode (R58). -/
theorem top_none (h : u.top k = none) : u.topText k = [] ∧ u.isFull k = false := by
  simp [NoticeUnit.topText, NoticeUnit.isFull, h]

/-- The text and the full-screen mode of a surface are those of its top notice (R58). -/
theorem top_some {n : Nat} {x : Notice} (h : u.top k = some n) (hx : u.at? n = some x) :
    u.topText k = x.text ∧ (u.isFull k = true ↔ x.priority = 7) := by
  simp [NoticeUnit.topText, NoticeUnit.isFull, NoticeUnit.priorityOf, h, hx]

/-- A surface's top differs where its notice, its text or its flag does (R58). -/
theorem topDiffers_iff : topDiffers u w k = true ↔
    u.top k ≠ w.top k ∨ u.topText k ≠ w.topText k ∨ u.isFull k ≠ w.isFull k := by
  simp [topDiffers, or_assoc]

/-- The hand-ons stand by rising surface number, each surface once (log entry 31). -/
theorem handOns_sorted : (handOns u w).Pairwise (fun a b => a.surface < b.surface) :=
  List.pairwise_map.2 (List.pairwise_lt_range.filter _)

/-- What is handed on are the new text and flag of the surfaces whose top differs (R58). -/
theorem mem_handOns (h : TopHandOn) : h ∈ handOns u w ↔
    h.surface < 12 ∧ topDiffers u w h.surface = true ∧ h.text = w.topText h.surface ∧
      h.fullScreen = w.isFull h.surface := by
  simp only [handOns, List.mem_map, List.mem_filter, surfaceNumbers, List.mem_range]
  constructor
  · rintro ⟨j, ⟨hj, hd⟩, rfl⟩
    exact ⟨hj, hd, rfl, rfl⟩
  · rintro ⟨hj, hd, ht, hf⟩
    exact ⟨h.surface, ⟨hj, hd⟩, by rw [← ht, ← hf]⟩

end

/-- The tops of the surfaces depend on the tables alone (R58). -/
theorem tops_congr {u v : NoticeUnit} (h : v.tables = u.tables) :
    v.top = u.top ∧ v.topText = u.topText ∧ v.isFull = u.isFull := by
  obtain ⟨hn, hrest⟩ := Prod.mk.inj h
  obtain ⟨hs, -⟩ := Prod.mk.inj hrest
  have hat : v.at? = u.at? := funext fun n => by rw [NoticeUnit.at?, NoticeUnit.at?, hn]
  have htop : v.top = u.top := funext fun k => by
    have hshows : v.shows = u.shows := funext fun n => by
      rw [NoticeUnit.shows, NoticeUnit.shows, hat]
    rw [NoticeUnit.top, NoticeUnit.top, topOf_eq_find, topOf_eq_find, hs, hshows]
  refine ⟨htop, funext fun k => ?_, funext fun k => ?_⟩
  · rw [NoticeUnit.topText, NoticeUnit.topText, htop, hat]
  · simp only [NoticeUnit.isFull, NoticeUnit.priorityOf, htop, hat]

/-- What is handed on depends on the tables before the event, beside the unit after it (R58). -/
theorem handOns_congr {u v : NoticeUnit} (h : v.tables = u.tables) (w : NoticeUnit) :
    handOns v w = handOns u w := by
  obtain ⟨htop, htext, hfull⟩ := tops_congr h
  have hdiffers : topDiffers v w = topDiffers u w := funext fun k => by
    rw [topDiffers, topDiffers, htop, htext, hfull]
  rw [handOns, handOns, hdiffers]

/-- An event of the Notice Unit stands in its frame (R58). -/
theorem noticeDone_frame (s : State) (u : NoticeUnit) : s.noticeFrame (s.noticeDone u) := rfl

/-- Settles O11: the tops and hand-ons by their definitions, the tick event by what it does to each ID
and by `ThinsTo`. -/
theorem noticeTimersExpire : Obligations.NoticeTimersExpire := by
  refine ⟨fun u k => ⟨top_eq_some_iff u k, top_none u k, fun n x => top_some u k⟩,
    fun u w => ⟨handOns_sorted u w, topDiffers_iff u w, mem_handOns u w⟩, ?_⟩
  intro s c hr hc hw hi
  obtain ⟨u, hu⟩ : ∃ u, u = { s.notice with tickWaiting := false } := ⟨_, rfl⟩
  have hiu : NoticeInv u := hi.of_tables (hu ▸ rfl)
  have hexec : exec c s = .next (s.noticeDone u.tick) := by
    have hc : exec c s = whenRunning takeNoticeTick s := by rcases hc with rfl | rfl <;> rfl
    rw [hc, whenRunning_runs hr, takeNoticeTick, if_pos hw, hu]
  have hthins := tick_thins hiu
  have hat : ∀ n x, s.notice.at? n = some x → u.tick.at? n = x.countDown.expired := by
    intro n x hx
    rw [tick_at? hiu, show u.at? n = some x from hu ▸ hx, Option.bind_some]
  generalize u.tick = w at hexec hthins hat
  subst hu
  refine ⟨_, hexec, noticeDone_frame s w, rfl, rfl, hthins.frame, hthins.free,
    fun n x hx ht => (hat n x hx).trans (countDown_expired_none ht),
    fun n x j hx ht hj => (hat n x hx).trans (countDown_expired_running ht hj),
    fun n x lifetime hx ht hm => (hat n x hx).trans (countDown_expired_timed ht hm),
    fun n x dwell gap repeats stay hx ht hm => ?_, hthins.stacked, fun r n x hx hs => ?_,
    fun r hne => hthins.standing r fun n x hx hs => absurd ((hi.spent r).2 ⟨n, x, hx, hs⟩) hne⟩
  · rw [State.noticeDone_notice, hat n x hx]
    exact countDown_expired_cycle ht hm
  · rw [State.noticeDone_notice]
    split
    · next hsome =>
      refine hthins.standing r fun m y hy hsy => ?_
      obtain rfl := hi.single r n m x y hx hy hs hsy
      exact Option.isSome_iff_ne_none.1 hsome
    · next hnone => exact hthins.rearmed n x r hx hs (by simpa using hnone)

end Sys2Proof.Machine

namespace Sys2Proof.Machine

/-! ### A notice put in the stacks -/

section
variable {u v : NoticeUnit} {n priority : Nat} {l : List Nat}

/-- A notice put in a stack of falling priority stands after every one of equal or higher priority and
before every one of lower (R57). -/
theorem insertStack_split (hl : l.Pairwise (fun a b => u.priorityOf b ≤ u.priorityOf a)) :
    ∃ before after, l = before ++ after ∧ insertStack u n priority l = before ++ n :: after ∧
      (∀ m, m ∈ before → priority ≤ u.priorityOf m) ∧
      ∀ m, m ∈ after → u.priorityOf m < priority := by
  induction l with
  | nil => exact ⟨[], [], rfl, rfl, by simp, by simp⟩
  | cons m rest ih =>
    obtain ⟨hm, hrest⟩ := List.pairwise_cons.1 hl
    rw [insertStack]
    split
    · next hle =>
      obtain ⟨before, after, rfl, hi, hb, ha⟩ := ih hrest
      exact ⟨m :: before, after, rfl, by rw [hi]; rfl, List.forall_mem_cons.2 ⟨hle, hb⟩, ha⟩
    · next hlt =>
      have hlt := Nat.lt_of_not_le hlt
      exact ⟨[], m :: rest, rfl, rfl, by simp,
        List.forall_mem_cons.2 ⟨hlt, fun a ha => (hm a ha).trans_lt hlt⟩⟩

/-- A stack with a notice put in it is the old stack and the notice. -/
theorem insertStack_perm (u : NoticeUnit) (n priority : Nat) (l : List Nat) :
    (insertStack u n priority l).Perm (n :: l) := by
  induction l with
  | nil => exact .refl _
  | cons m rest ih =>
    rw [insertStack]
    split
    · exact (ih.cons m).trans (.swap n m rest)
    · exact .refl _

/-- The stacks with a notice put in those of its screens. -/
theorem insertStacks_getD (u : NoticeUnit) (n priority : Nat) (screens : BitVec 12) (j k : Nat)
    (l : List (List Nat)) : (insertStacks u n priority screens j l).getD k [] =
      if screens.getLsbD (j + k) = true ∧ k < l.length then insertStack u n priority (l.getD k [])
      else l.getD k [] := by
  induction l generalizing j k with
  | nil => simp [insertStacks]
  | cons st rest ih =>
    rw [insertStacks]
    cases k with
    | zero => by_cases h : screens.getLsbD j = true <;> simp [h]
    | succ k =>
      rw [List.getD_cons_succ, ih, List.getD_cons_succ, Nat.add_right_comm, Nat.add_assoc j k 1]
      simp

/-- A notice put in the stacks keeps how many there are. -/
theorem insertStacks_length (u : NoticeUnit) (n priority : Nat) (screens : BitVec 12) (j : Nat)
    (l : List (List Nat)) : (insertStacks u n priority screens j l).length = l.length := by
  induction l generalizing j with
  | nil => rfl
  | cons st rest ih => rw [insertStacks, List.length_cons, List.length_cons, ih]

end

/-! ### A notice entering -/

/-- The part of `NoticeInv` that speaks of the notice table and the stacks (R57). -/
structure NoticeUnit.StacksSound (u : NoticeUnit) : Prop where
  notices_length : u.notices.length = Config.notices
  stacks_length : u.noticeStacks.length = Config.surfaces
  stacked : ∀ k, k < Config.surfaces → ∀ n,
    n ∈ u.noticeStacks.getD k [] ↔ ∃ x, u.at? n = some x ∧ x.screens.getLsbD k = true
  once : ∀ k, (u.noticeStacks.getD k []).Nodup
  ranked : ∀ k, (u.noticeStacks.getD k []).Pairwise (fun a b => u.priorityOf b ≤ u.priorityOf a)

/-- The notice table and the stacks of a sound unit are sound, whatever its triggers become. -/
theorem NoticeInv.stacksSound {u v : NoticeUnit} (hi : NoticeInv u) (hn : v.notices = u.notices)
    (hs : v.noticeStacks = u.noticeStacks) : v.StacksSound := by
  obtain ⟨notices, stack, triggers, _, _, _⟩ := v
  subst hn hs
  exact ⟨hi.notices_length, hi.stacks_length, hi.stacked, hi.once, hi.ranked⟩

section
variable {u : NoticeUnit} {n : Nat} {x : Notice}

/-- After a notice enters its ID holds it and every other what it held. -/
theorem enter_at? (hn : n < u.notices.length) (x : Notice) (m : Nat) :
    (u.enter n x).at? m = if m = n then some x else u.at? m := by
  rw [NoticeUnit.at?, NoticeUnit.enter, join_set]
  simp only [hn, and_true]
  rfl

/-- After a notice enters it stands in the stacks of its screens (R57). -/
theorem enter_stack (u : NoticeUnit) (n : Nat) (x : Notice) (k : Nat) :
    (u.enter n x).noticeStacks.getD k [] =
      if x.screens.getLsbD k = true ∧ k < u.noticeStacks.length then
        insertStack u n x.priority (u.noticeStacks.getD k [])
      else u.noticeStacks.getD k [] := by
  rw [NoticeUnit.enter, insertStacks_getD, Nat.zero_add]

/-- The priorities after a notice enters. -/
theorem enter_priorityOf (hn : n < u.notices.length) (x : Notice) (m : Nat) :
    (u.enter n x).priorityOf m = if m = n then x.priority else u.priorityOf m := by
  rw [NoticeUnit.priorityOf, enter_at? hn]
  by_cases hm : m = n
  · rw [if_pos hm, if_pos hm]
  · rw [if_neg hm, if_neg hm]; rfl

/-- An ID in no stack is put in once, in its place by priority (R57). -/
theorem enter_ranked {l : List Nat} (hn : n < u.notices.length) (hl : n ∉ l)
    (hr : l.Pairwise (fun a b => u.priorityOf b ≤ u.priorityOf a)) :
    (insertStack u n x.priority l).Pairwise
      (fun a b => (u.enter n x).priorityOf b ≤ (u.enter n x).priorityOf a) := by
  obtain ⟨before, after, rfl, hi, hb, ha⟩ := insertStack_split (n := n) (priority := x.priority) hr
  have hself : (u.enter n x).priorityOf n = x.priority := by
    rw [enter_priorityOf hn, if_pos rfl]
  have hother : ∀ m, m ∈ before ++ after → (u.enter n x).priorityOf m = u.priorityOf m := by
    intro m hm
    rw [enter_priorityOf hn, if_neg]
    rintro rfl
    exact hl hm
  have hr' := hr.imp_of_mem (S := fun a b => (u.enter n x).priorityOf b ≤ (u.enter n x).priorityOf a)
    fun {a b} hma hmb hab => by rw [hother a hma, hother b hmb]; exact hab
  rw [hi, List.pairwise_append, List.pairwise_cons]
  obtain ⟨hbefore, hafter, hcross⟩ := List.pairwise_append.1 hr'
  refine ⟨hbefore, ⟨fun m hm => ?_, hafter⟩, fun a hma b hmb => ?_⟩
  · rw [hself, hother m (List.mem_append_right _ hm)]
    exact (ha m hm).le
  · rcases List.mem_cons.1 hmb with rfl | hmb
    · rw [hself, hother a (List.mem_append_left _ hma)]
      exact hb a hma
    · exact hcross a hma b hmb

/-- A notice that enters at a free ID keeps the table and the stacks sound (R57). -/
theorem NoticeUnit.StacksSound.enter (h : u.StacksSound) (hn : n < 64) (hfree : u.at? n = none) :
    (u.enter n x).StacksSound := by
  have hlt : n < u.notices.length := hn.trans_eq h.notices_length.symm
  have habsent : ∀ k, k < u.noticeStacks.length → n ∉ u.noticeStacks.getD k [] := by
    intro k hk hmem
    obtain ⟨y, hy, -⟩ := (h.stacked k (h.stacks_length ▸ hk) n).1 hmem
    rw [hfree] at hy; cases hy
  refine ⟨List.length_set.trans h.notices_length,
    (insertStacks_length ..).trans h.stacks_length, fun k hk m => ?_, fun k => ?_, fun k => ?_⟩
  · have hold := h.stacked k hk m
    have hk : k < u.noticeStacks.length := h.stacks_length ▸ hk
    rw [enter_stack, enter_at? hlt]
    simp only [hk, and_true]
    split_ifs with hs hm hm
    · rw [(insertStack_perm ..).mem_iff]
      simp [hm, hs]
    · rw [(insertStack_perm ..).mem_iff, List.mem_cons, hold]
      simp [hm]
    · subst hm
      exact iff_of_false (habsent k hk) (by simp [hs])
    · exact hold
  · rw [enter_stack]
    split
    · next hk =>
      rw [(insertStack_perm ..).nodup_iff]
      exact List.nodup_cons.2 ⟨habsent k hk.2, h.once k⟩
    · exact h.once k
  · rw [enter_stack]
    split
    · next hk => exact enter_ranked hlt (habsent k hk.2) (h.ranked k)
    · next hk =>
      refine (h.ranked k).imp_of_mem fun {a b} hma hmb hab => ?_
      have hin : k < u.noticeStacks.length := by
        by_contra hk'
        rw [List.getD_eq_default _ _ (Nat.le_of_not_lt hk')] at hma
        cases hma
      have hne : ∀ m, m ∈ u.noticeStacks.getD k [] → m ≠ n := by
        rintro m hm rfl
        exact habsent k hin hm
      rw [enter_priorityOf hlt, enter_priorityOf hlt, if_neg (hne a hma), if_neg (hne b hmb)]
      exact hab

/-- A desk's notice that enters at a free ID keeps the unit sound (R57, R68). -/
theorem NoticeInv.enter_desk (hi : NoticeInv u) (hn : n < 64) (hfree : u.at? n = none) {desk : Nat}
    (hx : x.source = .desk desk) : NoticeInv (u.enter n x) := by
  have hlt : n < u.notices.length := hn.trans_eq hi.notices_length.symm
  have hraised : ∀ r m y, (u.enter n x).at? m = some y → y.source = .trigger r →
      u.at? m = some y := by
    intro r m y hy hs
    rw [enter_at? hlt] at hy
    split at hy
    · obtain rfl := Option.some.inj hy
      rw [hx] at hs; cases hs
    · exact hy
  have hold : ∀ m y, u.at? m = some y → (u.enter n x).at? m = some y := by
    intro m y hy
    rw [enter_at? hlt, if_neg]
    · exact hy
    · rintro rfl
      rw [hfree] at hy; cases hy
  have hs := (hi.stacksSound rfl rfl).enter (x := x) hn hfree
  exact { hs with
    triggers_length := hi.triggers_length
    spent := fun r => (hi.spent r).trans ⟨fun ⟨m, y, hy, hsy⟩ => ⟨m, y, hold m y hy, hsy⟩,
      fun ⟨m, y, hy, hsy⟩ => ⟨m, y, hraised r m y hy hsy, hsy⟩⟩
    single := fun r m p y z hy hz hsy hsz =>
      hi.single r m p y z (hraised r m y hy hsy) (hraised r p z hz hsz) hsy hsz
    settled := hi.settled
    targets := hi.targets }

/-- A trigger that is ARMED raises its notice at a free ID and becomes SPENT; the unit stays sound
(R57, R68, R71). -/
theorem NoticeInv.raise {t : Nat} {y : Trigger} (hi : NoticeInv u) (hn : n < 64)
    (hfree : u.at? n = none) (hx : x.source = .trigger t) (ht : (u.trigger t).state = .armed)
    (hy : y = { u.trigger t with state := .spent }) :
    NoticeInv ((u.putTrigger t y).enter n x) := by
  obtain ⟨v, hv⟩ : ∃ v, v = u.putTrigger t y := ⟨_, rfl⟩
  have hvn : v.notices = u.notices := by rw [hv]; rfl
  have hlt : n < v.notices.length := hvn ▸ hn.trans_eq hi.notices_length.symm
  have htr : t < u.triggers.length := trigger_lt (by simp [ht])
  have hvat : ∀ m, v.at? m = u.at? m := fun m => by rw [hv]; rfl
  have hvt : ∀ r, (v.enter n x).trigger r = if r = t then y else u.trigger r := by
    intro r
    have h := putTrigger_trigger u t r y
    simp only [htr, and_true] at h
    rw [hv]; exact h
  have hunraised : ∀ m z, u.at? m = some z → z.source ≠ .trigger t := by
    intro m z hz hs
    rw [(hi.spent t).2 ⟨m, z, hz, hs⟩] at ht; cases ht
  have hs : (v.enter n x).StacksSound :=
    (hi.stacksSound hvn (by rw [hv]; rfl)).enter hn ((hvat n).trans hfree)
  have hat : ∀ m, (v.enter n x).at? m = if m = n then some x else u.at? m := fun m => by
    rw [enter_at? hlt, hvat]
  rw [← hv]
  refine { hs with
    triggers_length := ?_, spent := fun r => ?_, single := fun r m p a b ha hb hsa hsb => ?_,
    settled := fun r => ?_, targets := fun r g hg => ?_ }
  · rw [hv]; exact List.length_set.trans hi.triggers_length
  · rw [hvt]
    split
    · next hr =>
      subst hr
      exact ⟨fun _ => ⟨n, x, by rw [hat, if_pos rfl], hx⟩, fun _ => by rw [hy]⟩
    · next hr =>
      rw [hi.spent]
      constructor
      · rintro ⟨m, z, hz, hsz⟩
        refine ⟨m, z, ?_, hsz⟩
        rw [hat, if_neg]
        · exact hz
        · rintro rfl
          rw [hfree] at hz; cases hz
      · rintro ⟨m, z, hz, hsz⟩
        rw [hat] at hz
        split at hz
        · obtain rfl := Option.some.inj hz
          exact absurd (NoticeSource.trigger.inj (hsz.symm.trans hx)) hr
        · exact ⟨m, z, hz, hsz⟩
  · rw [hat] at ha hb
    split at ha <;> split at hb
    · next hm hp => rw [hm, hp]
    · obtain rfl := Option.some.inj ha
      exact absurd (hsb.trans (hsa.symm.trans hx)) (hunraised p b hb)
    · obtain rfl := Option.some.inj hb
      exact absurd (hsa.trans (hsb.symm.trans hx)) (hunraised m a ha)
    · exact hi.single r m p a b ha hb hsa hsb
  · rw [hvt]
    split
    · next hr =>
      have h := hi.settled t
      rw [ht] at h
      simpa [hy] using h
    · exact hi.settled r
  · rw [hvt] at hg
    split at hg
    · rw [hy] at hg; exact hi.targets t g hg
    · exact hi.targets r g hg

/-- A trigger replaced by one that is SPENT as before, and settled, keeps the unit sound (R68). -/
theorem NoticeInv.putTrigger {t : Nat} {y : Trigger} (hi : NoticeInv u)
    (hspent : y.state = .spent ↔ (u.trigger t).state = .spent)
    (hsettled : y.state = .empty ↔ y.settings = none)
    (htarget : ∀ g, y.settings = some g → g.notice < 64) : NoticeInv (u.putTrigger t y) := by
  have hs : (u.putTrigger t y).StacksSound := hi.stacksSound rfl rfl
  refine { hs with
    triggers_length := List.length_set.trans hi.triggers_length, spent := fun r => ?_,
    single := hi.single, settled := fun r => ?_, targets := fun r g hg => ?_ }
  · have hr := hi.spent r
    rw [putTrigger_trigger]
    split
    · next h => rw [hspent, ← h.1]; exact hr
    · exact hr
  · rw [putTrigger_trigger]
    split
    · exact hsettled
    · exact hi.settled r
  · rw [putTrigger_trigger] at hg
    split at hg
    · exact htarget g hg
    · exact hi.targets r g hg

end

end Sys2Proof.Machine

namespace Sys2Proof.Machine

/-! ### Timings and texts of notices -/

/-- The timing of a notice by its mode, each field clamped (R59). -/
theorem timingOf_table (p : TimingParams) :
    (p.mode = 0 → timingOf p = some .steady) ∧
    (p.mode = 1 → timingOf p = some (.timed (max 5 (min p.lifetime 3600)))) ∧
    (∀ stay : Bool, p.mode = 2 → p.endAction = (if stay = true then 1 else 0) →
      timingOf p = some (.cycle (max 1 (min p.dwell 600)) (max 1 (min p.gap 600))
        (max 1 (min p.repeats 20)) stay)) ∧
    (2 < p.mode ∨ (p.mode = 2 ∧ 1 < p.endAction) → timingOf p = none) := by
  refine ⟨fun h => ?_, fun h => ?_, fun stay h he => ?_, timingOf_none⟩
  · rw [timingOf, h]; rfl
  · rw [timingOf, h]; rfl
  · rw [timingOf, h]
    cases stay <;> simp [he, clamp]

/-- A text is read up to its first zero byte, and up to its width where none stands before (R59,
R180). -/
theorem takeText_spec (width : Nat) (bytes : List Byte) {read : Byte → Nat}
    (hread : ∀ b, read b = if 32 ≤ b.toNat ∧ b.toNat ≤ 126 then b.toNat else 63) :
    (∀ a b, bytes = a ++ 0#8 :: b → 0#8 ∉ a → a.length ≤ width →
      takeText width bytes = a.map read) ∧
    (0#8 ∉ bytes.take width → takeText width bytes = (bytes.take width).map read) := by
  obtain rfl : read = charOf := funext hread
  have hnonzero : ∀ l : List Byte, 0#8 ∉ l → ∀ c, c ∈ l → (c != 0) = true := by
    intro l hl c hc
    rw [bne_iff_ne]
    rintro rfl
    exact hl hc
  refine ⟨?_, fun h => ?_⟩
  · rintro a b rfl ha hlen
    rw [takeText, List.take_append, List.take_of_length_le hlen,
      List.takeWhile_append_of_pos (hnonzero a ha)]
    rcases width - a.length with _ | room
    · simp
    · simp
  · rw [takeText, List.takeWhile_eq_self_iff.2 (hnonzero _ h)]

/-! ### Records of the Notice Unit -/

section
variable {s : State} {q : QueuedRecord} {n : Nat} {x : Notice}

/-- A record the Notice Unit takes: the unit's answer stands in its frame, and its verdict names no
show (R62, R147). -/
theorem processingStep_notice {r : Record} (h : s.readsRecord q r) {w : NoticeUnit}
    (hown : ownRecord r s = noticeRecord { unit := w, reason := .none } s) :
    ∃ t, exec .processingStep s = .next t ∧ s.noticeFrame t ∧ t.command = s.command ∧
      t.notice = w ∧ s.intake.stepped t.intake {
        addr := q.addr, reason := .none, left := 0, state := .empty, band := .plenty } := by
  refine ⟨_, processingStep_reads h, ?_⟩
  rw [hown]
  exact ⟨rfl, rfl, rfl, answer_stepped _ _⟩

/-- A good NOTICE_POST replaces what its ID holds (R60). -/
theorem post_passed {u : NoticeUnit} {p : PostParams} {timing : Timing} (hd : p.desk ≤ 63)
    (hn : p.notice < 64) (hp : p.priority ≤ 7) (ht : timingOf p.timing = some timing) :
    u.post p = {
      unit := (u.leave p.notice).enter p.notice
        (raisedNotice (.desk p.desk) p.priority (screensOf p.screens) timing (takeText 40 p.text)),
      reason := .none } := by
  rw [NoticeUnit.post, if_neg (by simp only [Config.notices]; omega), ht]

/-- A good NOTICE_WITHDRAW takes the notice of its ID out of the table (R61). -/
theorem withdraw_passed {u : NoticeUnit} {desk : Nat} (hd : desk ≤ 63) (hn : n < 64)
    (hx : u.at? n = some x) : u.withdraw desk n = { unit := u.leave n, reason := .none } := by
  rw [NoticeUnit.withdraw, if_neg (by simp only [Config.notices]; omega), if_neg (by simp [hx])]

/-- A notice that replaces what its ID holds stands in the table in its place (R60). -/
theorem replace_eq (u : NoticeUnit) : (u.leave n).enter n x = { u with
    notices := u.notices.set n (some x)
    noticeStacks := ((u.leave n).enter n x).noticeStacks
    triggers := (u.leave n).triggers } := by
  rcases h : u.at? n with _ | y
  · rw [leave_of_none h]; rfl
  · rw [leave_of_some h, NoticeUnit.enter, List.set_set]

/-- A notice that replaces what its ID holds stands at the end of its priority class in the stack of
every screen it names, and in no other (R57, R60). -/
theorem replace_stack {u : NoticeUnit} (hi : NoticeInv u) {k : Nat} (hk : k < 12) :
    (x.screens.getLsbD k = false → ((u.leave n).enter n x).noticeStacks.getD k [] =
      (u.noticeStacks.getD k []).filter (fun m => m != n)) ∧
    (x.screens.getLsbD k = true → ∃ before after,
      (u.noticeStacks.getD k []).filter (fun m => m != n) = before ++ after ∧
      ((u.leave n).enter n x).noticeStacks.getD k [] = before ++ n :: after ∧
      (∀ m, m ∈ before → x.priority ≤ u.priorityOf m) ∧
      ∀ m, m ∈ after → u.priorityOf m < x.priority) := by
  have hil := (leave_thins hi n).sound hi
  have hstack := enter_stack (u.leave n) n x k
  rw [hil.stacks_length, leave_stack hi] at hstack
  refine ⟨fun hs => ?_, fun hs => ?_⟩
  · rw [hstack, if_neg (by simp [hs])]
  · rw [if_pos ⟨hs, hk⟩] at hstack
    have hranked := hil.ranked k
    rw [leave_stack hi] at hranked
    obtain ⟨before, after, hsplit, hins, hb, ha⟩ :=
      insertStack_split (n := n) (priority := x.priority) hranked
    have hprio : ∀ m, m ∈ before ++ after → (u.leave n).priorityOf m = u.priorityOf m := by
      intro m hm
      rw [← hsplit] at hm
      have hne : m ≠ n := by simpa using (List.mem_filter.1 hm).2
      rw [NoticeUnit.priorityOf, leave_at?, if_neg hne]; rfl
    refine ⟨before, after, hsplit, hstack.trans hins, fun m hm => ?_, fun m hm => ?_⟩
    · rw [← hprio m (List.mem_append_left _ hm)]; exact hb m hm
    · rw [← hprio m (List.mem_append_right _ hm)]; exact ha m hm

end

/-- Settles O33: the tables by their cases, and each record by the notice that leaves and, for a post,
the one that enters. -/
theorem noticeRecordsApply : Obligations.NoticeRecordsApply := by
  refine ⟨timingOf_table, fun width bytes _ hread => takeText_spec width bytes hread, ?_⟩
  intro s q n hi hn
  refine ⟨fun p timing x h hpn hd hp ht hx => ?_, fun desk x h hd hx => ?_⟩
  · subst hpn
    have hraised : raisedNotice (.desk p.desk) p.priority (screensOf p.screens) timing
        (takeText 40 p.text) = x := by
      rw [hx]; cases timing <;> rfl
    have hown : ownRecord (.noticePost p) s = noticeRecord
        { unit := (s.notice.leave p.notice).enter p.notice x, reason := .none } s := by
      rw [ownRecord, post_passed hd hn hp ht, hraised]
    obtain ⟨t, hexec, hframe, hcommand, hnotice, hverdict⟩ := processingStep_notice h hown
    refine ⟨t, hexec, hframe, hcommand, ?_, fun r => ?_, fun k hk => ?_, fun k hk => ?_, hverdict⟩
    · rw [hnotice, replace_eq]
    · rw [hnotice]; exact leave_trigger hi r
    · rw [hnotice]; exact (replace_stack hi hk).1
    · rw [hnotice]; exact (replace_stack hi hk).2
  · have hown : ownRecord (.noticeWithdraw desk n) s = noticeRecord
        { unit := s.notice.leave n, reason := .none } s := by
      rw [ownRecord, withdraw_passed hd hn hx]
    obtain ⟨t, hexec, hframe, hcommand, hnotice, hverdict⟩ := processingStep_notice h hown
    refine ⟨t, hexec, hframe, hcommand, ?_, fun r => ?_, hverdict⟩
    · rw [hnotice, leave_of_some hx]
    · rw [hnotice, leave_trigger hi, hx]
      simp

end Sys2Proof.Machine

namespace Sys2Proof.Machine

/-! ### One trigger tested -/

section
variable {u : NoticeUnit} {compose : List TemplateItem → Text} {e : TallyEvent} {t : Nat}
  {g : TriggerSettings}

/-- A trigger matches exactly when it meets the event (R71). -/
theorem matches_iff (u : NoticeUnit) (e : TallyEvent) (t : Nat) :
    (u.trigger t).matches e = true ↔ u.meets e t := by
  rw [NoticeUnit.meets, Trigger.matches]
  rcases (u.trigger t).settings with _ | g
  · simp
  · rcases hf : g.filter with _ | n <;> simp [hf]

/-- A trigger that fires meets the event. -/
theorem meets_of_fires (h : u.fires e t) : u.meets e t := h.1

/-- A trigger that meets an event stands in the table. -/
theorem meets_lt (h : u.meets e t) : t < u.triggers.length := trigger_lt (by simp [h.1])

/-- Whether a trigger meets an event depends on that trigger alone. -/
theorem meets_congr {w : NoticeUnit} (h : w.trigger t = u.trigger t) :
    w.meets e t ↔ u.meets e t := by
  rw [NoticeUnit.meets, NoticeUnit.meets, h]

/-- A trigger that does not match is passed over (R71). -/
theorem fire_passed (h : ¬ u.meets e t) :
    u.fire compose e t = { unit := u, blocked := false } := by
  rw [NoticeUnit.fire, if_neg (mt (matches_iff u e t).1 h)]

/-- A matching trigger whose notice ID is free raises its notice and becomes SPENT (R71). -/
theorem fire_raises (h : u.meets e t) (hg : (u.trigger t).settings = some g)
    (hfree : u.at? g.notice = none) : u.fire compose e t = {
      unit := (u.putTrigger t { u.trigger t with state := .spent }).enter g.notice
        (raisedNotice (.trigger t) g.priority g.screens g.timing (compose g.template)),
      blocked := false } := by
  rw [NoticeUnit.fire, if_pos ((matches_iff u e t).2 h), hg]
  exact if_pos (by rw [hfree]; rfl)

/-- A matching trigger whose notice ID is in use is blocked and counted (R71). -/
theorem fire_blocked (h : u.meets e t) (hg : (u.trigger t).settings = some g)
    (huse : u.at? g.notice ≠ none) : u.fire compose e t = {
      unit := u.putTrigger t { u.trigger t with blocked := satInc (u.trigger t).blocked },
      blocked := true } := by
  rw [NoticeUnit.fire, if_pos ((matches_iff u e t).2 h), hg]
  exact if_neg (by simpa using huse)

/-- A trigger tested keeps the unit sound. -/
theorem fire_sound (hi : NoticeInv u) (compose : List TemplateItem → Text) (e : TallyEvent)
    (t : Nat) : NoticeInv (u.fire compose e t).unit := by
  by_cases hm : u.meets e t
  · obtain ⟨harmed, g, hg, -⟩ := id hm
    by_cases hfree : u.at? g.notice = none
    · rw [fire_raises hm hg hfree]
      exact hi.raise (hi.targets t g hg) hfree rfl harmed rfl
    · rw [fire_blocked hm hg hfree]
      exact hi.putTrigger Iff.rfl (hi.settled t) (hi.targets t)
  · rw [fire_passed hm]; exact hi

/-- Triggers tested in turn, the last one after the others. -/
theorem fireEach_snoc (u : NoticeUnit) (l : List Nat) (t : Nat) :
    u.fireEach compose e (l ++ [t]) =
      { unit := ((u.fireEach compose e l).unit.fire compose e t).unit
        blocked := (u.fireEach compose e l).blocked ||
          ((u.fireEach compose e l).unit.fire compose e t).blocked } := by
  induction l generalizing u with
  | nil => simp [NoticeUnit.fireEach]
  | cons r rest ih =>
    simp only [List.cons_append, NoticeUnit.fireEach, ih, Bool.or_assoc]

end

/-! ### Triggers tested in turn -/

/-- A notice that enters is put into a stack of falling priority before every notice of lower
priority, or the stack stays (R57). -/
theorem NoticeUnit.StacksSound.enter_cases {u : NoticeUnit} (h : u.StacksSound) (n : Nat)
    (x : Notice) (k : Nat) : (u.enter n x).noticeStacks.getD k [] = u.noticeStacks.getD k [] ∨
      ∃ before after, u.noticeStacks.getD k [] = before ++ after ∧
        (u.enter n x).noticeStacks.getD k [] = before ++ n :: after ∧
        ∀ m, m ∈ after → u.priorityOf m < x.priority := by
  rw [enter_stack]
  split
  · obtain ⟨before, after, hsplit, hins, -, ha⟩ :=
      insertStack_split (n := n) (priority := x.priority) (h.ranked k)
    exact .inr ⟨before, after, hsplit, hins, ha⟩
  · exact .inl rfl

/-- A stack of notices of which each one free in `u` stands before those in use in `u` only by a
higher priority: one more ID, free in `u`, that enters it keeps that. -/
theorem NoticeUnit.StacksSound.enter_ahead {u v : NoticeUnit} (h : v.StacksSound) {n k : Nat}
    (x : Notice) (hn : n < v.notices.length) (hfree : u.at? n = none)
    (habsent : n ∉ v.noticeStacks.getD k [])
    (hprev : (v.noticeStacks.getD k []).Pairwise (fun a b =>
      (u.at? a).isNone → (u.at? b).isSome → v.priorityOf b < v.priorityOf a)) :
    ((v.enter n x).noticeStacks.getD k []).Pairwise (fun a b =>
      (u.at? a).isNone → (u.at? b).isSome →
        (v.enter n x).priorityOf b < (v.enter n x).priorityOf a) := by
  have hself : (v.enter n x).priorityOf n = x.priority := by
    rw [enter_priorityOf hn, if_pos rfl]
  have hother : ∀ m, m ∈ v.noticeStacks.getD k [] →
      (v.enter n x).priorityOf m = v.priorityOf m := by
    intro m hm
    rw [enter_priorityOf hn, if_neg]
    rintro rfl
    exact habsent hm
  have hprev := hprev.imp_of_mem (S := fun a b => (u.at? a).isNone → (u.at? b).isSome →
      (v.enter n x).priorityOf b < (v.enter n x).priorityOf a) fun {a b} ha hb hab => by
    rw [hother a ha, hother b hb]; exact hab
  rcases h.enter_cases n x k with hsame | ⟨before, after, hsplit, hins, hafter⟩
  · rw [hsame]; exact hprev
  · rw [hsplit] at hother hprev
    obtain ⟨hb, ha, hcross⟩ := List.pairwise_append.1 hprev
    rw [hins, List.pairwise_append, List.pairwise_cons]
    refine ⟨hb, ⟨fun m hm _ _ => ?_, ha⟩, fun a hma b hmb => ?_⟩
    · rw [hself, hother m (List.mem_append_right _ hm)]
      exact hafter m hm
    · rcases List.mem_cons.1 hmb with rfl | hmb
      · intro _ huse
        rw [hfree] at huse; cases huse
      · exact hcross a hma b hmb

/-- What a unit has become once the triggers below `t` have been tested against an event: each has
fired, was blocked, or was passed over, by what the unit held before the event (R71, R72). -/
structure FiredTo (u : NoticeUnit) (compose : List TemplateItem → Text) (e : TallyEvent) (t : Nat)
    (q : FireResult) : Prop where
  frame : q.unit = { u with
    notices := q.unit.notices, noticeStacks := q.unit.noticeStacks, triggers := q.unit.triggers }
  sound : NoticeInv q.unit
  later : ∀ r, t ≤ r → q.unit.trigger r = u.trigger r
  passed : ∀ r, ¬ u.meets e r → q.unit.trigger r = u.trigger r
  spent : ∀ r, r < t → u.fires e r → q.unit.trigger r = { u.trigger r with state := .spent }
  counted : ∀ r, r < t → u.meets e r → ¬ u.fires e r →
    q.unit.trigger r = { u.trigger r with blocked := satInc (u.trigger r).blocked }
  raised : ∀ r g, r < t → u.fires e r → (u.trigger r).settings = some g →
    q.unit.at? g.notice = some
      (raisedNotice (.trigger r) g.priority g.screens g.timing (compose g.template))
  kept : ∀ n, (∀ r g, r < t → u.fires e r → (u.trigger r).settings = some g → g.notice ≠ n) →
    q.unit.at? n = u.at? n
  old : ∀ k, (q.unit.noticeStacks.getD k []).filter (fun n => (u.at? n).isSome) =
    u.noticeStacks.getD k []
  ahead : ∀ k, (q.unit.noticeStacks.getD k []).Pairwise (fun n m =>
    (u.at? n).isNone → (u.at? m).isSome → q.unit.priorityOf m < q.unit.priorityOf n)
  flagged : q.blocked = true ↔ ∃ r, r < t ∧ u.meets e r ∧ ¬ u.fires e r

/-- Of the triggers that meet an event and name a free ID the lowest one fires (R71). -/
theorem lowest_fires {u : NoticeUnit} {e : TallyEvent} {n : Nat} (hfree : u.at? n = none) (r : Nat)
    {h : TriggerSettings} (hm : u.meets e r) (hr : (u.trigger r).settings = some h)
    (hn : h.notice = n) :
    ∃ p g, p ≤ r ∧ u.fires e p ∧ (u.trigger p).settings = some g ∧ g.notice = n := by
  induction r using Nat.strong_induction_on generalizing h with
  | _ r ih =>
    by_cases hlower : ∃ p g, p < r ∧ u.meets e p ∧ (u.trigger p).settings = some g ∧ g.notice = n
    · obtain ⟨p, g, hpr, hmp, hgp, hgn⟩ := hlower
      obtain ⟨p', g', hle, hrest⟩ := ih p hpr hmp hgp hgn
      exact ⟨p', g', hle.trans hpr.le, hrest⟩
    · refine ⟨r, h, le_rfl, ⟨hm, h, hr, hn ▸ hfree, fun p g hp hmp hgp hgn => ?_⟩, hr, hn⟩
      exact hlower ⟨p, g, hp, hmp, hgp, hgn.trans hn⟩

section
variable {u : NoticeUnit} {compose : List TemplateItem → Text} {e : TallyEvent} {t : Nat}
  {q : FireResult} {g : TriggerSettings}

/-- Before any trigger is tested nothing has changed. -/
theorem FiredTo.start (hi : NoticeInv u) : FiredTo u compose e 0 { unit := u, blocked := false } where
  frame := rfl
  sound := hi
  later _ _ := rfl
  passed _ _ := rfl
  spent _ h := absurd h (Nat.not_lt_zero _)
  counted _ h := absurd h (Nat.not_lt_zero _)
  raised _ _ h := absurd h (Nat.not_lt_zero _)
  kept _ _ := rfl
  old k := List.filter_eq_self.2 fun _ h => hi.in_use h
  ahead k := by
    refine List.pairwise_of_forall_mem_list fun a ha b _ hnone => ?_
    have huse := hi.in_use ha
    rw [Option.isNone_iff_eq_none.1 hnone] at huse
    cases huse
  flagged := by simp

/-- An ID in use before the event holds what it held. -/
theorem FiredTo.in_use (h : FiredTo u compose e t q) {n : Nat} {x : Notice}
    (hx : u.at? n = some x) : q.unit.at? n = some x := by
  rw [h.kept n, hx]
  rintro r g - ⟨-, g', hg', hfree, -⟩ hg rfl
  obtain rfl := Option.some.inj (hg.symm.trans hg')
  rw [hx] at hfree; cases hfree

/-- The notice ID of the next matching trigger is free exactly when that trigger fires (R71). -/
theorem FiredTo.free_iff (h : FiredTo u compose e t q) (hm : u.meets e t)
    (hg : (u.trigger t).settings = some g) :
    q.unit.at? g.notice = none ↔ u.fires e t := by
  constructor
  · intro hfree
    have hold : u.at? g.notice = none := by
      by_contra hx
      obtain ⟨x, hx⟩ := Option.ne_none_iff_exists'.1 hx
      rw [h.in_use hx] at hfree; cases hfree
    refine ⟨hm, g, hg, hold, fun r g' hr hmr hgr hsame => ?_⟩
    obtain ⟨p, f, hp, hfires, hf, hfn⟩ := lowest_fires hold r hmr hgr hsame
    rw [← hfn, h.raised p f (hp.trans_lt hr) hfires hf] at hfree
    cases hfree
  · rintro ⟨-, g', hg', hold, hlower⟩
    obtain rfl := Option.some.inj (hg.symm.trans hg')
    rw [h.kept _ fun r f hr hfires hf => hlower r f hr (meets_of_fires hfires) hf, hold]

/-- A trigger that does not match leaves all as it is. -/
theorem FiredTo.pass (h : FiredTo u compose e t q) (hm : ¬ u.meets e t) :
    FiredTo u compose e (t + 1) q := by
  have hlt : ∀ r, r < t + 1 → u.meets e r → r < t := by
    intro r hr hmr
    rcases Nat.lt_succ_iff_lt_or_eq.1 hr with hr | rfl
    · exact hr
    · exact absurd hmr hm
  exact { h with
    later := fun r hr => h.later r (by omega)
    spent := fun r hr hf => h.spent r (hlt r hr (meets_of_fires hf)) hf
    counted := fun r hr hmr hf => h.counted r (hlt r hr hmr) hmr hf
    raised := fun r g hr hf hg => h.raised r g (hlt r hr (meets_of_fires hf)) hf hg
    kept := fun n hn => h.kept n fun r g hr => hn r g (by omega)
    flagged := h.flagged.trans ⟨fun ⟨r, hr, hrest⟩ => ⟨r, by omega, hrest⟩,
      fun ⟨r, hr, hmr, hf⟩ => ⟨r, hlt r hr hmr, hmr, hf⟩⟩ }

/-- A trigger that meets the event and does not fire is counted, and the flag set (R71). -/
theorem FiredTo.block (h : FiredTo u compose e t q) (hm : u.meets e t) (hf : ¬ u.fires e t)
    {w : NoticeUnit} (hw : w = q.unit.putTrigger t
      { u.trigger t with blocked := satInc (u.trigger t).blocked }) (hs : NoticeInv w) :
    FiredTo u compose e (t + 1) { unit := w, blocked := true } := by
  have hlen : t < q.unit.triggers.length := meets_lt ((meets_congr (h.later t le_rfl)).2 hm)
  have htrig : ∀ r, w.trigger r = if r = t then
      { u.trigger t with blocked := satInc (u.trigger t).blocked } else q.unit.trigger r := by
    intro r
    rw [hw, putTrigger_trigger]
    simp only [hlen, and_true]
  have hother : ∀ r, r ≠ t → w.trigger r = q.unit.trigger r := fun r hr => by
    rw [htrig, if_neg hr]
  have hlt : ∀ r, r < t + 1 → r ≠ t → r < t := fun r hr hne => by omega
  have hne : ∀ r, u.fires e r → r ≠ t := by
    rintro r hfr rfl
    exact hf hfr
  refine ⟨?_, hs, fun r hr => ?_, fun r hmr => ?_, fun r hr hfr => ?_, fun r hr hmr hfr => ?_,
    fun r g hr hfr hg => ?_, fun n hn => ?_, ?_, ?_, ?_⟩
  · rw [hw, NoticeUnit.putTrigger, h.frame]
  · rw [hother r (by omega), h.later r (by omega)]
  · rw [hother r (by rintro rfl; exact hmr hm), h.passed r hmr]
  · rw [hother r (hne r hfr), h.spent r (hlt r hr (hne r hfr)) hfr]
  · by_cases he : r = t
    · rw [htrig, if_pos he, he]
    · rw [hother r he, h.counted r (hlt r hr he) hmr hfr]
  · rw [hw]; exact h.raised r g (hlt r hr (hne r hfr)) hfr hg
  · rw [hw]; exact h.kept n fun r g hr hfr hg => hn r g (by omega) hfr hg
  · rw [hw]; exact h.old
  · rw [hw]; exact h.ahead
  · exact iff_of_true rfl ⟨t, Nat.lt_succ_self t, hm, hf⟩

/-- A trigger that fires has raised its notice and is SPENT (R71, R72). -/
theorem FiredTo.raise (h : FiredTo u compose e t q) (hf : u.fires e t)
    (hg : (u.trigger t).settings = some g) {v w : NoticeUnit} {x : Notice}
    (hx : x = raisedNotice (.trigger t) g.priority g.screens g.timing (compose g.template))
    (hv : v = q.unit.putTrigger t { u.trigger t with state := .spent })
    (hw : w = v.enter g.notice x) (hs : NoticeInv w) :
    FiredTo u compose e (t + 1) { unit := w, blocked := q.blocked } := by
  have hm := meets_of_fires hf
  have hfree : q.unit.at? g.notice = none := (h.free_iff hm hg).2 hf
  have hold : u.at? g.notice = none := by
    obtain ⟨-, g', hg', hold, -⟩ := hf
    obtain rfl := Option.some.inj (hg.symm.trans hg')
    exact hold
  have hlen : t < q.unit.triggers.length := meets_lt ((meets_congr (h.later t le_rfl)).2 hm)
  have hvs : v.StacksSound := h.sound.stacksSound (by rw [hv]; rfl) (by rw [hv]; rfl)
  have hid : g.notice < v.notices.length := by
    have htarget := h.sound.targets t g (h.later t le_rfl ▸ hg)
    exact htarget.trans_eq hvs.notices_length.symm
  have htrig : ∀ r, w.trigger r = if r = t then { u.trigger t with state := .spent }
      else q.unit.trigger r := by
    intro r
    have hput := putTrigger_trigger q.unit t r { u.trigger t with state := .spent }
    simp only [hlen, and_true] at hput
    rw [hw, hv]; exact hput
  have hat : ∀ n, w.at? n = if n = g.notice then some x else q.unit.at? n := by
    intro n
    rw [hw, enter_at? hid, hv]; rfl
  have hother : ∀ r, r ≠ t → w.trigger r = q.unit.trigger r := fun r hr => by
    rw [htrig, if_neg hr]
  have hlt : ∀ r, r < t + 1 → r ≠ t → r < t := fun r hr hne => by omega
  refine ⟨?_, hs, fun r hr => ?_, fun r hmr => ?_, fun r hr hfr => ?_, fun r hr hmr hfr => ?_,
    fun r f hr hfr hfs => ?_, fun n hn => ?_, fun k => ?_, fun k => ?_, ?_⟩
  · rw [hw, NoticeUnit.enter, hv, NoticeUnit.putTrigger, h.frame]
  · rw [hother r (by omega), h.later r (by omega)]
  · rw [hother r (by rintro rfl; exact hmr hm), h.passed r hmr]
  · by_cases he : r = t
    · rw [htrig, if_pos he, he]
    · rw [hother r he, h.spent r (hlt r hr he) hfr]
  · have he : r ≠ t := by
      rintro rfl
      exact hfr hf
    rw [hother r he, h.counted r (hlt r hr he) hmr hfr]
  · rw [hat]
    by_cases he : r = t
    · subst he
      obtain rfl := Option.some.inj (hg.symm.trans hfs)
      rw [if_pos rfl, hx]
    · have hraised := h.raised r f (hlt r hr he) hfr hfs
      rw [if_neg, hraised]
      intro hsame
      rw [hsame, hfree] at hraised; cases hraised
  · rw [hat, if_neg (hn t g (Nat.lt_succ_self t) hf hg).symm]
    exact h.kept n fun r f hr => hn r f (by omega)
  · have hcases := hvs.enter_cases g.notice x k
    rw [← hw, show v.noticeStacks = q.unit.noticeStacks by rw [hv]; rfl] at hcases
    rw [← h.old k]
    rcases hcases with hsame | ⟨before, after, hsplit, hins, -⟩
    · rw [hsame]
    · rw [hins, hsplit]
      simp [hold]
  · rw [hw]
    refine hvs.enter_ahead x hid hold (fun hmem => ?_) (by rw [hv]; exact h.ahead k)
    have huse := h.sound.in_use (k := k) (n := g.notice) (by rw [hv] at hmem; exact hmem)
    rw [hfree] at huse; cases huse
  · refine h.flagged.trans ⟨fun ⟨r, hr, hrest⟩ => ⟨r, by omega, hrest⟩, ?_⟩
    rintro ⟨r, hr, hmr, hfr⟩
    refine ⟨r, hlt r hr ?_, hmr, hfr⟩
    rintro rfl
    exact hfr hf

/-- The next trigger tested (R71). -/
theorem FiredTo.step (h : FiredTo u compose e t q) :
    FiredTo u compose e (t + 1)
      { unit := (q.unit.fire compose e t).unit
        blocked := q.blocked || (q.unit.fire compose e t).blocked } := by
  have hs := fire_sound h.sound compose e t
  have hsame := h.later t le_rfl
  have hmeets := meets_congr (e := e) hsame
  by_cases hm : u.meets e t
  · obtain ⟨g, hg⟩ : ∃ g, (u.trigger t).settings = some g := hm.2.imp fun _ hh => hh.1
    have hg' : (q.unit.trigger t).settings = some g := hsame ▸ hg
    by_cases hf : u.fires e t
    · have hfire := fire_raises (compose := compose) (hmeets.2 hm) hg' ((h.free_iff hm hg).2 hf)
      rw [hfire, hsame] at hs ⊢
      rw [Bool.or_false]
      exact h.raise hf hg rfl rfl rfl hs
    · have hfire := fire_blocked (compose := compose) (hmeets.2 hm) hg'
        (mt (h.free_iff hm hg).1 hf)
      rw [hfire, hsame] at hs ⊢
      rw [Bool.or_true]
      exact h.block hm hf rfl hs
  · rw [fire_passed (mt hmeets.1 hm), Bool.or_false]
    exact h.pass hm

/-- All triggers below `t` tested in trigger-number order (R71). -/
theorem fireEach_firedTo (hi : NoticeInv u) (compose : List TemplateItem → Text) (e : TallyEvent)
    (t : Nat) : FiredTo u compose e t (u.fireEach compose e (List.range t)) := by
  induction t with
  | zero => exact .start hi
  | succ t ih =>
    rw [List.range_succ, fireEach_snoc]
    exact ih.step

end

/-- A counter that stops at 65,535 has risen by one, or stands (00_scope.md, Conventions). -/
theorem satInc_eq (n : Nat) : satInc n = min (n + 1) (max n 65535) := by
  unfold satInc Config.counterTop
  split <;> omega

/-- Settles O12: the unit after all triggers are tested is what `FiredTo` says, and the cause is set
exactly when one was blocked. -/
theorem tallyEventsFireTriggers : Obligations.TallyEventsFireTriggers := by
  intro s e rest hr hq hi
  obtain ⟨u, hu⟩ : ∃ u, u = { s.notice with inbox := rest } := ⟨_, rfl⟩
  have hiu : NoticeInv u := hi.of_tables (hu ▸ rfl)
  obtain ⟨compose, hcompose⟩ : ∃ compose,
    compose = templateText s.board.words u s.clock.origin (s.tally.entry e.showNo) := ⟨_, rfl⟩
  have hfired := fireEach_firedTo hiu compose e Config.triggers
  have hexec : exec .noticeTallyEvent s =
      .next (noticeTally e (s.withNotice u)) := by
    change whenRunning takeNoticeEvent s = _
    rw [whenRunning_runs hr, takeNoticeEvent, hq, hu]
  have htally : noticeTally e (s.withNotice u) =
      if (u.fireEach compose e (List.range Config.triggers)).blocked = true then
        ((s.withNotice u).noticeDone
          (u.fireEach compose e (List.range Config.triggers)).unit).raise .triggerBlocked
      else (s.withNotice u).noticeDone
        (u.fireEach compose e (List.range Config.triggers)).unit := by
    rw [hcompose]; rfl
  generalize u.fireEach compose e (List.range Config.triggers) = q at hfired htally
  have hlt : ∀ r, u.meets e r → r < Config.triggers := fun r hm =>
    (meets_lt hm).trans_eq hiu.triggers_length
  obtain ⟨t, ht⟩ : ∃ t, t = noticeTally e (s.withNotice u) := ⟨_, rfl⟩
  have hframe : s.noticeFrame t ∧ t.intake = s.intake ∧ t.notice = q.unit := by
    have hsame := handOns_congr (u := s.notice) (v := u) (hu ▸ rfl) q.unit
    rw [ht, htally, State.noticeFrame]
    split <;> simp [State.noticeDone, State.raise, State.withCommand, State.withNotice, hsame]
  have hcommand : t.command = if q.blocked = true then
      { s.command with causes := s.command.causes ||| 2048#12 } else s.command := by
    rw [ht, htally]
    split <;> rfl
  obtain ⟨hframe, hintake, hnotice⟩ := hframe
  refine ⟨t, ht ▸ hexec, hframe, hintake, ?_⟩
  rw [hnotice]
  subst hu hcompose
  refine ⟨hfired.frame, hfired.passed, fun r hf => hfired.spent r (hlt r (meets_of_fires hf)) hf,
    fun r hm hf => ?_, fun r g hf hg => ?_,
    fun n hn => hfired.kept n fun r g _ hf hg => hn r g hf hg, hfired.old, hfired.ahead,
    hfired.sound, fun ⟨r, hm, hf⟩ => ?_, fun hall => ?_⟩
  · rw [hfired.counted r (hlt r hm) hm hf, satInc_eq]; rfl
  · rw [hfired.raised r g (hlt r (meets_of_fires hf)) hf hg]
    rw [raisedNotice]
    rcases g.timing with _ | lifetime | ⟨dwell, gap, repeats, stay⟩ <;> rfl
  · rw [hcommand, if_pos (hfired.flagged.2 ⟨r, hlt r hm, hm, hf⟩)]
  · rw [hcommand, if_neg]
    intro hb
    obtain ⟨r, -, hm, hf⟩ := hfired.flagged.1 hb
    exact hf (hall r hm)

end Sys2Proof.Machine

namespace Sys2Proof.Machine

/-! ### A trigger written -/

section
variable {u : NoticeUnit} {t : Nat}

/-- The notice of a SPENT trigger is found by its source (R68). -/
theorem raisedBy_spec (hi : NoticeInv u) {n : Nat} {x : Notice} (hx : u.at? n = some x)
    (hs : x.source = .trigger t) : u.raisedBy t = some n := by
  have hn : n ∈ List.range Config.notices :=
    List.mem_range.2 ((at?_lt hx).trans_eq hi.notices_length)
  have hsome : (u.raisedBy t).isSome = true := by
    rw [NoticeUnit.raisedBy, List.find?_isSome]
    exact ⟨n, hn, by simp [hx, hs]⟩
  obtain ⟨m, hm⟩ := Option.isSome_iff_exists.1 hsome
  have hfound := List.find?_some hm
  rcases hy : u.at? m with _ | y
  · simp [hy] at hfound
  · have hsy : y.source = .trigger t := by simpa [hy] using hfound
    rw [hm, hi.single t m n y x hy hx hsy hs]

/-- The notice a trigger raised has left, where there was one (R69, R70). -/
theorem withdrawRaised_cases (hi : NoticeInv u) (t : Nat) :
    ((u.trigger t).state ≠ .spent ∧ u.withdrawRaised t = u) ∨
      ∃ n x, u.at? n = some x ∧ x.source = .trigger t ∧ u.withdrawRaised t = u.leave n := by
  rw [NoticeUnit.withdrawRaised]
  split
  · next hspent =>
    obtain ⟨n, x, hx, hs⟩ := (hi.spent t).1 hspent
    rw [raisedBy_spec hi hx hs]
    exact .inr ⟨n, x, hx, hs, rfl⟩
  · next hspent => exact .inl ⟨hspent, rfl⟩

/-- When the notice a trigger raised leaves, the unit thins. -/
theorem withdrawRaised_thins (hi : NoticeInv u) (t : Nat) : u.ThinsTo (u.withdrawRaised t) := by
  rcases withdrawRaised_cases hi t with ⟨-, h⟩ | ⟨n, x, -, -, h⟩
  · rw [h]; exact .refl hi
  · rw [h]; exact leave_thins hi n

/-- After the notice a trigger raised has left, the others stand (R69, R70). -/
theorem withdrawRaised_at? (hi : NoticeInv u) {n : Nat} {x : Notice} (hx : u.at? n = some x) :
    (u.withdrawRaised t).at? n = if x.source = .trigger t then none else some x := by
  rcases withdrawRaised_cases hi t with ⟨hspent, h⟩ | ⟨m, y, hy, hs, h⟩
  · rw [h, hx, if_neg fun hs => hspent ((hi.spent t).2 ⟨n, x, hx, hs⟩)]
  · rw [h, leave_at?]
    split
    · next hn =>
      subst hn
      obtain rfl := Option.some.inj (hx.symm.trans hy)
      rw [if_pos hs]
    · next hn => rw [hx, if_neg fun hsx => hn (hi.single t n m x y hx hy hsx hs)]

/-- A trigger whose notice has left is SPENT no more (R73). -/
theorem withdrawRaised_unspent (hi : NoticeInv u) (t : Nat) :
    ((u.withdrawRaised t).trigger t).state ≠ .spent := by
  have hs := (withdrawRaised_thins hi t).sound hi
  rw [Ne, hs.spent]
  rintro ⟨n, y, hy, hsy⟩
  obtain ⟨x, hx, hsx, -⟩ := (withdrawRaised_thins hi t).was hy
  rw [withdrawRaised_at? hi hx, if_pos (hsx.symm.trans hsy)] at hy
  cases hy

/-- A trigger written, ARMED or EMPTY, after its notice has left keeps the unit sound (R69, R70). -/
theorem rewrite_sound (hi : NoticeInv u) {y : Trigger} (hy : y.state ≠ .spent)
    (hsettled : y.state = .empty ↔ y.settings = none)
    (htarget : ∀ g, y.settings = some g → g.notice < 64) :
    NoticeInv ((u.withdrawRaised t).putTrigger t y) :=
  ((withdrawRaised_thins hi t).sound hi).putTrigger
    (iff_of_false hy (withdrawRaised_unspent hi t)) hsettled htarget

/-- Settings that pass the tests of R69 name a notice of the table. -/
theorem triggerSettingsOf_target {p : TriggerParams} {g : TriggerSettings}
    (h : triggerSettingsOf p u = some g) : g.notice < 64 := by
  unfold triggerSettingsOf at h
  split at h
  · cases h
  · split at h
    · cases h
    · split_ifs at h with _ hn
      split at h
      · split_ifs at h
        cases h
        exact Nat.lt_of_not_le hn
      · cases h

end

/-! ### The events of the Notice Unit keep it sound -/

section
variable {u : NoticeUnit}

/-- Triggers tested in turn keep the unit sound. -/
theorem fireEach_sound (hi : NoticeInv u) (compose : List TemplateItem → Text) (e : TallyEvent)
    (l : List Nat) : NoticeInv (u.fireEach compose e l).unit := by
  induction l generalizing u with
  | nil => exact hi
  | cons t rest ih => exact ih (fire_sound hi compose e t)

theorem post_sound (hi : NoticeInv u) (p : PostParams) : NoticeInv (u.post p).unit := by
  unfold NoticeUnit.post
  split
  · exact hi
  · next h =>
    split
    · exact hi
    · refine NoticeInv.enter_desk ((leave_thins hi p.notice).sound hi) ?_ ?_ rfl
      · simp only [Config.notices] at h; omega
      · rw [leave_at?, if_pos rfl]

theorem withdraw_sound (hi : NoticeInv u) (desk n : Nat) :
    NoticeInv (u.withdraw desk n).unit := by
  unfold NoticeUnit.withdraw
  split_ifs
  · exact hi
  · exact hi
  · exact (leave_thins hi n).sound hi

/-- The unit is sound after a WARM_RESET: no notice, and no trigger SPENT (R56, R68). -/
theorem notice_warmReset_sound (hi : NoticeInv u) : NoticeInv u.warmReset := by
  have hat : ∀ n, u.warmReset.at? n = none := join_replicate_none Config.notices
  have hstack : ∀ k, u.warmReset.noticeStacks.getD k [] = [] := getD_replicate_self _ _
  have htrig : ∀ r, u.warmReset.trigger r = (u.trigger r).warmReset := fun r =>
    getD_map Trigger.warmReset u.triggers r { state := .empty, settings := none, blocked := 0 }
  have hstate : ∀ r, ((u.trigger r).warmReset).state =
      if (u.trigger r).state = .empty then .empty else .armed := fun _ => rfl
  exact {
    notices_length := List.length_replicate
    stacks_length := List.length_replicate
    triggers_length := (List.length_map _).trans hi.triggers_length
    stacked := fun k _ n => by simp only [hstack, hat]; simp
    once := fun k => by rw [hstack]; exact List.nodup_nil
    ranked := fun k => by rw [hstack]; exact List.Pairwise.nil
    spent := fun r => by
      rw [htrig, hstate]
      simp only [hat]
      split <;> simp
    single := fun t n m x y h => by rw [hat] at h; cases h
    settled := fun r => by
      rw [htrig, hstate]
      refine Iff.trans ?_ (hi.settled r)
      split <;> simp [*]
    targets := fun r g hg => hi.targets r g (by rw [htrig] at hg; exact hg) }

end

section
variable {s : State}

theorem takeNoticeTick_sound (hi : NoticeInv s.notice) : NoticeInv (takeNoticeTick s).notice := by
  unfold takeNoticeTick
  split
  · have hi' : NoticeInv { s.notice with tickWaiting := false } := hi.of_tables rfl
    rw [State.noticeDone_notice]
    exact (tick_thins hi').sound hi'
  · exact hi

/-- A tally event leaves the Notice Unit as its triggers, tested in turn, do (R71). -/
theorem noticeTally_notice (e : TallyEvent) (s : State) : (noticeTally e s).notice =
    (s.notice.fireEach
      (templateText s.board.words s.notice s.clock.origin (s.tally.entry e.showNo)) e
      (List.range Config.triggers)).unit := by
  simp only [noticeTally]
  split <;> simp

theorem takeNoticeEvent_sound (hi : NoticeInv s.notice) : NoticeInv (takeNoticeEvent s).notice := by
  unfold takeNoticeEvent
  split
  · next e rest _ =>
    have hi' : NoticeInv { s.notice with inbox := rest } := hi.of_tables rfl
    rw [noticeTally_notice, State.withNotice_notice]
    exact fireEach_sound hi' _ _ _
  · exact hi

end

/-! ### What leaves the Notice Unit alone -/

section
variable (s : State)

@[simp] theorem State.refuse_notice (code tag : Nat) (status : Status) :
    (s.refuse code tag status).notice = s.notice := rfl
@[simp] theorem State.answer_notice (code tag : Nat) (result : List Byte) :
    (s.answer code tag result).notice = s.notice := rfl
@[simp] theorem State.derive_notice (reached : Source → Bool) :
    (s.derive reached).notice = s.notice := rfl
@[simp] theorem State.applyTop_notice (h : TopHandOn) : (s.applyTop h).notice = s.notice := by
  rw [State.applyTop, State.derive_notice, State.withPatch_notice]
@[simp] theorem boardRecompute_notice : (boardRecompute s).notice = s.notice := rfl
@[simp] theorem State.commitAll_notice : s.commitAll.notice = s.notice := by
  rw [State.commitAll, State.withPatch_notice]
@[simp] theorem State.raiseAll_notice (l : List Cause) : (s.raiseAll l).notice = s.notice := by
  rw [raiseAll_eq]; rfl
@[simp] theorem State.applyTops_notice (l : List TopHandOn) :
    (s.applyTops l).notice = s.notice := by
  induction l generalizing s with
  | nil => rfl
  | cons h rest ih => rw [State.applyTops, ih, State.applyTop_notice]
@[simp] theorem settleTops_notice : (settleTops s).notice = s.notice := by simp [settleTops]

/-- Events handed on reach the inbox of the Notice Unit and none of its tables (R8). -/
@[simp] theorem State.tallyDone_tables (u : TallyUnit) (out : List BoardEvent) :
    (s.tallyDone u out).notice.tables = s.notice.tables := rfl

/-! ### The units' own events -/

theorem takeFromTally_notice : (takeFromTally s).notice = s.notice := by
  unfold takeFromTally; split <;> rfl
theorem takeFromBoard_notice : (takeFromBoard s).notice = s.notice := by
  unfold takeFromBoard; split <;> simp
theorem takeFromNotice_notice : (takeFromNotice s).notice = s.notice := by
  unfold takeFromNotice; split <;> simp
theorem takeClockCells_notice : (takeClockCells s).notice = s.notice := by
  unfold takeClockCells; split <;> rfl
theorem takeBoardEvent_notice : (takeBoardEvent s).notice = s.notice := by
  unfold takeBoardEvent; split <;> rfl
theorem takeBoardMinute_notice : (takeBoardMinute s).notice = s.notice := by
  unfold takeBoardMinute; split <;> rfl
theorem takeDwell_notice (k : Nat) : (takeDwell k s).notice = s.notice := by
  unfold takeDwell
  split
  · rfl
  · split <;> rfl
theorem takeFlagHandOn_notice : (takeFlagHandOn s).notice = s.notice := by
  unfold takeFlagHandOn; split <;> rfl
theorem takeRetry_notice (k : Nat) : (takeRetry k s).notice = s.notice := by
  unfold takeRetry; split <;> rfl
theorem takeLoadDone_notice : (takeLoadDone s).notice = s.notice := by
  unfold takeLoadDone
  split
  · split
    · split <;> simp
    · rfl
  · rfl
theorem takeDrainEnd_notice : (takeDrainEnd s).notice = s.notice := by
  unfold takeDrainEnd; split <;> rfl
theorem settleRetries_notice (n : Nat) : (settleRetries n s).notice = s.notice := by
  induction n generalizing s with
  | zero => rfl
  | succ n ih => rw [settleRetries, ih, takeRetry_notice]
theorem settleDwells_notice (n : Nat) : (settleDwells n s).notice = s.notice := by
  induction n generalizing s with
  | zero => rfl
  | succ n ih => rw [settleDwells, ih, takeDwell_notice]
theorem takeMinute_tables : (takeMinute s).notice.tables = s.notice.tables := by
  unfold takeMinute
  split
  · exact State.tallyDone_tables ..
  · rfl
theorem takeExpiry_tables : (takeExpiry s).notice.tables = s.notice.tables := by
  unfold takeExpiry
  split
  · exact State.tallyDone_tables ..
  · rfl
theorem takeSecond_tables : (takeSecond s).notice.tables = s.notice.tables := by
  simp only [takeSecond]
  split <;> split <;> rfl

/-! ### The commands of the other units -/

theorem cmdSetMode_notice (tag mode : Nat) : (cmdSetMode tag mode s).notice = s.notice := by
  unfold cmdSetMode; split <;> rfl
theorem cmdSetClock_tables (tag minute second : Nat) :
    (cmdSetClock tag minute second s).notice.tables = s.notice.tables := by
  unfold cmdSetClock; split <;> rfl
theorem cmdDayStart_tables (tag minute origin : Nat) :
    (cmdDayStart tag minute origin s).notice.tables = s.notice.tables := by
  unfold cmdDayStart; split <;> rfl
theorem cmdSetIntake_notice (tag : Nat) (p : IntakeParams) :
    (cmdSetIntake tag p s).notice = s.notice := by
  unfold cmdSetIntake; split_ifs <;> rfl
theorem cmdSetTally_tables (tag : Nat) (p : TallyParams) :
    (cmdSetTally tag p s).notice.tables = s.notice.tables := by
  simp only [cmdSetTally]
  rw [State.answer_notice, State.tallyDone_tables]
theorem cmdSetWords_notice (tag : Nat) (words : List Nat) :
    (cmdSetWords tag words s).notice = s.notice := by
  unfold cmdSetWords; split <;> rfl
theorem cmdSetView_notice (tag : Nat) (p : ViewParams) :
    (cmdSetView tag p s).notice = s.notice := by
  unfold cmdSetView
  split
  · rfl
  · split <;> simp
/-- SET_SEGMENT writes the segment store and none of the tables (R67). -/
theorem cmdSetSegment_tables (tag segment : Nat) (text : List Byte) :
    (cmdSetSegment tag segment text s).notice.tables = s.notice.tables := by
  unfold cmdSetSegment; split_ifs <;> rfl
theorem cmdClearCauses_notice (tag mask : Nat) : (cmdClearCauses tag mask s).notice = s.notice := by
  unfold cmdClearCauses; split <;> rfl
theorem cmdInspect_notice (tag kind index : Nat) :
    (cmdInspect tag kind index s).notice = s.notice := by
  unfold cmdInspect; split <;> rfl
theorem cmdSetSurface_notice (tag : Nat) (p : SurfaceParams) :
    (cmdSetSurface tag p s).notice = s.notice := by
  unfold cmdSetSurface; split_ifs <;> rfl
theorem cmdSetCell_notice (tag : Nat) (p : CellParams) :
    (cmdSetCell tag p s).notice = s.notice := by
  unfold cmdSetCell; split <;> rfl
theorem cmdClearCell_notice (tag cell : Nat) : (cmdClearCell tag cell s).notice = s.notice := by
  unfold cmdClearCell; split <;> rfl
theorem cmdLoadGlyphs_notice (tag set source sum : Nat) :
    (cmdLoadGlyphs tag set source sum s).notice = s.notice := by
  unfold cmdLoadGlyphs; split_ifs <;> rfl
theorem cmdSetPane_notice (tag : Nat) (p : PaneParams) :
    (cmdSetPane tag p s).notice = s.notice := by
  unfold cmdSetPane
  split_ifs
  any_goals rfl
  split <;> rfl
theorem cmdSetPlaylist_notice (tag pane first count : Nat) (entries : List EntryParams) :
    (cmdSetPlaylist tag pane first count entries s).notice = s.notice := by
  unfold cmdSetPlaylist; split_ifs <;> rfl
theorem cmdPlayStart_notice (tag pane entry now : Nat) :
    (cmdPlayStart tag pane entry now s).notice = s.notice := by
  unfold cmdPlayStart
  split
  · rfl
  · split <;> rfl
theorem State.resumed_notice (pane : Nat) (r : PlayResult) :
    (s.resumed pane r).notice = s.notice := by
  simp only [State.resumed]; split <;> rfl
theorem cmdPlayResume_notice (tag pane : Nat) : (cmdPlayResume tag pane s).notice = s.notice := by
  unfold cmdPlayResume
  split
  · rfl
  · split
    · rfl
    · rfl
    · exact State.resumed_notice ..
theorem cmdPlayStop_notice (tag pane : Nat) : (cmdPlayStop tag pane s).notice = s.notice := by
  unfold cmdPlayStop; split <;> rfl
theorem cmdPaneClear_notice (tag pane : Nat) : (cmdPaneClear tag pane s).notice = s.notice := by
  unfold cmdPaneClear; split <;> rfl

/-! ### Requests, responses and grants -/

theorem scanRead_notice (k : Nat) (r : Request) : (scanRead k r s).notice = s.notice := by
  simp only [scanRead]; split <;> rfl
theorem frameStart_notice (k : Nat) : (frameStart k s).notice = s.notice := by simp [frameStart]
theorem takeRead_notice (r : Request) : (takeRead r s).notice = s.notice := by
  unfold takeRead
  split
  · rfl
  · split
    · rfl
    · split
      · rw [scanRead_notice, frameStart_notice]
      · exact scanRead_notice ..
theorem takeWrite_notice (a : Nat) (full : Bool) (data : Line) :
    (takeWrite a full data s).notice = s.notice := by
  unfold takeWrite
  split
  · simp [takeIntake]
  · split
    · simp [takeMarker]
    · rfl
theorem State.returnRead_notice (t : Tracked) : (s.returnRead t).notice = s.notice := by
  unfold State.returnRead; split <;> rfl
theorem State.countLate_notice (t : Tracked) : (s.countLate t).notice = s.notice := by
  unfold State.countLate; split <;> rfl
theorem returnData_notice (e : InFlight) (data : Line) :
    (returnData e data s).notice = s.notice := by
  simp [returnData, State.returnRead_notice, State.countLate_notice]
theorem returnError_notice (e : InFlight) : (returnError e s).notice = s.notice := by
  simp [returnError, State.returnRead_notice]
theorem grantStream_notice (run : Nat) : (grantStream run s).notice = s.notice := by
  unfold grantStream; split <;> rfl
theorem grantVerdict_notice (own : Nat) : (grantVerdict own s).notice = s.notice := by
  unfold grantVerdict; split <;> rfl
theorem grantGlyph_notice (own : Nat) : (grantGlyph own s).notice = s.notice := by
  unfold grantGlyph; split <;> rfl
theorem grantOwn_notice (own : Nat) : (grantOwn own s).notice = s.notice := by
  simp only [grantOwn]
  split
  · rw [grantVerdict_notice]; rfl
  · rw [grantGlyph_notice]; rfl
theorem grant_notice (own : Nat) : (grant own s).notice = s.notice := by
  unfold grant
  split_ifs
  all_goals simp only [grantOwn_notice, grantStream_notice]

end

theorem takeResponse_notice {r : Response} {s t : State} (h : takeResponse r s = .next t) :
    t.notice = s.notice := by
  unfold takeResponse at h
  split_ifs at h
  · unfold verdictResponse at h
    split at h
    · split at h <;> cases h
      rfl
    · cases h; simp
    · cases h; simp
  · unfold loaderResponse at h
    split at h <;> cases h
    rfl
  · unfold playerResponse at h
    split at h
    · cases h; rfl
    · split at h <;> cases h
      · exact returnData_notice ..
      · exact returnError_notice ..

/-! ### Every command keeps the Notice Unit sound -/

section
variable {s : State}

/-- A seconds tick settles the tick event that waits and hands on its own (R63, R164). -/
theorem secondsTick_noticeSound (hi : NoticeInv s.notice) : NoticeInv (secondsTick s).notice := by
  unfold secondsTick
  split
  · exact hi
  · refine NoticeInv.of_tables ?_ (takeSecond_tables _)
    unfold settleTick
    rw [takeClockCells_notice, settleRetries_notice]
    refine takeNoticeTick_sound ?_
    rw [takeBoardMinute_notice, settleDwells_notice]
    exact (hi.of_tables (takeExpiry_tables s)).of_tables (takeMinute_tables _)

theorem ownRecord_noticeSound (hi : NoticeInv s.notice) (r : Record) :
    NoticeInv (ownRecord r s).state.notice := by
  unfold ownRecord
  split
  case h_1 p => exact post_sound hi p
  case h_2 desk n => exact withdraw_sound hi desk n
  all_goals exact hi.of_tables rfl

theorem processStep_noticeSound (hi : NoticeInv s.notice) : NoticeInv (processStep s).notice := by
  unfold processStep
  split
  · exact hi
  · split
    · rw [State.withIntake_notice]
      unfold applyRecord
      split
      · exact hi
      · split
        · exact hi
        · exact ownRecord_noticeSound hi _
    · exact hi

theorem cmdSetTrigger_sound (hi : NoticeInv s.notice) (tag : Nat) (p : TriggerParams) :
    NoticeInv (cmdSetTrigger tag p s).notice := by
  unfold cmdSetTrigger
  split
  · exact hi
  · next g hg =>
    rw [State.answer_notice, settleTops_notice, State.noticeDone_notice]
    refine rewrite_sound hi (by simp) (by simp) fun f hf => ?_
    obtain rfl := Option.some.inj hf
    exact triggerSettingsOf_target hg

theorem cmdClearTrigger_sound (hi : NoticeInv s.notice) (tag trigger : Nat) :
    NoticeInv (cmdClearTrigger tag trigger s).notice := by
  unfold cmdClearTrigger
  split
  · exact hi
  · rw [State.answer_notice, settleTops_notice, State.noticeDone_notice]
    exact rewrite_sound hi (by simp) (by simp) (by simp)

/-- WARM_RESET leaves the Notice Unit as its own reset does. -/
theorem cmdWarmReset_notice (s : State) (tag : Nat) :
    (cmdWarmReset tag s).notice = s.notice.warmReset := by
  rw [cmdWarmReset, State.answer_notice, State.commitAll_notice, State.derive_notice]
  rfl

/-- Every command line keeps the Notice Unit sound. -/
theorem runCommand_noticeSound (hi : NoticeInv s.notice) (c : Instr) :
    NoticeInv (runCommand c s).notice := by
  unfold runCommand
  split
  case h_2 => exact cmdWarmReset_notice s _ ▸ notice_warmReset_sound hi
  case h_14 => exact cmdSetTrigger_sound hi ..
  case h_15 => exact cmdClearTrigger_sound hi ..
  case h_3 => exact hi.of_tables (cmdSetClock_tables ..)
  case h_4 => exact hi.of_tables (cmdDayStart_tables ..)
  case h_6 => exact hi.of_tables (cmdSetTally_tables ..)
  case h_13 => exact hi.of_tables (cmdSetSegment_tables ..)
  case h_1 => rwa [cmdSetMode_notice]
  case h_5 => rwa [cmdSetIntake_notice]
  case h_7 => rwa [cmdSetWords_notice]
  case h_8 => rwa [cmdSetView_notice]
  case h_9 => rwa [cmdSetSurface_notice]
  case h_10 => rwa [cmdSetCell_notice]
  case h_11 => rwa [cmdClearCell_notice]
  case h_12 => rwa [cmdLoadGlyphs_notice]
  case h_16 => rwa [cmdSetPane_notice]
  case h_17 => rwa [cmdSetPlaylist_notice]
  case h_18 => rwa [cmdPlayStart_notice]
  case h_19 => rwa [cmdPlayResume_notice]
  case h_20 => rwa [cmdPlayStop_notice]
  case h_21 => rwa [cmdPaneClear_notice]
  case h_23 => rwa [cmdClearCauses_notice]
  case h_24 => rwa [cmdInspect_notice]
  all_goals exact hi

/-- A request taken keeps the Notice Unit sound, a command line included (R157, R171). -/
theorem recognise_noticeSound (hi : NoticeInv s.notice) (r : Request) :
    NoticeInv (recognise r s).notice := by
  unfold recognise
  split_ifs
  · unfold takeAnchor
    split
    · split
      · rw [State.forward_notice]
        unfold takeCommand
        split_ifs
        · exact hi
        · exact hi
        · split
          · exact hi
          · exact runCommand_noticeSound hi _
      · exact hi
    · split <;> exact hi
  · exact hi
  · split
    · rwa [takeRead_notice]
    · rwa [State.forward_notice, takeWrite_notice]

theorem takeOldest_noticeSound (hi : NoticeInv s.notice) {t : State}
    (h : takeOldest s = .next t) : NoticeInv t.notice := by
  unfold takeOldest at h
  split at h
  · cases h; exact hi
  · split at h
    · cases h; exact hi
    · unfold takeRequest at h
      split_ifs at h <;> cases h
      · exact hi
      · exact recognise_noticeSound (by exact hi) _

end

/-- Every command keeps the Notice Unit sound. -/
theorem exec_notice_sound {c : Instr} {s t : State} (hi : NoticeInv s.notice)
    (h : exec c s = .next t) : NoticeInv t.notice := by
  have sound : ∀ {f : State → State}, whenRunning f s = .next t → NoticeInv (f s).notice →
      NoticeInv t.notice := fun h hf =>
    whenRunning_keeps (P := fun u => NoticeInv u.notice) h hi hf
  have keeps : ∀ {f : State → State}, whenRunning f s = .next t → (f s).notice = s.notice →
      NoticeInv t.notice := fun h hf => sound h (hf ▸ hi)
  have may : ∀ {f : State → Host.Outcome State Fault Refusal}, unlessReset f s = .next t →
      (f s = .next t → NoticeInv t.notice) → NoticeInv t.notice := fun h hf =>
    unlessReset_keeps (P := fun u => NoticeInv u.notice) h hi hf
  have line : ∀ {c : Instr}, whenRunning (runCommand c) s = .next t → NoticeInv t.notice :=
    fun h => sound h (runCommand_noticeSound hi _)
  cases c with
  | resetRelease straps => cases h; exact notice_powerOn_sound
  | resetAssert => cases h; exact hi
  | millisecondTick => exact keeps h rfl
  | secondsTick => exact sound h (secondsTick_noticeSound hi)
  | changeOfMinute => exact sound h (hi.of_tables (takeMinute_tables s))
  | boardMinuteRecompute => exact keeps h (takeBoardMinute_notice s)
  | clockCellUpdate => exact keeps h (takeClockCells_notice s)
  | holdExpiry => exact sound h (hi.of_tables (takeExpiry_tables s))
  | dwellExpiry view => exact keeps h (takeDwell_notice s view)
  | timedNoticeExpiry => exact sound h (takeNoticeTick_sound hi)
  | cyclePhaseExpiry => exact sound h (takeNoticeTick_sound hi)
  | retryTimerExpiry pane => exact keeps h (takeRetry_notice s pane)
  | idleTimerExpiry surface =>
    exact keeps (f := fun u => u.withPatch (u.patch.idleExpiry surface)) h rfl
  | boardTallyEvent => exact keeps h (takeBoardEvent_notice s)
  | noticeTallyEvent => exact sound h (takeNoticeEvent_sound hi)
  | paneTallyEvent => exact keeps h rfl
  | patchSourceChange source =>
    cases source with
    | tally => exact keeps h (takeFromTally_notice s)
    | board => exact keeps h (takeFromBoard_notice s)
    | notice => exact keeps h (takeFromNotice_notice s)
  | paneFullscreenFlag => exact keeps h (takeFlagHandOn_notice s)
  | upstreamRequest offer =>
    exact may (f := fun u => takeOldest (offerRequest offer u)) h
      (takeOldest_noticeSound (s := offerRequest offer s) hi)
  | downstreamResponse response =>
    exact may (f := takeResponse response) h fun h => takeResponse_notice h ▸ hi
  | loadDone => exact keeps h (takeLoadDone_notice s)
  | loaderDrainEnd => exact keeps h (takeDrainEnd_notice s)
  | slotFree response =>
    refine may (f := fun u => if u.freesSlot response then takeResponse response u else .next u) h
      fun h => ?_
    split at h
    · exact takeResponse_notice h ▸ hi
    · cases h; exact hi
  | downstreamGrant own => exact keeps h (grant_notice s own)
  | processingStep => exact sound h (processStep_noticeSound hi)
  | anchorLineWrite line initiator txn enables data =>
    unfold exec execAnchorLineWrite at h
    refine may h fun h => ?_
    split at h
    · exact takeOldest_noticeSound (s := offerRequest _ s) hi h
    · cases h; exact hi
  | setMode tag mode => exact line (c := .setMode tag mode) h
  | warmReset tag => exact line (c := .warmReset tag) h
  | setClock tag minute second => exact line (c := .setClock tag minute second) h
  | dayStart tag minute origin => exact line (c := .dayStart tag minute origin) h
  | setIntake tag params => exact line (c := .setIntake tag params) h
  | setTally tag params => exact line (c := .setTally tag params) h
  | setWords tag words => exact line (c := .setWords tag words) h
  | setView tag params => exact line (c := .setView tag params) h
  | setSurface tag params => exact line (c := .setSurface tag params) h
  | setCell tag params => exact line (c := .setCell tag params) h
  | clearCell tag cell => exact line (c := .clearCell tag cell) h
  | loadGlyphs tag set source sum => exact line (c := .loadGlyphs tag set source sum) h
  | setSegment tag segment text => exact line (c := .setSegment tag segment text) h
  | setTrigger tag params => exact line (c := .setTrigger tag params) h
  | clearTrigger tag trigger => exact line (c := .clearTrigger tag trigger) h
  | setPane tag params => exact line (c := .setPane tag params) h
  | setPlaylist tag pane first count entries =>
    exact line (c := .setPlaylist tag pane first count entries) h
  | playStart tag pane entry now => exact line (c := .playStart tag pane entry now) h
  | playResume tag pane => exact line (c := .playResume tag pane) h
  | playStop tag pane => exact line (c := .playStop tag pane) h
  | paneClear tag pane => exact line (c := .paneClear tag pane) h
  | setMask tag mask => exact line (c := .setMask tag mask) h
  | clearCauses tag mask => exact line (c := .clearCauses tag mask) h
  | inspect tag kind index => exact line (c := .inspect tag kind index) h

/-- Settles O51: an idle step changes nothing, and every command keeps the Notice Unit sound. -/
theorem noticesStaySound : Obligations.NoticesStaySound := by
  intro s t hi h
  unfold step at h
  split at h
  · cases h; exact hi
  · next c rest _ =>
    have hi : NoticeInv (s.withPending rest).notice := hi
    exact exec_notice_sound hi h

end Sys2Proof.Machine

namespace Sys2Proof.Machine

/-! ### Top notices taken one after the other -/

section
variable (s : State) (h : TopHandOn)

/-- A top notice taken changes the top-notice texts, the cells and the surfaces alone. -/
theorem applyTop_frame : s.applyTop h = { s with patch := { s.patch with
    noticeText := s.patch.noticeText.set h.surface h.text
    cells := (s.applyTop h).patch.cells
    surfaces := (s.applyTop h).patch.surfaces } } := by
  rw [applyTop_eq, derive_eq, topStored_eq]

/-- A top notice taken keeps how many surfaces there are. -/
theorem applyTop_surfaces_length :
    (s.applyTop h).patch.surfaces.length = s.patch.surfaces.length := by
  have hcommit := commitIdle_length ({ s.patch with
    noticeText := s.patch.noticeText.set h.surface h.text }.withFlag h.surface h.fullScreen) h.surface
  have hflag : ({ s.patch with noticeText := s.patch.noticeText.set h.surface h.text }.withFlag
      h.surface h.fullScreen).surfaces.length = s.patch.surfaces.length := List.length_set
  exact (commitIdleEach_length ..).trans (hcommit.trans hflag)

/-- Storing a top notice leaves every other surface. -/
theorem topStored_other {k : Nat} (hk : k ≠ h.surface) :
    (s.topStored h).patch.surface k = s.patch.surface k := by
  change (PatchUnit.commitIdle _ _).surface k = _
  rw [commitIdle_surface, if_neg fun hh => hk hh.1, withFlag_surface, if_neg fun hh => hk hh.1]
  rfl

/-- An IDLE surface that showed what R88 says shows it after a top notice is taken. -/
theorem applyTop_keeps_commits (hlen : s.patch.surfaces.length = 12) {k : Nat}
    (hidle : (s.patch.surface k).state = .idle)
    (hc : (s.patch.surface k).current.commits s.patch k (s.patch.surface k).pendingFlag) :
    ((s.applyTop h).patch.surface k).current.commits (s.applyTop h).patch k
      ((s.applyTop h).patch.surface k).pendingFlag := by
  have hk : k < 12 := hlen ▸ surface_in_table (p := s.patch) (by simp [hidle])
  obtain ⟨hsurface, -⟩ := applyTop_surface s h k
  by_cases he : k = h.surface
  · subst he
    have hflag : ((s.applyTop h).patch.surface h.surface).pendingFlag = h.fullScreen := by
      rw [hsurface]; exact if_pos ⟨rfl, hlen.symm ▸ hk⟩
    rw [hflag]
    exact applyTop_commits s h hk hidle
  · have hflag : ((s.applyTop h).patch.surface k).pendingFlag =
        (s.patch.surface k).pendingFlag := by
      rw [hsurface]; exact if_neg fun hh => he hh.1
    have hother := topStored_other s h he
    rw [hflag, applyTop_eq]
    refine derive_commits _ hk (hother ▸ hidle) (by rw [hother]) ?_
    rw [hother]
    exact commits_congr (topStored_cells s h) (by rw [topStored_eq]) hc

/-- A surface keeps its picture of g when a top notice is taken, or is IDLE and shows what R88 says
(R89). -/
theorem applyTop_picture (hlen : s.patch.surfaces.length = 12) (k : Nat) :
    ((s.applyTop h).patch.surface k).current = (s.patch.surface k).current ∨
      ((s.patch.surface k).state = .idle ∧
        ((s.applyTop h).patch.surface k).current.commits (s.applyTop h).patch k
          ((s.applyTop h).patch.surface k).pendingFlag) := by
  obtain ⟨hsurface, hbusy⟩ := applyTop_surface s h k
  by_cases hidle : (s.patch.surface k).state = .idle
  · by_cases he : k = h.surface
    · subst he
      have hk : h.surface < 12 := hlen ▸ surface_in_table (p := s.patch) (by simp [hidle])
      refine .inr ⟨hidle, ?_⟩
      have hflag : ((s.applyTop h).patch.surface h.surface).pendingFlag = h.fullScreen := by
        rw [hsurface]; exact if_pos ⟨rfl, hlen.symm ▸ hk⟩
      rw [hflag]
      exact applyTop_commits s h hk hidle
    · have hother := topStored_other s h he
      have hwait := derive_surfacesWait (u := s.topStored h) (readsNotice h.surface) rfl k
      rw [← applyTop_eq, hother] at hwait
      rcases hwait with hsame | ⟨-, hnew, hcommits⟩
      · exact .inl (by rw [hsame])
      · refine .inr ⟨hidle, ?_⟩
        have hflag : ((s.applyTop h).patch.surface k).pendingFlag =
            (s.patch.surface k).pendingFlag := by rw [hnew]
        rw [hflag]; exact hcommits
  · exact .inl (hbusy hidle)

end

/-- The text of a NOTICE source is the top-notice text of its surface (R84). -/
theorem targetText_notice {s t : State} {c : CellConfig} {k : Nat} (hc : c.source = .notice k)
    (h : s.patch.noticeText.getD k [] = t.patch.noticeText.getD k []) :
    s.targetText c = t.targetText c := by
  simp only [State.targetText, State.sourceText, hc, h]

/-- A list of hand-ons of distinct surfaces has been taken between two states: the texts and flags are
stored, the NOTICE cells of those surfaces derived afresh, and IDLE surfaces show the changes (R58, R84,
R87, R89). -/
structure State.TopsApplied (s u : State) (l : List TopHandOn) : Prop where
  frame : u = { s with patch := { s.patch with
    noticeText := u.patch.noticeText, cells := u.patch.cells, surfaces := u.patch.surfaces } }
  texts_length : u.patch.noticeText.length = s.patch.noticeText.length
  surfaces_length : u.patch.surfaces.length = s.patch.surfaces.length
  text : ∀ h, h ∈ l → u.patch.noticeText.getD h.surface [] = h.text
  text_kept : ∀ k, (∀ h, h ∈ l → h.surface ≠ k) →
    u.patch.noticeText.getD k [] = s.patch.noticeText.getD k []
  flag : ∀ h, h ∈ l → (u.patch.surface h.surface).pendingFlag = h.fullScreen
  flag_kept : ∀ k, (∀ h, h ∈ l → h.surface ≠ k) →
    (u.patch.surface k).pendingFlag = (s.patch.surface k).pendingFlag
  surface : ∀ k, u.patch.surface k = { s.patch.surface k with
    pendingFlag := (u.patch.surface k).pendingFlag, current := (u.patch.surface k).current }
  picture : ∀ k, (u.patch.surface k).current = (s.patch.surface k).current ∨
    ((s.patch.surface k).state = .idle ∧
      (u.patch.surface k).current.commits u.patch k (u.patch.surface k).pendingFlag)
  fresh : ∀ h, h ∈ l → (s.patch.surface h.surface).state = .idle →
    (u.patch.surface h.surface).current.commits u.patch h.surface
      (u.patch.surface h.surface).pendingFlag
  cells : s.cellsFollow u (fun src => l.any (fun h => readsNotice h.surface src))
  shows : s.idleShows u

section
variable {s u : State} {l : List TopHandOn} {h : TopHandOn}

/-- With nothing to take nothing changes. -/
theorem State.TopsApplied.none (s : State) : s.TopsApplied s [] where
  frame := rfl
  texts_length := rfl
  surfaces_length := rfl
  text _ h := absurd h List.not_mem_nil
  text_kept _ _ := rfl
  flag _ h := absurd h List.not_mem_nil
  flag_kept _ _ := rfl
  surface _ := rfl
  picture _ := .inl rfl
  fresh _ h := absurd h List.not_mem_nil
  cells n := by simp
  shows k n c d _ _ hc hd _ hne := by
    obtain rfl := Option.some.inj (hc.symm.trans hd)
    exact absurd rfl hne

/-- The cells reached by the hand-ons taken so far, and by one more, follow their sources. -/
theorem State.TopsApplied.cells_snoc (ha : s.TopsApplied u l)
    (hnew : ∀ a, a ∈ l → a.surface ≠ h.surface) :
    s.cellsFollow (u.applyTop h)
      (fun src => (l ++ [h]).any (fun a => readsNotice a.surface src)) := by
  intro n
  rw [(applyTop_follows u h).1 n, ha.cells n, Option.map_map]
  refine Option.map_congr fun c _ => ?_
  simp only [Function.comp_apply, List.any_append, List.any_cons, List.any_nil, Bool.or_false]
  by_cases hl : l.any (fun a => readsNotice a.surface c.config.source) = true
  · obtain ⟨a, ha', hsrc⟩ := List.any_eq_true.1 hl
    have hsrc : c.config.source = .notice a.surface := by simpa [readsNotice] using hsrc
    have htext : u.targetText c.config = (u.applyTop h).targetText c.config := by
      refine targetText_notice hsrc ?_
      rw [applyTop_frame, getD_set, if_neg fun hh => hnew a ha' hh.1]
    simp [hl, htext]
  · by_cases hr : readsNotice h.surface c.config.source = true <;> simp [hl, hr]

/-- An IDLE surface shows every cell whose text has changed since the first hand-on (R89). -/
theorem State.TopsApplied.shows_snoc (ha : s.TopsApplied u l)
    (hlen : u.patch.surfaces.length = 12) : s.idleShows (u.applyTop h) := by
  intro k n c d hk hidle hc hd hon hne
  have hidle' : (u.patch.surface k).state = .idle := by rw [ha.surface]; exact hidle
  obtain ⟨m, hm, hmc⟩ : ∃ m, u.patch.cell n = some m ∧ m.config = c.config := by
    refine ⟨_, (ha.cells n).trans (congrArg _ hc), ?_⟩
    dsimp only
    split <;> rfl
  obtain ⟨-, hdc⟩ : d.target = d.target ∧ d.config = m.config := by
    rw [(applyTop_follows u h).1 n, hm, Option.map_some] at hd
    refine ⟨rfl, ?_⟩
    rw [← Option.some.inj hd]
    split <;> rfl
  by_cases hlast : m.target = d.target
  · obtain rfl : m = d := by cases m; cases d; simp_all
    have hrec := ha.shows k n c m hk hidle hc hm hon hne
    rcases applyTop_picture u h hlen k with hsame | ⟨-, hcommits⟩
    · rw [hsame]; exact hrec
    · exact (hcommits.2.2.2.2 n m.record).2 ⟨m, hd, (congrArg CellConfig.surface hmc).trans hon, rfl⟩
  · exact (applyTop_follows u h).2 k n m d hk hidle' hm hd
      ((congrArg CellConfig.surface hmc).trans hon) hlast

/-- One more hand-on taken, of a surface not handed on before. -/
theorem State.TopsApplied.snoc (ha : s.TopsApplied u l) (hk : h.surface < 12)
    (htexts : s.patch.noticeText.length = 12) (hlen : s.patch.surfaces.length = 12)
    (hnew : ∀ a, a ∈ l → a.surface ≠ h.surface) :
    s.TopsApplied (u.applyTop h) (l ++ [h]) := by
  have htexts' := ha.texts_length.trans htexts
  have hlen' := ha.surfaces_length.trans hlen
  have hframe := applyTop_frame u h
  have hsurface : ∀ k, _ := fun k => (applyTop_surface u h k).1
  have htext : ∀ k, (u.applyTop h).patch.noticeText.getD k [] =
      if k = h.surface then h.text else u.patch.noticeText.getD k [] := by
    intro k
    rw [hframe, getD_set]
    simp only [htexts', hk, and_true]
  have hflag : ∀ k, ((u.applyTop h).patch.surface k).pendingFlag =
      if k = h.surface then h.fullScreen else (u.patch.surface k).pendingFlag := by
    intro k
    rw [hsurface]
    by_cases he : k = h.surface
    · simp [he, hlen', hk]
    · simp [he]
  have hstate : ∀ k, (u.patch.surface k).state = (s.patch.surface k).state := fun k => by
    rw [ha.surface]
  have hsplit : ∀ k, (∀ a, a ∈ l ++ [h] → a.surface ≠ k) →
      (∀ a, a ∈ l → a.surface ≠ k) ∧ k ≠ h.surface := fun k hh =>
    ⟨fun a ha => hh a (List.mem_append_left _ ha),
      (hh h (List.mem_append_right _ (List.mem_singleton_self h))).symm⟩
  refine ⟨?_, ?_, (applyTop_surfaces_length u h).trans ha.surfaces_length, fun a hmem => ?_,
    fun k hno => ?_, fun a hmem => ?_, fun k hno => ?_, fun k => ?_, fun k => ?_,
    fun a hmem hidle => ?_, ha.cells_snoc hnew, ha.shows_snoc hlen'⟩
  · rw [hframe, ha.frame]
  · rw [hframe]; exact List.length_set.trans ha.texts_length
  · rw [htext]
    rcases List.mem_append.1 hmem with hmem | hmem
    · rw [if_neg (hnew a hmem), ha.text a hmem]
    · obtain rfl := List.mem_singleton.1 hmem
      rw [if_pos rfl]
  · obtain ⟨hno, hne⟩ := hsplit k hno
    rw [htext, if_neg hne, ha.text_kept k hno]
  · rw [hflag]
    rcases List.mem_append.1 hmem with hmem | hmem
    · rw [if_neg (hnew a hmem), ha.flag a hmem]
    · obtain rfl := List.mem_singleton.1 hmem
      rw [if_pos rfl]
  · obtain ⟨hno, hne⟩ := hsplit k hno
    rw [hflag, if_neg hne, ha.flag_kept k hno]
  · rw [hsurface, ha.surface]
  · rcases applyTop_picture u h hlen' k with hsame | ⟨hidle, hcommits⟩
    · rcases ha.picture k with hold | ⟨hidle, hcommits⟩
      · exact .inl (hsame.trans hold)
      · exact .inr ⟨hidle, applyTop_keeps_commits u h hlen' ((hstate k).trans hidle) hcommits⟩
    · exact .inr ⟨(hstate k).symm.trans hidle, hcommits⟩
  · rcases List.mem_append.1 hmem with hmem | hmem
    · exact applyTop_keeps_commits u h hlen' ((hstate _).trans hidle) (ha.fresh a hmem hidle)
    · obtain rfl := List.mem_singleton.1 hmem
      rw [hflag, if_pos rfl]
      exact applyTop_commits u a hk ((hstate _).trans hidle)

/-- Hand-ons taken one after the other, the last one after the others. -/
theorem applyTops_snoc (s : State) (l : List TopHandOn) (h : TopHandOn) :
    s.applyTops (l ++ [h]) = (s.applyTops l).applyTop h := by
  induction l generalizing s with
  | nil => rfl
  | cons a rest ih => exact ih _

/-- Hand-ons that stand by rising surface number are taken (R58; log entry 31). -/
theorem applyTops_applied (htexts : s.patch.noticeText.length = 12)
    (hlen : s.patch.surfaces.length = 12)
    (hsorted : l.Pairwise (fun a b => a.surface < b.surface))
    (hk : ∀ a, a ∈ l → a.surface < 12) : s.TopsApplied (s.applyTops l) l := by
  induction l using List.reverseRecOn with
  | nil => exact .none s
  | append_singleton l h ih =>
    obtain ⟨hl, -, hlast⟩ := List.pairwise_append.1 hsorted
    rw [applyTops_snoc]
    refine (ih hl fun a ha => hk a (List.mem_append_left _ ha)).snoc
      (hk h (List.mem_append_right _ (List.mem_singleton_self h))) htexts hlen fun a ha => ?_
    exact (hlast a ha h (List.mem_singleton_self h)).ne

end

/-! ### Full-screen flags taken one after the other -/

section
variable (p : PaneUnit) (l : List (Nat × Bool))

/-- Flags taken change the copies of the flags alone (R120). -/
theorem takeFlags_eq : p.takeFlags l = { p with flags := (p.takeFlags l).flags } := by
  induction l generalizing p with
  | nil => rfl
  | cons f rest ih => rw [PaneUnit.takeFlags, ih]; rfl

/-- Flags taken keep how many copies there are. -/
theorem takeFlags_length : (p.takeFlags l).flags.length = p.flags.length := by
  induction l generalizing p with
  | nil => rfl
  | cons f rest ih => exact (ih _).trans List.length_set

/-- The flag of one surface taken. -/
theorem takeFlag_flag (f : Nat × Bool) (k : Nat) :
    (p.takeFlag f).flag k = if k = f.1 ∧ f.1 < p.flags.length then f.2 else p.flag k :=
  getD_set ..

variable {p l}

/-- The copy of a surface that hands on no flag stays. -/
theorem takeFlags_kept {k : Nat} (h : ∀ f, f ∈ l → f.1 ≠ k) : (p.takeFlags l).flag k = p.flag k := by
  induction l generalizing p with
  | nil => rfl
  | cons f rest ih =>
    obtain ⟨hf, hrest⟩ := List.forall_mem_cons.1 h
    rw [PaneUnit.takeFlags, ih hrest, takeFlag_flag, if_neg fun hh => hf hh.1.symm]

/-- The copy of a surface becomes the flag it hands on (R120). -/
theorem takeFlags_taken (hl : l.Pairwise (fun a b => a.1 < b.1)) {f : Nat × Bool} (hf : f ∈ l)
    (hk : f.1 < p.flags.length) : (p.takeFlags l).flag f.1 = f.2 := by
  induction l generalizing p with
  | nil => cases hf
  | cons a rest ih =>
    obtain ⟨ha, hrest⟩ := List.pairwise_cons.1 hl
    rw [PaneUnit.takeFlags]
    rcases List.mem_cons.1 hf with rfl | hf
    · rw [takeFlags_kept fun b hb => (ha b hb).ne', takeFlag_flag, if_pos ⟨rfl, hk⟩]
    · exact ih hrest hf (hk.trans_eq List.length_set.symm)

end

/-! ### What a command hands on is taken within it -/

/-- The sources that a hand-on reaches are those of the surfaces whose top differs. -/
theorem readsChangedTop_eq (u w : NoticeUnit) :
    readsChangedTop u w = fun src => (handOns u w).any (fun h => readsNotice h.surface src) := by
  funext src
  rw [readsChangedTop, handOns, List.any_map, List.any_filter]
  refine congrArg _ (funext fun k => ?_)
  exact Bool.and_comm _ _

section
variable {s : State}

/-- The copies of the flags once those of the surfaces whose top differs are taken (R120). -/
theorem takeFlags_handOns (p : PaneUnit) (hflags : p.flags.length = 12) (u w : NoticeUnit) {k : Nat}
    (hk : k < 12) :
    (p.takeFlags ((handOns u w).map (fun h => (h.surface, h.fullScreen)))).flag k =
      if topDiffers u w k = true then w.isFull k else p.flag k := by
  split
  · next hd =>
    exact takeFlags_taken (f := (k, w.isFull k)) (List.pairwise_map.2 (handOns_sorted u w))
      (List.mem_map_of_mem (f := fun h : TopHandOn => (h.surface, h.fullScreen))
        ((mem_handOns u w { surface := k, text := w.topText k, fullScreen := w.isFull k }).2
          ⟨hk, hd, rfl, rfl⟩)) (hflags.symm ▸ hk)
  · next hd =>
    refine takeFlags_kept fun f hf => ?_
    obtain ⟨h, hh, rfl⟩ := List.mem_map.1 hf
    rintro rfl
    exact hd ((mem_handOns u w h).1 hh).2.1

/-- A command's hand-ons, with none waiting before it: the tops are taken by the Patch Unit and the
flags by the Pane Unit (R120, R171). -/
theorem settleTops_eq (hpatch : s.patch.fromNotice = []) (hpane : s.pane.flagInbox = [])
    (w : NoticeUnit) {fs : List (Nat × Bool)}
    (hfs : fs = (handOns s.notice w).map (fun h => (h.surface, h.fullScreen))) :
    settleTops (s.noticeDone w) =
      (({ s with notice := w, pane := { s.pane with flagInbox := fs } } : State).applyTops
        (handOns s.notice w)).withPane (s.pane.takeFlags fs) := by
  have hp : ({ s.patch with fromNotice := [] } : PatchUnit) = s.patch := by rw [← hpatch]
  have hf : ({ s.pane with flagInbox := [] } : PaneUnit) = s.pane := by rw [← hpane]
  rw [settleTops, State.noticeDone_patch, State.noticeDone_pane, hpatch, hpane, ← hfs]
  simp only [List.nil_append, hp, hf]
  rw [State.withPatch, State.noticeDone]
  simp only [hpane, ← hfs, List.nil_append]

/-- The tops that a change of the Notice Unit alters are handed on and taken, and the command answered
(R58, R120, R171). -/
theorem settleTops_taken (hpatch : s.patch.fromNotice = []) (hpane : s.pane.flagInbox = [])
    (htexts : s.patch.noticeText.length = 12) (hflags : s.pane.flags.length = 12)
    (hsurfaces : s.patch.surfaces.length = 12) (w : NoticeUnit) (code tag : Nat) {t : State}
    (ht : t = (settleTops (s.noticeDone w)).answer code tag []) :
    s.topsTaken t ∧ t.notice = w ∧ t.command = s.answeredOk code tag s.command.causes [] := by
  obtain ⟨fs, hfs⟩ : ∃ fs, fs =
    (handOns s.notice w).map (fun h => (h.surface, h.fullScreen)) := ⟨_, rfl⟩
  obtain ⟨s', hs'⟩ : ∃ s' : State, s' = { s with
    notice := w, pane := { s.pane with flagInbox := fs } } := ⟨_, rfl⟩
  obtain ⟨v, hv⟩ : ∃ v, v = s'.applyTops (handOns s.notice w) := ⟨_, rfl⟩
  have hmem := mem_handOns s.notice w
  have happlied : s'.TopsApplied v (handOns s.notice w) := hv ▸
    applyTops_applied (by rw [hs']; exact htexts) (by rw [hs']; exact hsurfaces)
      (handOns_sorted _ _) fun a ha => ((hmem a).1 ha).1
  have hpatch' : s'.patch = s.patch := by rw [hs']
  have htv : t = (v.withPane (s.pane.takeFlags fs)).answer code tag [] := by
    rw [ht, settleTops_eq hpatch hpane w hfs, hv, hs']
  have hframe : t = { s with
      notice := w
      patch := { s.patch with
        noticeText := v.patch.noticeText, cells := v.patch.cells, surfaces := v.patch.surfaces }
      pane := { s.pane with flags := (s.pane.takeFlags fs).flags }
      command := s.answeredOk code tag s.command.causes [] } := by
    rw [htv, answer_eq, happlied.frame, hs', takeFlags_eq]; rfl
  have htpatch : t.patch = v.patch := by rw [htv]; rfl
  have htarget : ∀ c, v.targetText c = t.targetText c := fun c => by
    rw [htv]
    exact targetText_congr rfl rfl rfl rfl rfl rfl rfl c
  have hflag : ∀ k, k < 12 → t.pane.flag k =
      if topDiffers s.notice w k = true then w.isFull k else s.pane.flag k := fun k hk => by
    rw [← takeFlags_handOns s.pane hflags s.notice w hk, ← hfs, htv]; rfl
  have hnotice : t.notice = w := by rw [hframe]
  refine ⟨⟨?_, ?_, ?_, ?_, fun n => ?_, ?_, fun k hk => ⟨fun hd => ?_, fun hd => ?_, fun hb => ?_⟩⟩,
    hnotice, by rw [hframe]⟩
  · rw [hnotice, htpatch, hframe]
  · rw [htpatch, happlied.texts_length, hpatch']; exact htexts
  · rw [htv]; exact (takeFlags_length s.pane fs).trans hflags
  · rw [htpatch, happlied.surfaces_length, hpatch']; exact hsurfaces
  · rw [hnotice, readsChangedTop_eq, htpatch, happlied.cells n, hpatch']
    simp only [htarget]
  · have hshows := happlied.shows
    rw [State.idleShows, hpatch', ← htpatch] at hshows
    exact hshows
  · rw [hnotice] at hd
    have hin : ({ surface := k, text := w.topText k, fullScreen := w.isFull k } : TopHandOn) ∈
        handOns s.notice w := (hmem _).2 ⟨hk, hd, rfl, rfl⟩
    have hfull := happlied.flag _ hin
    refine ⟨?_, ?_, ?_, fun hidle => ?_⟩
    · rw [htpatch, hnotice]; exact happlied.text _ hin
    · rw [hflag k hk, if_pos hd, hnotice]
    · rw [htpatch, hnotice, happlied.surface k, hpatch', hfull]
    · have hfresh := happlied.fresh _ hin (hpatch' ▸ hidle)
      rw [hfull] at hfresh
      rw [htpatch, hnotice]; exact hfresh
  · rw [hnotice] at hd
    have hout : ∀ h, h ∈ handOns s.notice w → h.surface ≠ k := by
      rintro h hh rfl
      rw [((hmem h).1 hh).2.1] at hd; cases hd
    have hkept := happlied.flag_kept k hout
    have hsurface := happlied.surface k
    rw [hkept, hpatch'] at hsurface
    refine ⟨?_, ?_, ?_⟩
    · rw [htpatch, happlied.text_kept k hout, hpatch']
    · rw [hflag k hk, if_neg (by simp [hd])]
    · rw [htpatch]
      rcases happlied.picture k with hsame | ⟨hidle, hcommits⟩
      · rw [hsame, hpatch'] at hsurface
        exact .inl hsurface
      · rw [hkept, hpatch'] at hcommits
        exact .inr ⟨hpatch' ▸ hidle, hsurface, hcommits⟩
  · rw [htpatch]
    rcases happlied.picture k with hsame | ⟨hidle, -⟩
    · rw [hsame, hpatch']
    · exact absurd (hpatch' ▸ hidle) hb

/-- The notice of a trigger has left and the trigger is written (R69, R70). -/
theorem rewrite_cleared {u : NoticeUnit} (hi : NoticeInv u) {r : Nat} (hr : r < 32) (y : Trigger) :
    u.clearedOf ((u.withdrawRaised r).putTrigger r y) r ∧
      ((u.withdrawRaised r).putTrigger r y).trigger r = y := by
  have hthins := withdrawRaised_thins hi r
  have hlen : r < (u.withdrawRaised r).triggers.length :=
    hr.trans_eq (hthins.triggers_length.trans hi.triggers_length).symm
  refine ⟨⟨?_, fun q hq => ?_, fun n x hx => withdrawRaised_at? hi hx, hthins.free, hthins.stacked⟩,
    ?_⟩
  · rw [NoticeUnit.putTrigger, hthins.frame]
  · rw [putTrigger_trigger, if_neg fun hh => hq hh.1]
    refine hthins.standing q fun n x hx hs => ?_
    rw [withdrawRaised_at? hi hx, if_neg]
    · simp
    · rw [hs]
      exact fun hh => hq (NoticeSource.trigger.inj hh)
  · rw [putTrigger_trigger, if_pos ⟨rfl, hlen⟩]

end

/-! ### The settings of a trigger -/

/-- The event kinds stand in the order of R68 (log entry 27). -/
theorem triggerKindOf_table (n : Nat) : triggerKindOf n =
    [TallyKind.soldOut, .almost, .boarding, .started, .delayed, .cancelled][n]? := by
  match n with
  | 0 | 1 | 2 | 3 | 4 | 5 => rfl
  | n + 6 => rfl

/-- An item is a segment by its number, or 64 and the number of a field but STATUS (R173). -/
theorem itemOf_table (n : Nat) : itemOf n = if n < 64 then some (TemplateItem.segment n)
    else ([Field.auditorium, .start, .title, .seats, .delay][n - 64]?).map TemplateItem.field := by
  unfold itemOf Config.segments
  split
  · rfl
  · obtain ⟨m, rfl⟩ : ∃ m, n = m + 64 := ⟨n - 64, by omega⟩
    rw [Nat.add_sub_cancel]
    match m with
    | 0 | 1 | 2 | 3 | 4 => rfl
    | m + 5 => rw [if_neg (by omega)]; rfl

/-- The items of a template stand in the order of their bytes. -/
theorem itemsOf_iff (l : List Nat) (template : List TemplateItem) :
    itemsOf l = some template ↔ template.length = l.length ∧
      ∀ i n : Nat, l[i]? = some n → template[i]? = itemOf n := by
  induction l generalizing template with
  | nil => simp [itemsOf, eq_comm]
  | cons n rest ih =>
    rw [itemsOf]
    constructor
    · intro h
      split at h
      · next item items hitem hitems =>
        obtain rfl := Option.some.inj h
        obtain ⟨hlen, hget⟩ := (ih items).1 hitems
        refine ⟨congrArg Nat.succ hlen, fun i m hm => ?_⟩
        cases i with
        | zero =>
          obtain rfl := Option.some.inj hm
          exact hitem.symm
        | succ i => exact hget i m hm
      · cases h
    · rintro ⟨hlen, hget⟩
      rcases template with _ | ⟨item, items⟩
      · cases hlen
      · have hitem : some item = itemOf n := hget 0 n rfl
        have hitems := (ih items).2 ⟨Nat.succ.inj hlen, fun i m hm => hget (i + 1) m hm⟩
        rw [← hitem, hitems]

/-- A template is its 1 to 6 items (R69, R173). -/
theorem templateOf_iff (count : Nat) (items : List Nat) (template : List TemplateItem) :
    templateOf count items = some template ↔ 1 ≤ count ∧ count ≤ 6 ∧
      template.length = (items.take count).length ∧
      ∀ i n : Nat, (items.take count)[i]? = some n → template[i]? =
        if n < 64 then some (TemplateItem.segment n)
        else ([Field.auditorium, .start, .title, .seats, .delay][n - 64]?).map
          TemplateItem.field := by
  simp only [← itemOf_table]
  rw [templateOf]
  split
  · next h => rw [itemsOf_iff]; tauto
  · next h =>
    refine iff_of_false (by simp) ?_
    rintro ⟨h1, h6, -⟩
    exact h ⟨h1, h6⟩

/-- Parameters that pass the eight tests of R69 give the settings they name. -/
theorem triggerSettingsOf_passed {u : NoticeUnit} {p : TriggerParams} {event : TallyKind}
    {timing : Timing} {template : List TemplateItem} (ht : p.trigger < 32)
    (hevent : triggerKindOf p.event = some event) (hfilter : p.filter < 128 ∨ p.filter = 255)
    (hnotice : p.notice < 64) (hprio : p.priority ≤ 7) (htiming : timingOf p.timing = some timing)
    (htemplate : templateOf p.count p.items = some template)
    (hdefined : ∀ k, TemplateItem.segment k ∈ template →
      ∃ g, u.segments[k]? = some g ∧ g.isDefined = true) :
    triggerSettingsOf p u = some {
      event := event, filter := if p.filter = 255 then none else some p.filter, notice := p.notice,
      priority := p.priority, screens := BitVec.ofNat 12 p.screens, timing := timing,
      template := template } := by
  have hall : template.any u.undefinedItem = false := by
    rw [List.any_eq_false]
    intro item hitem
    cases item with
    | segment k =>
      obtain ⟨g, hg, hd⟩ := hdefined k hitem
      simp [NoticeUnit.undefinedItem, List.getD_eq_getElem?_getD, hg, hd]
    | field f => simp [NoticeUnit.undefinedItem]
  rw [triggerSettingsOf, if_neg (by simp only [Config.triggers]; omega), hevent]
  dsimp only
  rw [if_neg (by simp only [Config.shows]; omega), if_neg (by simp only [Config.notices]; omega),
    if_neg (by omega), htiming, htemplate]
  dsimp only
  rw [hall]
  rfl

/-- Settles O42: the tables by their cases, and each command by the notice that leaves, the trigger
written, and the tops taken. -/
theorem triggerCommandsArmAndClear : Obligations.TriggerCommandsArmAndClear := by
  refine ⟨triggerKindOf_table, templateOf_iff, ?_⟩
  intro s tag r hr hi hlt hpatch hpane htexts hflags hsurfaces
  have command : ∀ (c : Instr) (code : Nat) (y : Trigger),
      exec c s = .next ((settleTops (s.noticeDone
        ((s.notice.withdrawRaised r).putTrigger r y))).answer code tag []) →
      ∃ t, exec c s = .next t ∧ s.topsTaken t ∧ s.notice.clearedOf t.notice r ∧
        t.notice.trigger r = y ∧ t.command = s.answeredOk code tag s.command.causes [] := by
    intro c code y hexec
    obtain ⟨htaken, hnotice, hcommand⟩ :=
      settleTops_taken hpatch hpane htexts hflags hsurfaces _ code tag rfl
    obtain ⟨hcleared, htrigger⟩ := rewrite_cleared hi hlt y
    exact ⟨_, hexec, htaken, hnotice.symm ▸ hcleared, hnotice.symm ▸ htrigger, hcommand⟩
  refine ⟨fun p event timing template hpr hevent hfilter hn hp ht htemplate hdefined => ?_, ?_⟩
  · subst hpr
    refine command _ 14 _ ?_
    change whenRunning (cmdSetTrigger tag p) s = _
    rw [whenRunning_runs hr, cmdSetTrigger,
      triggerSettingsOf_passed hlt hevent hfilter hn hp ht htemplate hdefined]
  · refine command _ 15 _ ?_
    change whenRunning (cmdClearTrigger tag r) s = _
    rw [whenRunning_runs hr, cmdClearTrigger, if_neg (by simp only [Config.triggers]; omega)]

end Sys2Proof.Machine

namespace Sys2Proof.Machine

/-! ### What the invariants of the screens and of the glyph store read -/

/-- What `ScreenInv` and `GlyphInv` read of the Patch Unit. -/
def PatchUnit.store (p : PatchUnit) : List Surface × List (Option Cell) × List GlyphSet × Loader :=
  (p.surfaces, p.cells, p.sets, p.loader)

/-- What holds of the screens and of the glyph store in one Patch Unit holds in the other (R75, R80,
R82, R86, R90, R161). -/
structure PatchUnit.Keeps (p q : PatchUnit) : Prop where
  screens : ScreenInv p → ScreenInv q
  glyphs : GlyphInv p → GlyphInv q

theorem PatchUnit.Keeps.refl (p : PatchUnit) : p.Keeps p := ⟨id, id⟩

theorem PatchUnit.Keeps.trans {p q r : PatchUnit} (h : p.Keeps q) (k : q.Keeps r) : p.Keeps r :=
  ⟨k.screens ∘ h.screens, k.glyphs ∘ h.glyphs⟩

section
variable {p q : PatchUnit}

/-- The screens are read from the surfaces and the cells. -/
theorem ScreenInv.congr (hi : ScreenInv p) (hf : q.surfaces = p.surfaces) (hc : q.cells = p.cells) :
    ScreenInv q := by
  have hsurface : ∀ k, q.surface k = p.surface k := fun k => by simp only [PatchUnit.surface, hf]
  have hcell : ∀ n, q.cell n = p.cell n := fun n => by simp only [PatchUnit.cell, hc]
  exact {
    surfaces_length := hf ▸ hi.surfaces_length
    cells_length := hc ▸ hi.cells_length
    surfaces := fun k => hsurface k ▸ hi.surfaces k
    pictures := fun k => hsurface k ▸ hi.pictures k
    cells := fun n c h => by
      simpa only [Cell.sound, hsurface] using hi.cells n c (hcell n ▸ h) }

/-- The glyph store is read from the sets and the loader. -/
theorem GlyphInv.congr (hi : GlyphInv p) (hs : q.sets = p.sets) (hl : q.loader = p.loader) :
    GlyphInv q := by
  have hset : ∀ k, q.set k = p.set k := fun k => by simp only [PatchUnit.set, hs]
  exact {
    sets_length := hs ▸ hi.sets_length
    canonical := fun k => hset k ▸ hi.canonical k
    bounded := fun k => hset k ▸ hi.bounded k
    loader := hl ▸ hi.loader }

/-- A change of surfaces and cells alone keeps what keeps the screens. -/
theorem keeps_of_screens (h : ScreenInv p → ScreenInv q) (hs : q.sets = p.sets)
    (hl : q.loader = p.loader) : p.Keeps q := ⟨h, fun hi => hi.congr hs hl⟩

/-- A change of sets and loader alone keeps what keeps the glyph store. -/
theorem keeps_of_glyphs (h : GlyphInv p → GlyphInv q) (hf : q.surfaces = p.surfaces)
    (hc : q.cells = p.cells) : p.Keeps q := ⟨fun hi => hi.congr hf hc, h⟩

/-- A change of what the invariants do not read keeps both. -/
theorem keeps_of_store (h : q.store = p.store) : p.Keeps q := by
  simp only [PatchUnit.store, Prod.mk.injEq] at h
  obtain ⟨hf, hc, hs, hl⟩ := h
  exact ⟨fun hi => hi.congr hf hc, fun hi => hi.congr hs hl⟩

/-! ### Surfaces replaced -/

/-- What the invariant of the screens needs of the surface that follows another: it is sound, still
set and of the same size, and its pictures stand in order (R75, R79, R80). -/
structure Surface.LeadsTo (f g : Surface) : Prop where
  sound : f.sound → g.sound
  isSet : f.state ≠ .unset → g.state ≠ .unset
  width : g.width = f.width
  height : g.height = f.height
  pictures : f.current.ordered ∧ f.previous.ordered → g.current.ordered ∧ g.previous.ordered

theorem Surface.LeadsTo.refl (f : Surface) : f.LeadsTo f := ⟨id, id, rfl, rfl, id⟩

/-- Surfaces replaced by ones they lead to keep the screens. -/
theorem ScreenInv.resurface (hi : ScreenInv p) (hlen : q.surfaces.length = p.surfaces.length)
    (hc : q.cells = p.cells) (h : ∀ k, (p.surface k).LeadsTo (q.surface k)) : ScreenInv q where
  surfaces_length := hlen.trans hi.surfaces_length
  cells_length := hc ▸ hi.cells_length
  surfaces k := (h k).sound (hi.surfaces k)
  pictures k := (h k).pictures (hi.pictures k)
  cells n c hn := by
    have hcell : p.cell n = some c := by rw [← hn, PatchUnit.cell, PatchUnit.cell, hc]
    obtain ⟨hlt, hset, hfits, htext⟩ := hi.cells n c hcell
    exact ⟨hlt, (h _).isSet hset, by rw [(h _).width, (h _).height]; exact hfits, htext⟩

/-- One surface replaced by one it leads to. -/
theorem ScreenInv.putSurface (hi : ScreenInv p) {k : Nat} {f : Surface}
    (h : (p.surface k).LeadsTo f) : ScreenInv (p.putSurface k f) := by
  refine hi.resurface List.length_set rfl fun j => ?_
  rw [putSurface_surface]
  split
  · next hj => exact hj.1 ▸ h
  · exact .refl _

/-- Every surface replaced by one it leads to. -/
theorem ScreenInv.mapSurfaces (hi : ScreenInv p) {g : Surface → Surface} (hq : q.cells = p.cells)
    (hg : q.surfaces = p.surfaces.map g) (hvacant : g Surface.vacant = Surface.vacant)
    (h : ∀ f : Surface, f.LeadsTo (g f)) : ScreenInv q := by
  refine hi.resurface (hg ▸ List.length_map ..) hq fun k => ?_
  have hget : q.surface k = g (p.surface k) := by
    have hmap := getD_map g p.surfaces k Surface.vacant
    rwa [hvacant, ← hg] at hmap
  exact hget ▸ h _

end

/-! ### The operations on surfaces -/

section
variable (p : PatchUnit)

/-- A commit changes a picture of g for one that lists each cell once (R88, R89). -/
theorem commitIdle_keeps (k : Nat) : p.Keeps (p.commitIdle k) := by
  refine keeps_of_screens (fun hi => ?_) (by rw [commitIdle_eq]) (by rw [commitIdle_eq])
  unfold PatchUnit.commitIdle
  split
  · exact hi.putSurface ⟨id, id, rfl, rfl, fun h => ⟨newPicture_ordered .., h.2⟩⟩
  · exact hi

theorem commitIdleEach_keeps (l : List Nat) : p.Keeps (p.commitIdleEach l) := by
  induction l generalizing p with
  | nil => exact .refl p
  | cons k rest ih => exact (commitIdle_keeps p k).trans (ih _)

/-- A frame start makes the surface ACTIVE on a full idle timer (R79, R88). -/
theorem patch_frameStart_keeps (k : Nat) : p.Keeps (p.frameStart k) :=
  keeps_of_screens (fun hi => hi.putSurface {
    sound := fun _ => Nat.le_refl _
    isSet := fun _ => SurfaceState.noConfusion
    width := rfl
    height := rfl
    pictures := fun h => ⟨newPicture_ordered .., h.1⟩ }) rfl rfl

/-- An expired idle timer stops as its surface becomes IDLE (R79). -/
theorem idleExpiry_keeps (k : Nat) : p.Keeps (p.idleExpiry k) := by
  unfold PatchUnit.idleExpiry
  split
  · refine PatchUnit.Keeps.trans (keeps_of_screens (fun hi => hi.putSurface ?_) rfl rfl)
      (commitIdle_keeps _ k)
    exact ⟨fun _ => trivial, fun _ => SurfaceState.noConfusion, rfl, rfl, id⟩
  · exact .refl p

theorem idleExpiryEach_keeps (l : List Nat) : p.Keeps (p.idleExpiryEach l) := by
  induction l generalizing p with
  | nil => exact .refl p
  | cons k rest ih => exact (idleExpiry_keeps p k).trans (ih _)

/-- An idle timer counted down still runs, and none other starts (R79). -/
theorem countDown_leadsTo (f : Surface) : f.LeadsTo f.countDown := by
  unfold Surface.countDown
  split
  · next n hn =>
    refine ⟨fun h => ?_, id, rfl, rfl, id⟩
    unfold Surface.sound at h ⊢
    rw [hn] at h
    split at h
    · next m hstate hm =>
      cases hm
      simp only [hstate]
      omega
    all_goals simp_all
  · exact .refl f

theorem millisecond_keeps : p.Keeps p.millisecond := by
  refine (idleExpiryEach_keeps p surfaceNumbers).trans ?_
  unfold PatchUnit.millisecond
  generalize p.idleExpiryEach surfaceNumbers = q
  exact keeps_of_screens (fun hi => hi.mapSurfaces rfl rfl rfl countDown_leadsTo) rfl rfl

/-- A pending full-screen flag is no part of what the invariants read (R58). -/
theorem withFlag_keeps (k : Nat) (flag : Bool) : p.Keeps (p.withFlag k flag) :=
  keeps_of_screens (fun hi => hi.putSurface ⟨id, id, rfl, rfl, id⟩) rfl rfl

/-! ### The operations on cells -/

/-- A cell set or cleared is sound where it stands (R82, R83, R86). -/
theorem putCell_keeps (n : Nat) {c : Option Cell} (hc : ∀ d, c = some d → d.sound p) :
    p.Keeps (p.putCell n c) := by
  have hset : p.Keeps { p with cells := p.cells.set n c } := by
    refine keeps_of_screens (fun hi => { hi with
      cells_length := List.length_set.trans hi.cells_length, cells := fun m d hd => ?_ }) rfl rfl
    rw [cell_set] at hd
    split at hd
    · exact hc d hd
    · exact hi.cells m d hd
  exact (hset.trans (commitIdle_keeps ..)).trans (commitIdle_keeps ..)

/-- A cell derived afresh keeps its place, and its text has exactly chars characters (R86, R87). -/
theorem derivedCell_keeps (s : State) (reached : Source → Bool) :
    p.Keeps { p with cells := p.cells.map (s.derivedCell reached) } := by
  refine keeps_of_screens (fun hi => { hi with
    cells_length := (List.length_map ..).trans hi.cells_length, cells := fun n d hd => ?_ }) rfl rfl
  rw [cell_map _ _ rfl] at hd
  rcases hn : p.cell n with _ | c
  · rw [hn] at hd; cases hd
  · obtain ⟨hlt, hset, hfits, htext⟩ := hi.cells n c hn
    rw [hn, State.derivedCell] at hd
    split at hd
    · cases hd
      exact ⟨hlt, hset, hfits, fitText_length ..⟩
    · cases hd
      exact ⟨hlt, hset, hfits, htext⟩

theorem derive_keeps (s : State) (reached : Source → Bool) :
    s.patch.Keeps (s.derive reached).patch :=
  (derivedCell_keeps s.patch s reached).trans (commitIdleEach_keeps ..)

end

/-! ### SET_SURFACE and SET_CELL -/

section
variable {p : PatchUnit}

/-- A surface configured is IDLE and sound, and the cells on it lie within its new size (R76,
R77). -/
theorem configured_keeps (w : SurfaceParams)
    (hfits : ∀ n c, p.cell n = some c → c.config.surface = w.surface →
      (p.surface w.surface).state ≠ .unset →
      fitsSurface c.config.x c.config.y c.config.chars c.config.scale w.width w.height = true) :
    p.Keeps (p.putSurface w.surface (p.configured w)) := by
  refine keeps_of_screens (fun hi => ?_) rfl rfl
  have hread := putSurface_surface p w.surface (f := p.configured w)
  exact {
    surfaces_length := List.length_set.trans hi.surfaces_length
    cells_length := hi.cells_length
    surfaces := fun k => by
      rw [hread]
      split
      · exact trivial
      · exact hi.surfaces k
    pictures := fun k => by
      rw [hread]
      split
      · exact ⟨newPicture_ordered .., newPicture_ordered ..⟩
      · exact hi.pictures k
    cells := fun n c hn => by
      obtain ⟨hlt, hset, hin, htext⟩ := hi.cells n c hn
      refine ⟨hlt, ?_⟩
      rw [hread]
      split
      · next hk =>
        exact ⟨SurfaceState.noConfusion, hfits n c hn hk.1 (hk.1 ▸ hset), htext⟩
      · exact ⟨hset, hin, htext⟩ }

/-- A cell that passes no test of R76 as stranded lies within the new size. -/
theorem fits_of_not_stranded {s : State} {w : SurfaceParams} (h : s.strands w = false) {n : Nat}
    {c : Cell} (hn : s.patch.cell n = some c) (hk : c.config.surface = w.surface)
    (hset : (s.patch.surface w.surface).state ≠ .unset) :
    fitsSurface c.config.x c.config.y c.config.chars c.config.scale w.width w.height = true := by
  have hany : s.patch.cells.any (strandsCell w.surface w.width w.height) = false := by
    simp only [State.strands, Bool.and_eq_false_iff, bne_eq_false_iff_eq,
      Bool.or_eq_false_iff] at h
    exact (h.resolve_left hset).1
  have hmem : some c ∈ s.patch.cells := List.mem_of_getElem? (Option.join_eq_some_iff.mp hn)
  have hcell := List.any_eq_false.1 hany _ hmem
  simpa [strandsCell, hk] using hcell

/-- A configuration SET_CELL accepts lies within a set surface (R82). -/
theorem cellConfig_sound {w : CellParams} {c : CellConfig} (h : p.cellConfig w = some c) {t : Text}
    (ht : t.length = c.chars) : ({ config := c, target := t } : Cell).sound p := by
  unfold PatchUnit.cellConfig at h
  split at h
  · next hgood =>
    split at h
    · cases h
      simp only [PatchUnit.goodCell, Bool.and_eq_true, decide_eq_true_eq, bne_iff_ne] at hgood
      exact ⟨by tauto, by tauto, by tauto, ht⟩
    · cases h
  · cases h

end

end Sys2Proof.Machine

namespace Sys2Proof.Machine

/-! ### The sets -/

section
variable {p q : PatchUnit}

/-- A change of a set's state leaves the bytes of every set. -/
theorem putSet_state_bytes (p : PatchUnit) (k : Nat) (g : GlyphState) (j : Nat) :
    ((p.putSet k { p.set k with state := g }).set j).bytes = (p.set j).bytes := by
  rw [PatchUnit.putSet_set]
  split
  · next h => rw [h.1]
  · rfl

/-- A unit whose sets hold the bytes as they were is sound with any sound loader. -/
theorem GlyphInv.of_bytes (hi : GlyphInv p) (hlen : q.sets.length = p.sets.length)
    (hb : ∀ k, (q.set k).bytes = (p.set k).bytes) (hl : q.loader.sound) : GlyphInv q where
  sets_length := hlen.trans hi.sets_length
  canonical k := hb k ▸ hi.canonical k
  bounded k := hb k ▸ hi.bounded k
  loader := hl

/-- A sound loader alone is a change the store takes. -/
theorem GlyphInv.withLoader (hi : GlyphInv p) {d : Loader} (hd : d.sound) :
    GlyphInv { p with loader := d } := hi.of_bytes rfl (fun _ => rfl) hd

/-- The unit with a line written at its place of a set (R92). -/
def PatchUnit.lineWritten (p : PatchUnit) (k line : Nat) (data : Line) : PatchUnit :=
  p.putSet k { p.set k with bytes := writeBytes (p.set k).bytes (64 * line) (data.take 64) }

/-- The sets after a line is written: the one set with other bytes. -/
theorem lineWritten_set (p : PatchUnit) (k line : Nat) (data : Line) (j : Nat) :
    (p.lineWritten k line data).set j = if j = k ∧ k < p.sets.length then
      { p.set k with bytes := writeBytes (p.set k).bytes (64 * line) (data.take 64) }
      else p.set j := PatchUnit.putSet_set ..

/-- A line written at its place stays within the set and in canonical form (R90, R92). -/
theorem GlyphInv.lineWritten (hi : GlyphInv p) (k : Nat) {line : Nat}
    (hline : line < Config.glyphLines) (data : Line) : GlyphInv (p.lineWritten k line data) := by
  have hread := lineWritten_set p k line data
  refine ⟨List.length_set.trans hi.sets_length, fun j => ?_, fun j c hc => ?_, hi.loader⟩
  · rw [hread]
    split
    · exact wf_writeBytes (hi.canonical k) ..
    · exact hi.canonical j
  · rw [hread] at hc
    split at hc
    · rcases mem_writeBytes hc with hc | ⟨-, hc⟩
      · exact hi.bounded k c hc
      · have htake : (data.take 64).length ≤ 64 := List.length_take_le ..
        simp only [Config.glyphLines, Config.glyphBytes] at hline ⊢
        omega
    · exact hi.bounded j c hc

end

/-! ### The loader's numbers -/

/-- Of more numbers than are in use one is free. -/
theorem exists_free {lo count : Nat} {used : List Nat} (h : used.length < count) :
    ∃ t, t ∈ (List.range count).map (fun i => lo + i) ∧ t ∉ used := by
  by_contra hall
  have hsub : (List.range count).map (fun i => lo + i) ⊆ used := by
    intro t ht
    by_contra hno
    exact hall ⟨t, ht, hno⟩
  have hnodup : ((List.range count).map (fun i => lo + i)).Nodup :=
    List.nodup_range.map fun _ _ => Nat.add_left_cancel
  have hlen := (hnodup.subperm hsub).length_le
  simp only [List.length_map, List.length_range] at hlen
  omega

/-- A grant uses a free number of the requester's own range (R161; log entry 7). -/
theorem pickTxn_free {lo count own : Nat} {used : List Nat} (h : used.length < count) :
    lo ≤ pickTxn lo count own used ∧ pickTxn lo count own used < lo + count ∧
      pickTxn lo count own used ∉ used := by
  unfold pickTxn
  split
  · next hown => exact ⟨hown.1, hown.2.1, by simpa using hown.2.2⟩
  · rcases hfind : ((List.range count).map (fun i => lo + i)).find? (fun t => !used.contains t)
      with _ | t
    · obtain ⟨t, ht, hno⟩ := exists_free (lo := lo) h
      exact absurd hno (by simpa using List.find?_eq_none.1 hfind t ht)
    · obtain ⟨i, hi, rfl⟩ := List.mem_map.1 (List.mem_of_find?_eq_some hfind)
      have hlt := List.mem_range.1 hi
      exact ⟨Nat.le_add_right .., Nat.add_lt_add_left hlt lo,
        by simpa using List.find?_some hfind⟩

section
variable {l : Load}

/-- A load with some of its reads answered is sound (R92). -/
theorem answered_sound (h : (Loader.busy l).sound) (f : Nat × Nat → Bool) (b : Bool) :
    (Loader.busy { l with outstanding := l.outstanding.filter f, failed := b }).sound := by
  obtain ⟨hset, hnext, hlen, hlines, hnodup, hown⟩ := h
  exact ⟨hset, hnext, (List.length_filter_le ..).trans hlen,
    fun x hx => hlines x (List.mem_of_mem_filter hx),
    hnodup.sublist (List.filter_sublist.map _), fun x hx => hown x (List.mem_of_mem_filter hx)⟩

/-- The next line of a load that requests the port is read under a free number (R161). -/
theorem issued_sound (h : (Loader.busy l).sound) (hreq : l.requests = true) (own : Nat) :
    (Loader.busy { l with
      next := l.next + 1
      outstanding := l.outstanding ++ [(pickTxn Config.firstGlyphTxn 12 own
        (l.outstanding.map (fun x => x.1)), l.next)] }).sound := by
  obtain ⟨hset, hnext, hlen, hlines, hnodup, hown⟩ := h
  simp only [Load.requests, Bool.and_eq_true, decide_eq_true_eq] at hreq
  obtain ⟨hmore, hroom⟩ := hreq
  obtain ⟨hlo, hhi, hfree⟩ := pickTxn_free (lo := Config.firstGlyphTxn) (count := 12) (own := own)
    (used := l.outstanding.map (fun x => x.1)) (by rw [List.length_map]; exact hroom)
  refine ⟨hset, hmore, ?_, fun x hx => ?_, ?_, fun x hx => ?_⟩
  · rw [List.length_append]; exact hroom
  · rcases List.mem_append.1 hx with hx | hx
    · exact Nat.lt_succ_of_lt (hlines x hx)
    · rw [List.mem_singleton.1 hx]; exact Nat.lt_succ_self _
  · rw [List.map_append, List.nodup_append]
    refine ⟨hnodup, List.nodup_singleton _, ?_⟩
    rintro a ha b hb rfl
    obtain rfl := List.mem_singleton.1 hb
    exact hfree ha
  · rcases List.mem_append.1 hx with hx | hx
    · exact hown x hx
    · rw [List.mem_singleton.1 hx]; exact ⟨hlo, hhi⟩

end

/-! ### The operations of the loader -/

section
variable {p : PatchUnit}

/-- A picture that drops a VALID record lists its cells as before (R91). -/
theorem invalidate_leadsTo (f : Surface) (k : Nat) : f.LeadsTo (f.invalidate k) :=
  ⟨id, id, rfl, rfl, id⟩

/-- A load begun has no read in flight (R91). -/
theorem beginLoad_keeps {k : Nat} (hk : k < 2) (source sum : Nat) :
    p.Keeps (p.beginLoad k source sum) where
  screens hi := hi.mapSurfaces (g := fun f => f.invalidate k) rfl rfl
    (by simp [Surface.invalidate, Picture.invalidate, Surface.vacant, Picture.blank])
    fun f => invalidate_leadsTo f k
  glyphs hi := hi.of_bytes List.length_set (putSet_state_bytes p k .loading)
    ⟨hk, Nat.zero_le _, Nat.zero_le _, by simp, List.nodup_nil, by simp⟩

/-- The unit with a load ended, before the IDLE surfaces commit (R92). -/
def PatchUnit.loadEnded (p : PatchUnit) (l : Load) : PatchUnit :=
  { p.putSet l.set { p.set l.set with state := if p.loadGood l then .valid else .bad } with
    loader := .idle }

theorem endLoad_def (p : PatchUnit) (l : Load) :
    p.endLoad l = (p.loadEnded l).commitIdleEach surfaceNumbers := rfl

/-- The completion of a load changes the state of its set and leaves the loader idle (R92). -/
theorem endLoad_keeps (l : Load) : p.Keeps (p.endLoad l) := by
  have hended : p.Keeps (p.loadEnded l) := keeps_of_glyphs (fun hi =>
    hi.of_bytes List.length_set (putSet_state_bytes p l.set _) trivial) rfl rfl
  rw [endLoad_def]
  exact hended.trans (commitIdleEach_keeps ..)

/-- An aborted load drains the reads in flight (R93). -/
theorem abortLoad_keeps : p.Keeps p.abortLoad := by
  unfold PatchUnit.abortLoad
  split
  · next l hl =>
    refine keeps_of_glyphs (fun hi => hi.of_bytes List.length_set
      (putSet_state_bytes p l.set .empty) ?_) rfl rfl
    have hsound := hi.loader
    rw [hl] at hsound
    obtain ⟨-, -, hlen, -⟩ := hsound
    dsimp only
    split
    · exact trivial
    · exact (List.length_map ..).trans_le hlen
  · exact .refl p

/-- The loader becomes idle once nothing is to be drained (R93). -/
theorem idleLoader_keeps : p.Keeps { p with loader := .idle } :=
  keeps_of_glyphs (fun hi => hi.withLoader trivial) rfl rfl

/-- What a response on a number of the loader can do: nothing, drain a number, mark the load, or
write the line that was read under the number (R92, R93, R161). -/
theorem glyphResponse_cases {txn : Nat} {reply : Reply} {q : PatchUnit}
    (h : p.glyphResponse txn reply = some q) :
    q = p ∨
    (∃ l, p.loader = .draining l ∧
      q = { p with loader := .draining (l.filter (fun x => x != txn)) }) ∨
    ∃ l line, p.loader = .busy l ∧ (txn, line) ∈ l.outstanding ∧
      (q = { p with loader := .busy { l with
          outstanding := l.outstanding.filter (fun y => y.1 != txn), failed := true } } ∨
        ∃ data, q = { p.lineWritten l.set line data with
          loader := .busy { l with
            outstanding := l.outstanding.filter (fun y => y.1 != txn) } }) := by
  unfold PatchUnit.glyphResponse at h
  split at h
  · cases h; exact .inl rfl
  · next l hl =>
    split at h <;> cases h
    exact .inr (.inl ⟨l, hl, rfl⟩)
  · next l hl =>
    split at h
    · cases h; exact .inl rfl
    · next x hx =>
      obtain rfl : x.1 = txn := by simpa using List.find?_some hx
      have hmem : (x.1, x.2) ∈ l.outstanding := List.mem_of_find?_eq_some hx
      split at h <;> cases h
      · exact .inr (.inr ⟨l, x.2, hl, hmem, .inl rfl⟩)
      · exact .inr (.inr ⟨l, x.2, hl, hmem, .inr ⟨_, rfl⟩⟩)

/-- A response to the loader keeps the store (R90, R92, R93). -/
theorem glyphResponse_keeps {txn : Nat} {reply : Reply} {q : PatchUnit}
    (h : p.glyphResponse txn reply = some q) : p.Keeps q := by
  rcases glyphResponse_cases h with rfl | ⟨l, hl, rfl⟩ | ⟨l, line, hl, hmem, rfl | ⟨data, rfl⟩⟩
  · exact .refl _
  · refine keeps_of_glyphs (fun hi => hi.withLoader ?_) rfl rfl
    have hsound := hi.loader
    rw [hl] at hsound
    exact (List.length_filter_le ..).trans hsound
  · refine keeps_of_glyphs (fun hi => hi.withLoader ?_) rfl rfl
    have hsound := hi.loader
    rw [hl] at hsound
    exact answered_sound hsound ..
  · refine keeps_of_glyphs (fun hi => ?_) rfl rfl
    have hsound := hi.loader
    rw [hl] at hsound
    obtain ⟨-, hnext, -, hlines, -⟩ := id hsound
    exact (hi.lineWritten l.set (Nat.lt_of_lt_of_le (hlines _ hmem) hnext) data).withLoader
      (answered_sound hsound _ l.failed)

/-- The next line of a load is read (R92, R161). -/
theorem issueLine_keeps {l : Load} (hl : p.loader = .busy l) (hreq : l.requests = true)
    (own : Nat) : p.Keeps { p with loader := .busy { l with
      next := l.next + 1
      outstanding := l.outstanding ++ [(pickTxn Config.firstGlyphTxn 12 own
        (l.outstanding.map (fun x => x.1)), l.next)] } } := by
  refine keeps_of_glyphs (fun hi => hi.withLoader ?_) rfl rfl
  have hsound := hi.loader
  rw [hl] at hsound
  exact issued_sound hsound hreq own

end

end Sys2Proof.Machine

namespace Sys2Proof.Machine

/-! ### What leaves the screens and the glyph store alone -/

section
variable (s : State)

@[simp] theorem State.raiseAll_patch (l : List Cause) : (s.raiseAll l).patch = s.patch := by
  rw [raiseAll_eq]; rfl
@[simp] theorem State.refuse_patch (code tag : Nat) (status : Status) :
    (s.refuse code tag status).patch = s.patch := rfl
@[simp] theorem State.answer_patch (code tag : Nat) (result : List Byte) :
    (s.answer code tag result).patch = s.patch := rfl
@[simp] theorem handView_store (v : Nat) : (s.handView v).patch.store = s.patch.store := by
  simp [PatchUnit.store]

@[simp] theorem tallyDone_store (u : TallyUnit) (out : List BoardEvent) :
    (s.tallyDone u out).patch.store = s.patch.store := rfl
@[simp] theorem boardDone_store (views : List BoardView) :
    (s.boardDone views).patch.store = s.patch.store := rfl
@[simp] theorem noticeDone_store (u : NoticeUnit) :
    (s.noticeDone u).patch.store = s.patch.store := rfl

/-! ### The other units' events that leave them -/

theorem takeMinute_store : (takeMinute s).patch.store = s.patch.store := by
  unfold takeMinute
  split
  · exact tallyDone_store ..
  · rfl
theorem takeExpiry_store : (takeExpiry s).patch.store = s.patch.store := by
  unfold takeExpiry
  split
  · exact tallyDone_store ..
  · rfl
theorem takeBoardEvent_store : (takeBoardEvent s).patch.store = s.patch.store := by
  unfold takeBoardEvent; split <;> rfl
theorem takeBoardMinute_store : (takeBoardMinute s).patch.store = s.patch.store := by
  unfold takeBoardMinute; split <;> rfl
theorem takeDwell_store (k : Nat) : (takeDwell k s).patch.store = s.patch.store := by
  unfold takeDwell
  split
  · rfl
  · split <;> rfl
theorem settleDwells_store (n : Nat) : (settleDwells n s).patch.store = s.patch.store := by
  induction n generalizing s with
  | zero => rfl
  | succ n ih => rw [settleDwells, ih, takeDwell_store]
theorem takeNoticeTick_store : (takeNoticeTick s).patch.store = s.patch.store := by
  unfold takeNoticeTick
  split
  · exact noticeDone_store ..
  · rfl
theorem noticeTally_store (e : TallyEvent) : (noticeTally e s).patch.store = s.patch.store := by
  simp only [noticeTally]
  split
  · rw [State.raise_patch, noticeDone_store]
  · exact noticeDone_store ..
theorem takeNoticeEvent_store : (takeNoticeEvent s).patch.store = s.patch.store := by
  unfold takeNoticeEvent
  split
  · rw [noticeTally_store]; rfl
  · rfl
theorem takeFlagHandOn_store : (takeFlagHandOn s).patch.store = s.patch.store := by
  unfold takeFlagHandOn; split <;> rfl
theorem takeRetry_store (k : Nat) : (takeRetry k s).patch.store = s.patch.store := by
  unfold takeRetry; split <;> rfl
theorem settleRetries_store (n : Nat) : (settleRetries n s).patch.store = s.patch.store := by
  induction n generalizing s with
  | zero => rfl
  | succ n ih => rw [settleRetries, ih, takeRetry_store]
theorem takeSecond_store : (takeSecond s).patch.store = s.patch.store := by
  simp only [takeSecond]
  split <;> split <;> rfl
theorem ownRecord_store (r : Record) : (ownRecord r s).state.patch.store = s.patch.store := by
  unfold ownRecord; split <;> rfl
theorem processStep_store : (processStep s).patch.store = s.patch.store := by
  unfold processStep
  split
  · rfl
  · split
    · rw [State.withIntake_patch]
      unfold applyRecord
      split
      · rfl
      · split
        · rfl
        · exact ownRecord_store ..
    · rfl

/-! ### The commands that leave them -/

theorem cmdSetMode_patch (tag mode : Nat) : (cmdSetMode tag mode s).patch = s.patch := by
  unfold cmdSetMode; split <;> rfl
theorem cmdSetIntake_patch (tag : Nat) (p : IntakeParams) :
    (cmdSetIntake tag p s).patch = s.patch := by
  unfold cmdSetIntake; split_ifs <;> rfl
theorem cmdSetTally_store (tag : Nat) (p : TallyParams) :
    (cmdSetTally tag p s).patch.store = s.patch.store := by
  simp only [cmdSetTally]
  rw [State.answer_patch, tallyDone_store]
theorem cmdClearCauses_patch (tag mask : Nat) : (cmdClearCauses tag mask s).patch = s.patch := by
  unfold cmdClearCauses; split <;> rfl
theorem cmdInspect_patch (tag kind index : Nat) :
    (cmdInspect tag kind index s).patch = s.patch := by
  unfold cmdInspect; split <;> rfl
theorem cmdSetPane_patch (tag : Nat) (p : PaneParams) : (cmdSetPane tag p s).patch = s.patch := by
  unfold cmdSetPane
  split_ifs
  any_goals rfl
  split <;> rfl
theorem cmdSetPlaylist_patch (tag pane first count : Nat) (entries : List EntryParams) :
    (cmdSetPlaylist tag pane first count entries s).patch = s.patch := by
  unfold cmdSetPlaylist; split_ifs <;> rfl
theorem cmdPlayStart_patch (tag pane entry now : Nat) :
    (cmdPlayStart tag pane entry now s).patch = s.patch := by
  unfold cmdPlayStart
  split
  · rfl
  · split <;> rfl
theorem cmdPlayResume_patch (tag pane : Nat) : (cmdPlayResume tag pane s).patch = s.patch := by
  unfold cmdPlayResume
  split
  · rfl
  · split
    · rfl
    · rfl
    · simp only [State.resumed]; split <;> rfl
theorem cmdPlayStop_patch (tag pane : Nat) : (cmdPlayStop tag pane s).patch = s.patch := by
  unfold cmdPlayStop; split <;> rfl
theorem cmdPaneClear_patch (tag pane : Nat) : (cmdPaneClear tag pane s).patch = s.patch := by
  unfold cmdPaneClear; split <;> rfl

/-! ### The traffic that leaves them -/

theorem scanRead_patch (k : Nat) (r : Request) : (scanRead k r s).patch = s.patch := by
  simp only [scanRead]; split <;> rfl
theorem takeWrite_patch (a : Nat) (full : Bool) (data : Line) :
    (takeWrite a full data s).patch = s.patch := by
  unfold takeWrite
  split
  · simp [takeIntake]
  · split
    · simp [takeMarker]
    · rfl
theorem State.returnRead_patch (t : Tracked) : (s.returnRead t).patch = s.patch := by
  unfold State.returnRead; split <;> rfl
theorem State.countLate_store (t : Tracked) : (s.countLate t).patch.store = s.patch.store := by
  unfold State.countLate; split <;> rfl
theorem returnData_store (e : InFlight) (data : Line) :
    (returnData e data s).patch.store = s.patch.store := by
  simp [returnData, State.returnRead_patch, State.countLate_store]
theorem returnError_patch (e : InFlight) : (returnError e s).patch = s.patch := by
  simp [returnError, State.returnRead_patch]
theorem grantStream_patch (run : Nat) : (grantStream run s).patch = s.patch := by
  unfold grantStream; split <;> rfl
theorem grantVerdict_patch (own : Nat) : (grantVerdict own s).patch = s.patch := by
  unfold grantVerdict; split <;> rfl

/-! ### The Patch Unit's own events -/

/-- A derivation from a state that has the store of another keeps what holds of the other. -/
theorem derive_keeps_from {u : State} (reached : Source → Bool)
    (h : u.patch.store = s.patch.store) : s.patch.Keeps (u.derive reached).patch :=
  (keeps_of_store h).trans (derive_keeps u reached)

theorem takeFromTally_patchKeeps : s.patch.Keeps (takeFromTally s).patch := by
  unfold takeFromTally
  split
  · exact derive_keeps_from _ _ rfl
  · exact .refl _
theorem takeFromBoard_patchKeeps : s.patch.Keeps (takeFromBoard s).patch := by
  unfold takeFromBoard
  split
  · exact derive_keeps_from _ _ (handView_store ..)
  · exact .refl _
theorem takeClockCells_patchKeeps : s.patch.Keeps (takeClockCells s).patch := by
  unfold takeClockCells
  split
  · exact derive_keeps_from _ _ rfl
  · exact .refl _

/-- A top notice taken stores a flag and a text, and derives the cells that read it (R58, R84). -/
theorem applyTop_patchKeeps (h : TopHandOn) : s.patch.Keeps (s.applyTop h).patch := by
  have htext : s.patch.Keeps { s.patch with
      noticeText := s.patch.noticeText.set h.surface h.text } := keeps_of_store rfl
  have hstored : s.patch.Keeps (s.topStored h).patch :=
    (htext.trans (withFlag_keeps ..)).trans (commitIdle_keeps ..)
  rw [applyTop_eq]
  exact hstored.trans (derive_keeps ..)

theorem applyTops_patchKeeps (l : List TopHandOn) : s.patch.Keeps (s.applyTops l).patch := by
  induction l generalizing s with
  | nil => exact .refl _
  | cons h rest ih => exact (applyTop_patchKeeps s h).trans (ih _)

theorem settleTops_patchKeeps : s.patch.Keeps (settleTops s).patch := by
  have hqueue : s.patch.Keeps { s.patch with fromNotice := [] } := keeps_of_store rfl
  exact hqueue.trans (applyTops_patchKeeps (s.withPatch { s.patch with fromNotice := [] }) _)

theorem takeFromNotice_patchKeeps : s.patch.Keeps (takeFromNotice s).patch := by
  unfold takeFromNotice
  split
  · next h rest _ =>
    have hqueue : s.patch.Keeps { s.patch with fromNotice := rest } := keeps_of_store rfl
    exact hqueue.trans (applyTop_patchKeeps (s.withPatch { s.patch with fromNotice := rest }) h)
  · exact .refl _

theorem takeLoadDone_patchKeeps : s.patch.Keeps (takeLoadDone s).patch := by
  unfold takeLoadDone
  split
  · next l _ =>
    split
    · split <;> simp only [State.raise_patch, State.withPatch_patch] <;> exact endLoad_keeps l
    · exact .refl _
  · exact .refl _
theorem takeDrainEnd_patchKeeps : s.patch.Keeps (takeDrainEnd s).patch := by
  unfold takeDrainEnd
  split
  · exact idleLoader_keeps
  · exact .refl _

/-- A seconds tick settles the events of the tick before, of which that of the CLOCK cells alone
reaches the cells (R164). -/
theorem secondsTick_patchKeeps : s.patch.Keeps (secondsTick s).patch := by
  have hsettled : s.patch.Keeps (settleTick s).patch := by
    refine PatchUnit.Keeps.trans (keeps_of_store ?_) (takeClockCells_patchKeeps _)
    rw [settleRetries_store, takeNoticeTick_store, takeBoardMinute_store, settleDwells_store,
      takeMinute_store, takeExpiry_store]
  unfold secondsTick
  split
  · exact .refl _
  · exact hsettled.trans (keeps_of_store (takeSecond_store _))

/-! ### The commands that change the screens or the glyph store -/

theorem cmdSetClock_patchKeeps (tag minute second : Nat) :
    s.patch.Keeps (cmdSetClock tag minute second s).patch := by
  unfold cmdSetClock
  split
  · exact .refl _
  · rw [State.answer_patch]
    exact derive_keeps_from _ _ ((boardDone_store ..).trans (tallyDone_store ..))
theorem cmdDayStart_patchKeeps (tag minute origin : Nat) :
    s.patch.Keeps (cmdDayStart tag minute origin s).patch := by
  unfold cmdDayStart
  split
  · exact .refl _
  · rw [State.answer_patch]
    exact derive_keeps_from _ _ ((boardDone_store ..).trans (tallyDone_store ..))
theorem cmdSetWords_patchKeeps (tag : Nat) (words : List Nat) :
    s.patch.Keeps (cmdSetWords tag words s).patch := by
  unfold cmdSetWords
  split
  · rw [State.answer_patch]
    exact derive_keeps_from _ _ rfl
  · exact .refl _
theorem cmdSetView_patchKeeps (tag : Nat) (p : ViewParams) :
    s.patch.Keeps (cmdSetView tag p s).patch := by
  unfold cmdSetView
  split
  · exact .refl _
  · split
    · exact .refl _
    · rw [State.answer_patch]
      exact derive_keeps_from _ _ (handView_store ..)
theorem cmdSetSegment_patchKeeps (tag segment : Nat) (text : List Byte) :
    s.patch.Keeps (cmdSetSegment tag segment text s).patch := by
  unfold cmdSetSegment
  split
  · exact .refl _
  · split
    · exact .refl _
    · rw [State.answer_patch]
      exact derive_keeps_from _ _ rfl
theorem noticeDone_settled_patchKeeps (u : NoticeUnit) :
    s.patch.Keeps (settleTops (s.noticeDone u)).patch :=
  (keeps_of_store (noticeDone_store s u)).trans (settleTops_patchKeeps (s.noticeDone u))
theorem cmdSetTrigger_patchKeeps (tag : Nat) (p : TriggerParams) :
    s.patch.Keeps (cmdSetTrigger tag p s).patch := by
  unfold cmdSetTrigger
  split
  · exact .refl _
  · exact noticeDone_settled_patchKeeps ..
theorem cmdClearTrigger_patchKeeps (tag trigger : Nat) :
    s.patch.Keeps (cmdClearTrigger tag trigger s).patch := by
  unfold cmdClearTrigger
  split
  · exact .refl _
  · exact noticeDone_settled_patchKeeps ..

/-- SET_SURFACE stores what its tests have passed (R76, R77). -/
theorem cmdSetSurface_patchKeeps (tag : Nat) (p : SurfaceParams) :
    s.patch.Keeps (cmdSetSurface tag p s).patch := by
  unfold cmdSetSurface
  split_ifs with _ _ _ _ _ hstrands
  any_goals exact .refl _
  exact configured_keeps p fun _ _ hn hk hset =>
    fits_of_not_stranded (Bool.eq_false_iff.2 hstrands) hn hk hset

theorem cmdSetCell_patchKeeps (tag : Nat) (p : CellParams) :
    s.patch.Keeps (cmdSetCell tag p s).patch := by
  unfold cmdSetCell
  split
  · exact .refl _
  · next hc =>
    refine putCell_keeps _ _ fun d hd => ?_
    cases hd
    exact cellConfig_sound hc (fitText_length ..)
theorem cmdClearCell_patchKeeps (tag cell : Nat) :
    s.patch.Keeps (cmdClearCell tag cell s).patch := by
  unfold cmdClearCell
  split
  · exact .refl _
  · exact putCell_keeps _ _ fun d hd => by cases hd
theorem cmdLoadGlyphs_patchKeeps (tag set source sum : Nat) :
    s.patch.Keeps (cmdLoadGlyphs tag set source sum s).patch := by
  unfold cmdLoadGlyphs
  split_ifs with hbad
  any_goals exact .refl _
  exact beginLoad_keeps (by omega) source sum

/-- WARM_RESET aborts the load, takes back the flags, and derives and commits afresh (R93, R179). -/
theorem cmdWarmReset_patchKeeps (tag : Nat) : s.patch.Keeps (cmdWarmReset tag s).patch := by
  have hunits : s.patch.Keeps s.resetUnits.patch := by
    refine abortLoad_keeps.trans (keeps_of_screens (fun hi => ?_) rfl rfl)
    refine hi.mapSurfaces (g := fun f => { f with pendingFlag := false }) rfl ?_ rfl
      fun _ => ⟨id, id, rfl, rfl, id⟩
    rw [abortLoad_eq]
    rfl
  change s.patch.Keeps (s.warmed.answer 2 tag []).patch
  rw [State.answer_patch, warmed_patch]
  exact (hunits.trans (derive_keeps ..)).trans (commitIdleEach_keeps ..)

/-- Every command line keeps the screens and the glyph store. -/
theorem runCommand_patchKeeps (c : Instr) : s.patch.Keeps (runCommand c s).patch := by
  unfold runCommand
  split
  case h_1 => exact keeps_of_store (by rw [cmdSetMode_patch])
  case h_2 => exact cmdWarmReset_patchKeeps ..
  case h_3 => exact cmdSetClock_patchKeeps ..
  case h_4 => exact cmdDayStart_patchKeeps ..
  case h_5 => exact keeps_of_store (by rw [cmdSetIntake_patch])
  case h_6 => exact keeps_of_store (cmdSetTally_store ..)
  case h_7 => exact cmdSetWords_patchKeeps ..
  case h_8 => exact cmdSetView_patchKeeps ..
  case h_9 => exact cmdSetSurface_patchKeeps ..
  case h_10 => exact cmdSetCell_patchKeeps ..
  case h_11 => exact cmdClearCell_patchKeeps ..
  case h_12 => exact cmdLoadGlyphs_patchKeeps ..
  case h_13 => exact cmdSetSegment_patchKeeps ..
  case h_14 => exact cmdSetTrigger_patchKeeps ..
  case h_15 => exact cmdClearTrigger_patchKeeps ..
  case h_16 => exact keeps_of_store (by rw [cmdSetPane_patch])
  case h_17 => exact keeps_of_store (by rw [cmdSetPlaylist_patch])
  case h_18 => exact keeps_of_store (by rw [cmdPlayStart_patch])
  case h_19 => exact keeps_of_store (by rw [cmdPlayResume_patch])
  case h_20 => exact keeps_of_store (by rw [cmdPlayStop_patch])
  case h_21 => exact keeps_of_store (by rw [cmdPaneClear_patch])
  case h_23 => exact keeps_of_store (by rw [cmdClearCauses_patch])
  case h_24 => exact keeps_of_store (by rw [cmdInspect_patch])
  all_goals exact .refl _

/-! ### Requests, responses and grants -/

theorem takeRead_patchKeeps (r : Request) : s.patch.Keeps (takeRead r s).patch := by
  unfold takeRead
  split
  · exact .refl _
  · split
    · exact .refl _
    · next k _ =>
      split
      · rw [scanRead_patch]
        simp only [frameStart, State.raiseAll_patch]
        exact patch_frameStart_keeps _ k
      · exact keeps_of_store (by rw [scanRead_patch])

theorem recognise_patchKeeps (r : Request) : s.patch.Keeps (recognise r s).patch := by
  unfold recognise
  split_ifs
  · unfold takeAnchor
    split
    · split
      · rw [State.forward_patch]
        unfold takeCommand
        split_ifs
        · exact .refl _
        · exact .refl _
        · split
          · exact .refl _
          · exact runCommand_patchKeeps ..
      · exact .refl _
    · split <;> exact .refl _
  · exact .refl _
  · split
    · exact takeRead_patchKeeps ..
    · exact keeps_of_store (by rw [State.forward_patch, takeWrite_patch])

theorem grantGlyph_patchKeeps (own : Nat) (h : s.patch.loader.requests = true) :
    s.patch.Keeps (grantGlyph own s).patch := by
  unfold grantGlyph
  split
  · next l hl =>
    rw [hl] at h
    exact issueLine_keeps hl h own
  · exact .refl _
  · exact .refl _

/-- An own request is granted where one waits: the verdict writer's, else the loader's (R162). -/
theorem grantOwn_patchKeeps (own : Nat) (h : s.ownWaits = true) :
    s.patch.Keeps (grantOwn own s).patch := by
  simp only [grantOwn]
  split
  · exact keeps_of_store (by rw [grantVerdict_patch]; rfl)
  · next hno =>
    refine grantGlyph_patchKeeps (s.withPath { s.path with run := 0 }) own ?_
    exact (Bool.or_eq_true_iff.1 h).resolve_left hno

theorem grant_patchKeeps (own : Nat) : s.patch.Keeps (grant own s).patch := by
  unfold grant
  split_ifs with _ hown hown
  · exact grantOwn_patchKeeps s own hown
  · exact .refl _
  · exact keeps_of_store (by rw [grantStream_patch])
  · exact grantOwn_patchKeeps s own hown
  · exact keeps_of_store (by rw [grantStream_patch])

end

section
variable {s t : State}

theorem takeResponse_patchKeeps {r : Response} (h : takeResponse r s = .next t) :
    s.patch.Keeps t.patch := by
  unfold takeResponse at h
  split_ifs at h
  · unfold verdictResponse at h
    refine keeps_of_store ?_
    split at h
    · split at h <;> cases h
      rfl
    · cases h; simp
    · cases h; simp
  · unfold loaderResponse at h
    split at h
    · cases h
    · next hp => cases h; exact glyphResponse_keeps hp
  · unfold playerResponse at h
    refine keeps_of_store ?_
    split at h
    · cases h; rfl
    · split at h <;> cases h
      · exact returnData_store ..
      · rw [returnError_patch]

theorem takeOldest_patchKeeps (h : takeOldest s = .next t) : s.patch.Keeps t.patch := by
  unfold takeOldest at h
  split at h
  · cases h; exact .refl _
  · split at h
    · cases h; exact .refl _
    · next r rest _ =>
      unfold takeRequest at h
      split_ifs at h <;> cases h
      · exact .refl _
      · exact recognise_patchKeeps (s.withPath { s.path with waiting := rest }) r

/-! ### Every command -/

/-- Every command keeps the screens and the glyph store. -/
theorem exec_patchKeeps {c : Instr} (h : exec c s = .next t) : s.patch.Keeps t.patch := by
  have keeps : ∀ {f : State → State}, whenRunning f s = .next t → s.patch.Keeps (f s).patch →
      s.patch.Keeps t.patch := fun h hf =>
    whenRunning_keeps (P := fun u => s.patch.Keeps u.patch) h (.refl _) hf
  have same : ∀ {f : State → State}, whenRunning f s = .next t →
      (f s).patch.store = s.patch.store → s.patch.Keeps t.patch :=
    fun h hf => keeps h (keeps_of_store hf)
  have may : ∀ {f : State → Host.Outcome State Fault Refusal}, unlessReset f s = .next t →
      (f s = .next t → s.patch.Keeps t.patch) → s.patch.Keeps t.patch := fun h hf =>
    unlessReset_keeps (P := fun u => s.patch.Keeps u.patch) h (.refl _) hf
  have line : ∀ {c : Instr}, whenRunning (runCommand c) s = .next t → s.patch.Keeps t.patch :=
    fun h => keeps h (runCommand_patchKeeps s _)
  cases c with
  | resetRelease straps =>
    cases h; exact ⟨fun _ => screen_powerOn_sound, fun _ => glyph_powerOn_sound⟩
  | resetAssert => cases h; exact .refl _
  | millisecondTick => exact keeps h (millisecond_keeps s.patch)
  | secondsTick => exact keeps h (secondsTick_patchKeeps s)
  | changeOfMinute => exact same h (takeMinute_store s)
  | boardMinuteRecompute => exact same h (takeBoardMinute_store s)
  | clockCellUpdate => exact keeps h (takeClockCells_patchKeeps s)
  | holdExpiry => exact same h (takeExpiry_store s)
  | dwellExpiry view => exact same h (takeDwell_store s view)
  | timedNoticeExpiry => exact same h (takeNoticeTick_store s)
  | cyclePhaseExpiry => exact same h (takeNoticeTick_store s)
  | retryTimerExpiry pane => exact same h (takeRetry_store s pane)
  | idleTimerExpiry surface =>
    exact keeps (f := fun u => u.withPatch (u.patch.idleExpiry surface)) h
      (idleExpiry_keeps s.patch surface)
  | boardTallyEvent => exact same h (takeBoardEvent_store s)
  | noticeTallyEvent => exact same h (takeNoticeEvent_store s)
  | paneTallyEvent => exact same h rfl
  | patchSourceChange source =>
    cases source with
    | tally => exact keeps h (takeFromTally_patchKeeps s)
    | board => exact keeps h (takeFromBoard_patchKeeps s)
    | notice => exact keeps h (takeFromNotice_patchKeeps s)
  | paneFullscreenFlag => exact same h (takeFlagHandOn_store s)
  | upstreamRequest offer =>
    exact may (f := fun u => takeOldest (offerRequest offer u)) h
      (takeOldest_patchKeeps (s := offerRequest offer s))
  | downstreamResponse response => exact may (f := takeResponse response) h takeResponse_patchKeeps
  | loadDone => exact keeps h (takeLoadDone_patchKeeps s)
  | loaderDrainEnd => exact keeps h (takeDrainEnd_patchKeeps s)
  | slotFree response =>
    refine may (f := fun u => if u.freesSlot response then takeResponse response u else .next u) h
      fun h => ?_
    split at h
    · exact takeResponse_patchKeeps h
    · cases h; exact .refl _
  | downstreamGrant own => exact keeps h (grant_patchKeeps s own)
  | processingStep => exact same h (processStep_store s)
  | anchorLineWrite line initiator txn enables data =>
    unfold exec execAnchorLineWrite at h
    refine may h fun h => ?_
    split at h
    · exact takeOldest_patchKeeps (s := offerRequest _ s) h
    · cases h; exact .refl _
  | setMode tag mode => exact line (c := .setMode tag mode) h
  | warmReset tag => exact line (c := .warmReset tag) h
  | setClock tag minute second => exact line (c := .setClock tag minute second) h
  | dayStart tag minute origin => exact line (c := .dayStart tag minute origin) h
  | setIntake tag params => exact line (c := .setIntake tag params) h
  | setTally tag params => exact line (c := .setTally tag params) h
  | setWords tag words => exact line (c := .setWords tag words) h
  | setView tag params => exact line (c := .setView tag params) h
  | setSurface tag params => exact line (c := .setSurface tag params) h
  | setCell tag params => exact line (c := .setCell tag params) h
  | clearCell tag cell => exact line (c := .clearCell tag cell) h
  | loadGlyphs tag set source sum => exact line (c := .loadGlyphs tag set source sum) h
  | setSegment tag segment text => exact line (c := .setSegment tag segment text) h
  | setTrigger tag params => exact line (c := .setTrigger tag params) h
  | clearTrigger tag trigger => exact line (c := .clearTrigger tag trigger) h
  | setPane tag params => exact line (c := .setPane tag params) h
  | setPlaylist tag pane first count entries =>
    exact line (c := .setPlaylist tag pane first count entries) h
  | playStart tag pane entry now => exact line (c := .playStart tag pane entry now) h
  | playResume tag pane => exact line (c := .playResume tag pane) h
  | playStop tag pane => exact line (c := .playStop tag pane) h
  | paneClear tag pane => exact line (c := .paneClear tag pane) h
  | setMask tag mask => exact line (c := .setMask tag mask) h
  | clearCauses tag mask => exact line (c := .clearCauses tag mask) h
  | inspect tag kind index => exact line (c := .inspect tag kind index) h

/-- A step keeps the screens and the glyph store: an idle one changes nothing. -/
theorem step_patchKeeps (h : step s = .next t) : s.patch.Keeps t.patch := by
  unfold step at h
  split at h
  · cases h; exact .refl _
  · next c rest _ => exact exec_patchKeeps (s := s.withPending rest) h

end

/-- Settles O52: every command keeps the screens, operation by operation of the Patch Unit. -/
theorem screensStaySound : Obligations.ScreensStaySound := fun _ _ hi h =>
  (step_patchKeeps h).screens hi

/-- Settles O53: every command keeps the glyph store, operation by operation of the Patch Unit. -/
theorem glyphStoreStaysSound : Obligations.GlyphStoreStaysSound := fun _ _ hi h =>
  (step_patchKeeps h).glyphs hi

end Sys2Proof.Machine

namespace Sys2Proof.Machine

/-! ### Responses to the glyph loader -/

section
variable {s : State}

/-- A response on a number of the glyph loader is the loader's (R161). -/
theorem downstreamResponse_loader (hr : s.path.resetHeld = false) {r : Response}
    (hlo : 68 ≤ r.txn) (hhi : r.txn < 80) :
    exec (.downstreamResponse r) s = loaderResponse r.txn r.reply s := by
  change unlessReset (takeResponse r) s = _
  rw [unlessReset_runs hr, takeResponse, if_neg (by simp only [Config.firstGlyphTxn]; omega),
    if_pos ⟨hlo, hhi⟩]

/-- What the loader makes of a response it takes is the whole effect. -/
theorem loaderResponse_next {txn : Nat} {reply : Reply} {p : PatchUnit}
    (h : s.patch.glyphResponse txn reply = some p) :
    loaderResponse txn reply s = .next { s with patch := p } := by
  rw [loaderResponse, h]; rfl

end

section
variable {p : PatchUnit} {l : Load} {txn line : Nat}

/-- A number in use is found with its line. -/
theorem find_outstanding (hnodup : (l.outstanding.map (fun x => x.1)).Nodup)
    (hmem : (txn, line) ∈ l.outstanding) :
    l.outstanding.find? (fun x => x.1 == txn) = some (txn, line) := by
  rcases hfind : l.outstanding.find? (fun x => x.1 == txn) with _ | x
  · simpa using List.find?_eq_none.1 hfind _ hmem
  · have htxn : x.1 = txn := by simpa using List.find?_some hfind
    exact hfind.trans (congrArg some
      (List.inj_on_of_nodup_map hnodup (List.mem_of_find?_eq_some hfind) hmem htxn))

/-- A line returned is written from its place on (R92). -/
theorem glyphResponse_data (hl : p.loader = .busy l)
    (hfind : l.outstanding.find? (fun x => x.1 == txn) = some (txn, line)) (data : Line) :
    p.glyphResponse txn (.data data) = some { p.lineWritten l.set line data with
      loader := .busy { l with outstanding := l.outstanding.filter (fun y => y.1 != txn) } } := by
  rw [PatchUnit.glyphResponse, hl]
  dsimp only
  rw [hfind]
  rfl

/-- An error marks the load (R92, R160). -/
theorem glyphResponse_error (hl : p.loader = .busy l)
    (hfind : l.outstanding.find? (fun x => x.1 == txn) = some (txn, line)) :
    p.glyphResponse txn .error = some { p with loader := .busy { l with
      outstanding := l.outstanding.filter (fun y => y.1 != txn), failed := true } } := by
  rw [PatchUnit.glyphResponse, hl]
  dsimp only
  rw [hfind]

/-- While draining a response is discarded, and its number is free (R93). -/
theorem glyphResponse_draining {l : List Nat} (hl : p.loader = .draining l) {reply : Reply}
    (hack : reply ≠ .ack) : p.glyphResponse txn reply =
      some { p with loader := .draining (l.filter (fun x => x != txn)) } := by
  rw [PatchUnit.glyphResponse, hl]
  exact if_neg fun h => hack (by simpa using (Bool.and_eq_true_iff.1 h).2)

/-- A byte after a line is written: that of the line in its place, any other as it was (R92). -/
theorem lineWritten_byte (hi : GlyphInv p) {k : Nat} (hk : k < 2) {data : Line}
    (hdata : data.length = 64) (a : Nat) :
    readByte ((p.lineWritten k line data).set k).bytes a =
      if 64 * line ≤ a ∧ a < 64 * line + 64 then data.getD (a - 64 * line) 0
      else readByte (p.set k).bytes a := by
  rw [lineWritten_set, if_pos ⟨rfl, hi.sets_length.symm ▸ hk⟩, List.take_of_length_le hdata.le]
  dsimp only
  rw [readByte_writeBytes (hi.canonical k), hdata]

/-- A line written leaves the state of every set (R92). -/
theorem lineWritten_state (p : PatchUnit) (k line : Nat) (data : Line) (j : Nat) :
    ((p.lineWritten k line data).set j).state = (p.set j).state := by
  rw [lineWritten_set]
  split
  · next h => rw [h.1]
  · rfl

end

/-- Settles O24: a response under a number in use by the loader's three answers to it. -/
theorem glyphLinesAreWritten : Obligations.GlyphLinesAreWritten := by
  intro s hr hi
  refine ⟨fun l txn line initiator data hl hmem hdata => ?_,
    fun l txn initiator reply hl _ hlo hhi hack => ?_⟩
  · have hsound := hi.loader
    rw [hl] at hsound
    obtain ⟨hset, -, -, -, hnodup, hown⟩ := hsound
    obtain ⟨hlo, hhi⟩ := hown _ hmem
    have hfind := find_outstanding hnodup hmem
    have hexec := fun reply => downstreamResponse_loader hr
      (r := { initiator := initiator, txn := txn, reply := reply }) hlo hhi
    have hwritten := glyphResponse_data hl hfind data
    have hbytes := lineWritten_byte (line := line) hi hset hdata
    refine ⟨⟨_, (hexec _).trans (loaderResponse_next hwritten), rfl,
      lineWritten_state s.patch l.set line data, fun k a hk => ?_, fun i hlt => ?_, fun a ha => ?_,
      ((glyphResponse_keeps hwritten).glyphs hi).canonical⟩,
      (hexec _).trans (loaderResponse_next (glyphResponse_error hl hfind))⟩
    · have hother := lineWritten_set s.patch l.set line data k
      rw [if_neg fun h => hk h.1] at hother
      exact congrArg (fun g : GlyphSet => readByte g.bytes a) hother
    · refine (hbytes _).trans ?_
      rw [if_pos (by omega), Nat.add_sub_cancel_left]
    · exact (hbytes a).trans (if_neg (by omega))
  · exact (downstreamResponse_loader hr hlo hhi).trans
      (loaderResponse_next (glyphResponse_draining hl hack))

/-! ### A load begun -/

section
variable (p : PatchUnit) (k source sum : Nat)

/-- The set of a load begun is LOADING (R91). -/
theorem beginLoad_set (hk : k < p.sets.length) (j : Nat) :
    (p.beginLoad k source sum).set j =
      if j = k then { p.set j with state := .loading } else p.set j := by
  refine (PatchUnit.putSet_set p k j _).trans ?_
  by_cases hj : j = k
  · subst hj; simp [hk]
  · simp [hj]

/-- Every surface drops the VALID record of the set from both its pictures (R91). -/
theorem beginLoad_surface (j : Nat) :
    (p.beginLoad k source sum).surface j = (p.surface j).invalidate k :=
  getD_map (fun f : Surface => f.invalidate k) p.surfaces j Surface.vacant

/-- A picture that drops the VALID record of a set keeps that of the other (R91). -/
theorem invalidate_eq {k : Nat} (hk : k ≤ 1) (q : Picture) : q.invalidate k = { q with
    valid0 := q.valid0 && decide (k = 1), valid1 := q.valid1 && decide (k = 0) } := by
  obtain rfl | rfl := Nat.le_one_iff_eq_zero_or_eq_one.1 hk <;> simp [Picture.invalidate]

end

/-! ### A load ended -/

section
variable {s : State} {l : Load}

/-- Every read of a load issued and answered makes it complete (R92). -/
theorem complete_of (hnext : l.next = 576) (hdone : l.outstanding = []) : l.complete = true := by
  simp [Load.complete, hnext, hdone]

/-- A load is good exactly when no read failed and its sum is the expected one (R92). -/
theorem loadGood_iff (p : PatchUnit) (l : Load) : p.loadGood l = true ↔
    l.failed = false ∧ glyphSum (p.set l.set).bytes 18432 = l.sum := by
  simp [PatchUnit.loadGood, Config.glyphBytes]

/-- The completion of a load changes the sets, the loader and the surfaces alone. -/
theorem endLoad_eq (p : PatchUnit) (l : Load) : p.endLoad l = { p with
    sets := (p.endLoad l).sets, surfaces := (p.endLoad l).surfaces, loader := .idle } := by
  have hcommit := commitIdleEach_eq (p.loadEnded l) surfaceNumbers
  rw [← endLoad_def] at hcommit
  generalize p.endLoad l = q at hcommit ⊢
  rw [hcommit]
  rfl

/-- The set of a completed load is VALID or BAD (R92). -/
theorem endLoad_set (p : PatchUnit) (hk : l.set < p.sets.length) (j : Nat) :
    (p.endLoad l).set j = if j = l.set then
      { p.set j with state := if p.loadGood l = true then .valid else .bad } else p.set j := by
  have hcommit := commitIdleEach_eq (p.loadEnded l) surfaceNumbers
  rw [← endLoad_def] at hcommit
  generalize p.endLoad l = q at hcommit ⊢
  rw [hcommit]
  refine (PatchUnit.putSet_set p l.set j _).trans ?_
  by_cases hj : j = l.set
  · subst hj; simp [hk]
  · simp [hj]

/-- At the completion of a load the IDLE surfaces commit, and no other changes (R89, R92). -/
theorem endLoad_surface (p : PatchUnit) (l : Load) (k : Nat) :
    ((p.surface k).state ≠ .idle → (p.endLoad l).surface k = p.surface k) ∧
    ((p.surface k).state = .idle → k < 12 →
      (p.endLoad l).surface k = { p.surface k with
        current := ((p.endLoad l).surface k).current } ∧
      ((p.endLoad l).surface k).current.commits (p.endLoad l) k (p.surface k).pendingFlag) := by
  have hsurface : (p.loadEnded l).surface k = p.surface k := rfl
  rw [endLoad_def, ← hsurface]
  generalize p.loadEnded l = q
  have hcommit := commitIdleEach_surface q surfaceNumbers k
  refine ⟨fun hi => by rw [hcommit, if_neg fun h => hi h.2], fun hi hk => ?_⟩
  rw [if_pos ⟨List.mem_range.2 hk, hi⟩] at hcommit
  refine ⟨by rw [hcommit], ?_⟩
  rw [hcommit]
  exact commits_congr (by rw [commitIdleEach_eq]) (by rw [commitIdleEach_eq])
    (newPicture_commits q k _)

/-- LOAD_DONE, and GLYPH_BAD where the load is not good, are set (R92). -/
theorem loadCauses (c : BitVec 12) :
    c ||| Cause.loadDone.bit = c ||| 1#12 ∧
      c ||| Cause.loadDone.bit ||| Cause.glyphBad.bit = c ||| 3#12 :=
  ⟨rfl, BitVec.or_assoc ..⟩

/-- A complete load ends with its causes (R92). -/
theorem takeLoadDone_complete (hl : s.patch.loader = .busy l) (hc : l.complete = true) :
    takeLoadDone s = { s with
      patch := s.patch.endLoad l
      command := { s.command with
        causes := s.command.causes |||
          (if s.patch.loadGood l = true then 1#12 else 3#12) } } := by
  obtain ⟨hgood, hbad⟩ := loadCauses s.command.causes
  unfold takeLoadDone
  rw [hl]
  dsimp only
  rw [if_pos hc]
  generalize s.patch.endLoad l = q
  split
  · rw [← hgood]; rfl
  · rw [← hbad]; rfl

end

/-- Settles O27: the beginning, the completion and the draining end of a load, each by what it
leaves of the sets, the surfaces and the loader. -/
theorem glyphLoadRuns : Obligations.GlyphLoadRuns := by
  intro s hr
  refine ⟨fun tag set source sum hset halign hspace hidle hlen => ?_,
    fun l hl hnext hdone hset hlen => ?_, fun hl => ?_⟩
  · have hexec : exec (.loadGlyphs tag set source sum) s =
        .next ((s.withPatch (s.patch.beginLoad set source sum)).answer 12 tag []) := by
      change whenRunning (cmdLoadGlyphs tag set source sum) s = _
      rw [whenRunning_runs hr, cmdLoadGlyphs,
        if_neg (by simp only [Config.space, Config.glyphBytes]; omega), if_neg (not_not.2 hidle)]
    refine ⟨_, hexec, rfl, beginLoad_set _ _ _ _ (by omega), fun k q => ?_⟩
    have hsurface := beginLoad_surface s.patch set source sum k
    rw [State.answer_patch, State.withPatch_patch, hsurface]
    exact ⟨rfl, fun h => h ▸ invalidate_eq hset _, fun h => h ▸ invalidate_eq hset _⟩
  · have hexec : exec .loadDone s = .next (takeLoadDone s) := whenRunning_runs hr
    rw [takeLoadDone_complete hl (complete_of hnext hdone)] at hexec
    have hframe := endLoad_eq s.patch l
    have hsets := endLoad_set (l := l) s.patch (by omega)
    have hsurfaces := endLoad_surface s.patch l
    generalize s.patch.endLoad l = q at hexec hframe hsets hsurfaces
    refine ⟨_, s.patch.loadGood l, hexec, loadGood_iff .., ?_, hsets, hsurfaces⟩
    dsimp only
    rw [← hframe]
  · have hexec : exec .loaderDrainEnd s = .next (takeDrainEnd s) := whenRunning_runs hr
    rw [hexec, takeDrainEnd, hl]
    rfl

end Sys2Proof.Machine

namespace Sys2Proof.Machine

/-! ### The tests of SET_SURFACE -/

section
variable {s : State} {p : SurfaceParams}

/-- Test 3 of R76 passes the fields within their ranges. -/
theorem badSurface_iff (p : SurfaceParams) : badSurface p = false ↔
    p.base % 64 = 0 ∧ (16 ≤ p.width ∧ p.width ≤ 3840) ∧ (16 ≤ p.height ∧ p.height ≤ 2160) ∧
      (p.stride % 64 = 0 ∧ p.width * 4 ≤ p.stride ∧ p.stride ≤ 65536) ∧ p.scan ≤ 15 := by
  simp only [badSurface, Bool.or_eq_false_iff, bne_eq_false_iff_eq, decide_eq_false_iff_not]
  omega

/-- Whether a cell is stranded is a matter of its surface and its place (R76). -/
theorem strandsCell_iff (k width height : Nat) (c : Cell) :
    strandsCell k width height (some c) = false ↔ (c.config.surface = k →
      c.config.x + c.config.chars * 16 * c.config.scale ≤ width ∧
        c.config.y + 24 * c.config.scale ≤ height) := by
  simp [strandsCell, fitsSurface, -not_and, imp_iff_not_or]

/-- Whether a pane is stranded is a matter of its surface and its rectangle (R76). -/
theorem strandsPane_iff (k width height : Nat) (g : PaneSettings) :
    strandsPane k width height g = false ↔
      (g.surface = k → g.px + g.pw ≤ width ∧ g.py + g.ph ≤ height) := by
  simp [strandsPane, imp_iff_not_or]

/-- Test 6 of R76 passes where no cell and no pane of a set surface is stranded. -/
theorem not_strands
    (h : (s.patch.surface p.surface).state ≠ .unset →
      (∀ n c, s.patch.cell n = some c → c.config.surface = p.surface →
        c.config.x + c.config.chars * 16 * c.config.scale ≤ p.width ∧
        c.config.y + 24 * c.config.scale ≤ p.height) ∧
      (∀ j g, (s.pane.pane j).settings = some g → g.surface = p.surface →
        g.px + g.pw ≤ p.width ∧ g.py + g.ph ≤ p.height)) : s.strands p = false := by
  unfold State.strands
  by_cases hset : (s.patch.surface p.surface).state = .unset
  · simp [hset]
  · obtain ⟨hcells, hpanes⟩ := h hset
    have hc : s.patch.cells.any (strandsCell p.surface p.width p.height) = false := by
      refine List.any_eq_false.2 fun x hx => Bool.not_eq_true _ ▸ ?_
      obtain ⟨n, hn⟩ := List.getElem?_of_mem hx
      rcases x with _ | c
      · rfl
      · exact (strandsCell_iff ..).2 (hcells n c (by rw [PatchUnit.cell, hn]; rfl))
    have hp : (s.pane.configuredBut noPane).any (strandsPane p.surface p.width p.height) =
        false := by
      refine List.any_eq_false.2 fun g hg => Bool.not_eq_true _ ▸ ?_
      obtain ⟨j, -, hj⟩ := (PaneUnit.mem_configuredBut ..).1 hg
      exact (strandsPane_iff ..).2 (hpanes j g hj)
    rw [hc, hp]
    exact Bool.and_false _

/-- SET_SURFACE stores what passes its tests (R76, R77). -/
theorem cmdSetSurface_passed (tag : Nat) (hk : p.surface < 12) (hmode : s.path.mode = .pass)
    (hfields : badSurface p = false) (hspace : (regionOf p).inSpace = true)
    (hapart : apart (regionOf p) (s.surfaceObstacles p.surface)) (hstrands : s.strands p = false) :
    cmdSetSurface tag p s =
      (s.withPatch (s.patch.putSurface p.surface (s.patch.configured p))).answer 9 tag [] := by
  have hmeets : ¬ meetsAny (regionOf p) (s.surfaceObstacles p.surface) = true := fun h =>
    (meetsAny_iff ..).1 h hapart
  simp only [cmdSetSurface, Nat.not_le.2 hk, hmode, hfields, hspace, hmeets, hstrands,
    Config.surfaces, reduceCtorEq, if_false, Bool.false_eq_true]

end

/-- Settles O40: the tests passed one by one, and the surface they leave. -/
theorem setSurfaceConfigures : Obligations.SetSurfaceConfigures := by
  intro s tag p f hr hmode hk hf hbase hw hw' hh hh' hstride hrow hstride' hscan hspace hapart
    hstrands
  have hsurface : s.patch.surface p.surface = f := by
    rw [PatchUnit.surface, List.getD_eq_getElem?_getD, hf]; rfl
  refine ⟨s.patch.newPicture p.surface f, newPicture_commits .., ?_⟩
  have hpassed := cmdSetSurface_passed (s := s) (p := p) tag hk hmode
    ((badSurface_iff p).2 ⟨hbase, ⟨hw, hw'⟩, ⟨hh, hh'⟩, ⟨hstride, hrow, hstride'⟩, hscan⟩)
    ((Span.inSpace_iff _).2 hspace) hapart (not_strands (hsurface ▸ hstrands))
  change whenRunning (cmdSetSurface tag p) s = _
  rw [whenRunning_runs hr, hpassed, answer_eq, PatchUnit.configured, hsurface]
  rfl

/-! ### A cell set or cleared -/

section
variable (p : PatchUnit) (n : Nat) (c : Option Cell)

/-- A cell set or cleared: the table changes, then the surfaces it leaves and names commit (R83). -/
theorem putCell_def : p.putCell n c = { p with cells := p.cells.set n c }.commitIdleEach
    [cellSurface (p.cell n), cellSurface c] := rfl

/-- A cell set or cleared changes its place of the table and the surfaces alone. -/
theorem putCell_eq : p.putCell n c = { p with
    cells := p.cells.set n c, surfaces := (p.putCell n c).surfaces } := by
  rw [putCell_def, commitIdleEach_eq]

/-- A surface after a cell is set or cleared: one that the cell leaves or names takes a new picture
of g where it is IDLE, and any other stays (R83, R89). -/
theorem putCell_surface (k : Nat) : (p.putCell n c).surface k =
    if (k = cellSurface (p.cell n) ∨ k = cellSurface c) ∧ (p.surface k).state = .idle then
      { p.surface k with current :=
        { p with cells := p.cells.set n c }.newPicture k (p.surface k) }
    else p.surface k := by
  rw [putCell_def, commitIdleEach_surface]
  simp only [List.mem_cons, List.not_mem_nil, or_false]
  rfl

/-- An IDLE surface that the cell leaves or names shows what R88 says (R83, R89). -/
theorem putCell_commits {k : Nat} (hk : k = cellSurface (p.cell n) ∨ k = cellSurface c)
    (hidle : (p.surface k).state = .idle) :
    ((p.putCell n c).surface k).current.commits (p.putCell n c) k (p.surface k).pendingFlag := by
  rw [putCell_surface, if_pos ⟨hk, hidle⟩]
  exact commits_congr (by rw [putCell_eq]) (by rw [putCell_eq])
    (newPicture_commits { p with cells := p.cells.set n c } k (p.surface k))

/-- Surfaces that are not IDLE wait when a cell is set or cleared (R83, R89). -/
theorem putCell_surfacesWait {s t : State} (ht : t.patch = s.patch.putCell n c) :
    s.surfacesWait t := by
  intro k
  rw [ht]
  by_cases hk : (k = cellSurface (s.patch.cell n) ∨ k = cellSurface c) ∧
      (s.patch.surface k).state = .idle
  · refine .inr ⟨hk.2, ?_, putCell_commits s.patch n c hk.1 hk.2⟩
    rw [putCell_surface, if_pos hk]
  · exact .inl (by rw [putCell_surface, if_neg hk])

end

/-! ### The settings of a cell -/

/-- The numbers of the justifications (R81; log entry 27). -/
theorem justOf_table (n : Nat) : justOf n = [Just.left, .right, .centre][n]? := by
  match n with
  | 0 | 1 | 2 => rfl
  | _ + 3 => rfl

/-- The numbers of the fields (R173). -/
theorem fieldOf_table (n : Nat) : fieldOf n =
    [Field.auditorium, .start, .title, .seats, .delay, .status][n]? := by
  match n with
  | 0 | 1 | 2 | 3 | 4 | 5 => rfl
  | _ + 6 => rfl

/-- The numbers of the source kinds and their parameters (R82; log entry 27). -/
theorem sourceOf_table (p1 p2 p3 : Nat) : sourceOf 4 p1 p2 p3 = some .clock ∧
    (p1 < 64 → sourceOf 0 p1 p2 p3 = some (.fixed p1)) ∧
    (p1 < 12 → sourceOf 3 p1 p2 p3 = some (.notice p1)) ∧
    ∀ f : Field,
      (p1 < 128 → [Field.auditorium, .start, .title, .seats, .delay, .status][p2]? = some f →
        sourceOf 1 p1 p2 p3 = some (.showField p1 f)) ∧
      (p1 < 4 → p2 < 16 →
        [Field.auditorium, .start, .title, .seats, .delay, .status][p3]? = some f →
        sourceOf 2 p1 p2 p3 = some (.board p1 p2 f)) := by
  refine ⟨rfl, fun h => if_pos h, fun h => if_pos h, fun f => ⟨fun h hf => ?_, fun h h' hf => ?_⟩⟩
  · rw [← fieldOf_table] at hf
    exact (if_pos h).trans (by rw [hf]; rfl)
  · rw [← fieldOf_table] at hf
    exact (if_pos ⟨h, h'⟩).trans (by rw [hf]; rfl)

/-- SET_CELL puts the configuration it accepts in the cell (R82, R83). -/
theorem cmdSetCell_passed {s : State} {p : CellParams} {c : CellConfig}
    (h : s.patch.cellConfig p = some c) (tag : Nat) : cmdSetCell tag p s =
      (s.withPatch (s.patch.putCell p.cell
        (some { config := c, target := s.targetText c }))).answer 10 tag [] := by
  unfold cmdSetCell
  rw [h]

/-- Settles O41: the tables by their cases, SET_CELL and CLEAR_CELL by the cell put in the table and
the surfaces it leaves and names. -/
theorem cellCommandsSetAndClear : Obligations.CellCommandsSetAndClear := by
  refine ⟨justOf_table, sourceOf_table, fun s tag hr hlen => ⟨?_, fun cell hcell => ?_⟩⟩
  · intro p f just source c hcell hk hf hset hchars hchars' hscale hscale' hlayer hglyph hjust hfull
      htwelve hsource hx hy hc
    subst hf
    have hgood : s.patch.goodCell p = true := by
      simp only [PatchUnit.goodCell, isFlag, fitsSurface, Bool.and_eq_true, decide_eq_true_eq,
        bne_iff_ne]
      tauto
    have hconfig : s.patch.cellConfig p = some c := by
      rw [PatchUnit.cellConfig, if_pos hgood, hjust, hsource, hc]
    have hexec : exec (.setCell tag p) s = .next ((s.withPatch (s.patch.putCell p.cell
        (some { config := c, target := s.targetText c }))).answer 10 tag []) := by
      change whenRunning (cmdSetCell tag p) s = _
      rw [whenRunning_runs hr, cmdSetCell_passed hconfig]
    have hnames : p.surface = cellSurface (some { config := c, target := s.targetText c }) := by
      rw [hc]; rfl
    refine ⟨_, hexec, ?_, ?_, putCell_surfacesWait _ _ rfl,
      putCell_commits _ _ _ (.inr hnames), fun old hold => ?_⟩
    · exact congrArg (fun q => (s.withPatch q).answer 10 tag []) (putCell_eq ..)
    · rw [State.targetText, fitText_length, hc]
    · exact putCell_commits _ _ _ (.inl (by rw [hold]; rfl))
  · have hexec : exec (.clearCell tag cell) s =
        .next ((s.withPatch (s.patch.putCell cell none)).answer 11 tag []) := by
      change whenRunning (cmdClearCell tag cell) s = _
      rw [whenRunning_runs hr, cmdClearCell, if_neg (Nat.not_le.2 hcell)]
    refine ⟨_, hexec, ?_, putCell_surfacesWait _ _ rfl, fun old hold => ?_⟩
    · exact congrArg (fun q => (s.withPatch q).answer 11 tag []) (putCell_eq ..)
    · exact putCell_commits _ _ _ (.inl (by rw [hold]; rfl))

end Sys2Proof.Machine

namespace Sys2Proof.Machine

/-! ### A request taken at once -/

/-- A request that the Path Unit takes the moment it is offered is recognised (R155, R159). -/
theorem upstreamRequest_atOnce {s : State} {r : Request} (h : s.takesAtOnce r) :
    exec (.upstreamRequest (some r)) s = .next (recognise r s) := by
  obtain ⟨hr, hwait, hroom, htxn, hpair⟩ := h
  have hself : (offerRequest (some r) s).withPath
      { (offerRequest (some r) s).path with waiting := [] } = s := by
    change s.withPath { s.path with waiting := [] } = s
    rw [← hwait]; rfl
  have hfree : (s.path.entry r.initiator r.txn).isSome = false := by
    rw [Option.isSome_eq_false_iff, Option.isNone_iff_eq_none, PathUnit.entry, List.find?_eq_none]
    intro e he hp
    exact hpair e he (by simpa [InFlight.hasPair] using hp)
  have hfit : ¬ Config.inFlight ≤ (offerRequest (some r) s).path.table.length :=
    Nat.not_le.2 hroom
  have hqueue : (offerRequest (some r) s).path.waiting = [r] := by
    change s.path.waiting ++ [r] = [r]
    rw [hwait]; rfl
  change unlessReset (fun t => takeOldest (offerRequest (some r) t)) s = _
  rw [unlessReset_runs hr, takeOldest, if_neg hfit, hqueue]
  dsimp only
  rw [hself, takeRequest, if_neg (Nat.not_le.2 htxn), hfree]
  rfl

/-! ### Recognition of a scan read -/

/-- The test of a scan read is R96 with the place of R97. -/
theorem scans_iff (f : Surface) (initiator a : Nat) :
    f.scans initiator a = true ↔ f.isScanRead initiator a := by
  simp only [Surface.scans, Span.holds, Bool.and_eq_true, decide_eq_true_eq, bne_iff_ne, beq_iff_eq,
    and_assoc]
  exact Iff.rfl

/-- The settings of the configured panes with their numbers are those read by number. -/
theorem mem_configured (u : PaneUnit) (j : Nat) (g : PaneSettings) :
    (j, g) ∈ u.configured ↔ (u.pane j).settings = some g := by
  simp only [PaneUnit.configured, List.mem_filterMap, PaneUnit.pane, List.getD_eq_getElem?_getD]
  constructor
  · rintro ⟨⟨p, i⟩, hm, hs⟩
    obtain ⟨e, he, hd⟩ := Option.map_eq_some_iff.1 hs
    obtain ⟨rfl, rfl⟩ := Prod.mk.inj hd
    rw [List.mem_zipIdx_iff_getElem?.1 hm]
    exact he
  · intro h
    rcases hp : u.panes[j]? with _ | p
    · rw [hp] at h; cases h
    · rw [hp] at h
      exact ⟨(p, j), List.mem_zipIdx_iff_getElem?.2 hp, Option.map_eq_some_iff.2 ⟨g, h, rfl⟩⟩

/-- A read that no pane's cue line is at is no cue read (R157). -/
theorem cueAt_none {u : PaneUnit} {a : Nat}
    (h : ∀ j g, (u.pane j).settings = some g → g.cue ≠ a) : u.cueAt a = none := by
  refine List.find?_eq_none.2 fun x hx hcue => ?_
  exact h x.1 x.2 ((mem_configured ..).1 hx) (by simpa using hcue)

/-- A read that is a scan read of one surface alone is found as that (R96, R157). -/
theorem scanned_only {p : PatchUnit} {initiator a k : Nat} (hk : k < Config.surfaces)
    (hscan : (p.surface k).isScanRead initiator a)
    (honly : ∀ j, j < Config.surfaces → j ≠ k → ¬ (p.surface j).isScanRead initiator a) :
    p.scanned initiator a = some k := by
  rcases hfind : p.scanned initiator a with _ | j
  · exact absurd ((scans_iff ..).2 hscan) (List.find?_eq_none.1 hfind k (List.mem_range.2 hk))
  · have hj : j < Config.surfaces := List.mem_range.1 (List.mem_of_find?_eq_some hfind)
    have hscans : (p.surface j).isScanRead initiator a :=
      (scans_iff ..).1 (List.find?_some (p := fun j => (p.surface j).scans initiator a) hfind)
    by_contra hne
    exact honly j hj (fun h => hne (congrArg some h)) hscans

/-- A read recognised as a scan read of a surface (R157): at its base a frame start first (R78). -/
theorem recognise_scan {s : State} {r : Request} {k : Nat} (h : s.scansOnly r k) :
    recognise r s = if r.addr = (s.patch.surface k).base then scanRead k r (frameStart k s)
      else scanRead k r s := by
  obtain ⟨hmode, hread, hanchor, hcue, hk, hscan, honly⟩ := h
  unfold recognise
  rw [hanchor, hmode, hread]
  simp only [Bool.false_eq_true, if_false, reduceCtorEq]
  rw [takeRead, cueAt_none hcue]
  dsimp only
  rw [scanned_only hk hscan honly]

/-! ### A frame start -/

/-- Causes set one after the other are set at once (R175). -/
theorem foldl_bit_or (l : List Cause) (b : BitVec 12) :
    l.foldl (fun c x => c ||| x.bit) b = b ||| causeBits l := by
  induction l generalizing b with
  | nil => exact (BitVec.or_zero).symm
  | cons c rest ih =>
    rw [List.foldl_cons, ih, BitVec.or_assoc]; rfl

/-- What a frame start of a surface makes of a pane: only a configured one on the surface takes it
(R116). -/
def Pane.framed (p : Pane) (surface : Nat) (frozen : Bool) : PaneResult :=
  match p.settings with
  | none => { pane := p, causes := [] }
  | some g =>
    if g.surface = surface then p.frameStart g frozen else { pane := p, causes := [] }

/-- Every pane takes a frame start by itself, and its causes join those of the others (R116). -/
theorem framePanes_eq (surface : Nat) (frozen : Bool) (l : List Pane) :
    framePanes surface frozen l = {
      panes := l.map (fun p => (p.framed surface frozen).pane)
      causes := l.flatMap (fun p => (p.framed surface frozen).causes) } := by
  induction l with
  | nil => rfl
  | cons p rest ih => rw [framePanes, ih]; rfl

/-- A frame start at the Patch and Pane Units, with the causes it sets (R78, R88, R116). -/
theorem frameStart_eq (k : Nat) (s : State) : frameStart k s = { s with
    patch := s.patch.frameStart k
    pane := { s.pane with
      panes := s.pane.panes.map (fun p => (p.framed k (s.pane.flag k)).pane) }
    command := { s.command with
      causes := s.command.causes ||| causeBits
        (s.pane.panes.flatMap (fun p => (p.framed k (s.pane.flag k)).causes)) } } := by
  simp only [frameStart]
  rw [framePanes_eq, raiseAll_eq, foldl_bit_or]
  rfl

/-! ### A scan read redirected -/

section
variable {u : PaneUnit} {k y x0 : Nat}

/-- A line is inside a pane's rectangle as R119 says. -/
theorem inside_iff (g : PaneSettings) : g.inside k y x0 = true ↔ g.frames k y x0 := by
  simp only [PaneSettings.inside, PaneSettings.frames, Bool.and_eq_true, decide_eq_true_eq,
    beq_iff_eq, and_assoc]

/-- A read that is redirected goes to the displayed frame of a SHOWING pane that frames its line and
is not frozen (R119, R120). -/
theorem redirect_some {d : Redirect} (h : u.redirect k y x0 = some d) :
    u.flag k = false ∧ (u.pane d.pane).display = .showing ∧
      ∃ g f, (u.pane d.pane).settings = some g ∧ g.frames k y x0 ∧
        (u.pane d.pane).displayed = some f ∧ d.slot = f.slot ∧
        d.addr = g.slotAddress f.slot y x0 := by
  unfold PaneUnit.redirect at h
  split at h
  · cases h
  · next x hfind =>
    have hset : (u.pane x.1).settings = some x.2 :=
      (mem_configured ..).1 (List.mem_of_find?_eq_some hfind)
    have hframes : x.2.frames k y x0 := (inside_iff _).1
      (List.find?_some (p := fun x : Nat × PaneSettings => x.2.inside k y x0) hfind)
    unfold Pane.redirect at h
    split at h
    · next hshow =>
      obtain ⟨f, hf, rfl⟩ := Option.map_eq_some_iff.1 h
      exact ⟨hshow.2, hshow.1, x.2, f, hset, hframes, hf, rfl, rfl⟩
    · cases h

/-- The one pane that frames a line redirects it to its displayed frame, where it is SHOWING and not
frozen (R119, R120). -/
theorem redirect_only {j : Nat} {g : PaneSettings} {f : Frame}
    (hset : (u.pane j).settings = some g) (hframes : g.frames k y x0)
    (honly : ∀ i h, (u.pane i).settings = some h → h.frames k y x0 → i = j)
    (hshow : (u.pane j).display = .showing) (hflag : u.flag k = false)
    (hf : (u.pane j).displayed = some f) :
    u.redirect k y x0 =
      some { pane := j, slot := f.slot, addr := g.slotAddress f.slot y x0 } := by
  have hfind : u.configured.find? (fun x => x.2.inside k y x0) = some (j, g) := by
    rcases hx : u.configured.find? (fun x => x.2.inside k y x0) with _ | ⟨i, h⟩
    · exact absurd ((inside_iff g).2 hframes)
        (List.find?_eq_none.1 hx _ ((mem_configured ..).2 hset))
    · have hi : (u.pane i).settings = some h :=
        (mem_configured ..).1 (List.mem_of_find?_eq_some hx)
      obtain rfl := honly i h hi ((inside_iff h).1
        (List.find?_some (p := fun x : Nat × PaneSettings => x.2.inside k y x0) hx))
      rw [hx, Option.some.inj (hset.symm.trans hi)]
  rw [PaneUnit.redirect, hfind]
  dsimp only
  rw [Pane.redirect, if_pos ⟨hshow, hflag⟩, hf]
  rfl

/-- A scan read that no pane redirects is tracked and forwarded (R158). -/
theorem scanRead_plain {s : State} {r : Request}
    (h : s.pane.redirect k ((s.patch.surface k).row r.addr)
      ((s.patch.surface k).firstPixel r.addr) = none) :
    scanRead k r s = { s with path := s.path.tracks r (.scan k (s.patch.surface k).gen
      ((s.patch.surface k).row r.addr) ((s.patch.surface k).firstPixel r.addr) none) r.addr } := by
  simp only [scanRead, h]
  rfl

/-- A scan read that a pane redirects is tracked with its slot and sent there (R112, R119, R158). -/
theorem scanRead_redirected {s : State} {r : Request} {d : Redirect}
    (h : s.pane.redirect k ((s.patch.surface k).row r.addr)
      ((s.patch.surface k).firstPixel r.addr) = some d) :
    scanRead k r s = { s with
      path := s.path.tracks r (.scan k (s.patch.surface k).gen
        ((s.patch.surface k).row r.addr) ((s.patch.surface k).firstPixel r.addr)
        (some (d.pane, d.slot))) d.addr
      pane := { s.pane with
        panes := s.pane.panes.set d.pane ((s.pane.pane d.pane).issueRead d.slot) } } := by
  simp only [scanRead, h]
  rfl

end

/-- The first line of a slot is its base (R119). -/
theorem slotAddress_first (g : PaneSettings) (slot : Nat) :
    g.slotAddress slot 0 0 = g.slotBase + slot * g.slotSize := by
  simp [PaneSettings.slotAddress]

/-- The line at a surface's base is its first (R97). -/
theorem first_line (f : Surface) : f.row f.base = 0 ∧ f.firstPixel f.base = 0 := by
  simp [Surface.row, Surface.firstPixel]

/-- Settles O16: the frame start at both units, then the scan read of the first line. -/
theorem frameStartBeginsAPicture : Obligations.FrameStartBeginsAPicture := by
  intro s r k hat hscan haddr hlen
  obtain ⟨-, -, -, -, hk, -⟩ := id hscan
  have hk : k < s.patch.surfaces.length := hlen ▸ hk
  have hexec : exec (.upstreamRequest (some r)) s = .next (scanRead k r (frameStart k s)) := by
    rw [upstreamRequest_atOnce hat, recognise_scan hscan, if_pos haddr]
  have hframe := frameStart_eq k s
  generalize frameStart k s = v at hexec hframe
  have hsurface : v.patch.surface k = { s.patch.surface k with
      state := .active, gen := ((s.patch.surface k).gen + 1) % 256, idleTimer := some 250
      previous := (s.patch.surface k).current
      current := s.patch.newPicture k (s.patch.surface k) } := by
    rw [hframe]
    exact (putSurface_surface ..).trans (if_pos ⟨rfl, hk⟩)
  obtain ⟨hrow, hpixel⟩ : (v.patch.surface k).row r.addr = 0 ∧
      (v.patch.surface k).firstPixel r.addr = 0 := by
    rw [haddr, show (s.patch.surface k).base = (v.patch.surface k).base by rw [hsurface]]
    exact first_line _
  have hgen : (v.patch.surface k).gen = ((s.patch.surface k).gen + 1) % 256 := by rw [hsurface]
  have hflags : v.pane.flag k = s.pane.flag k := by rw [hframe]; rfl
  have hplain := scanRead_plain (k := k) (s := v) (r := r)
  have hredirected := fun d => scanRead_redirected (k := k) (s := v) (r := r) (d := d)
  rw [hrow, hpixel, hgen] at hplain
  simp only [hrow, hpixel, hgen] at hredirected
  refine ⟨_, v.pane, v.patch, v.command, newPicture_commits .., ?_, ?_, ?_, fun hno => ?_,
    fun d hd => ⟨?_, ?_⟩, fun j g f hset hframes honly hshow hflag hf => ?_⟩
  · rw [hframe]
    refine congrArg (fun l => { s.pane with panes := l }) (List.map_congr_left fun p _ => ?_)
    unfold Pane.framed
    rcases p.settings with _ | g
    · rfl
    · dsimp only; split <;> rfl
  · rw [hframe]; rfl
  · rw [hframe]
    refine congrArg (fun l => { s.command with
      causes := s.command.causes ||| causeBits l }) (List.flatMap_congr fun p _ => ?_)
    unfold Pane.framed
    rcases p.settings with _ | g
    · rfl
    · dsimp only; split <;> rfl
  · rw [hexec, hplain hno, hframe]
  · rw [hexec, hredirected d hd, hframe]
  · obtain ⟨hflag, hshow, g, f, hset, hframes, hf, hslot, hto⟩ := redirect_some hd
    exact ⟨hflags ▸ hflag, hshow, g, f, hset, hframes, hf, hslot, hto, rfl⟩
  · exact (redirect_only hset hframes honly hshow (hflags.trans hflag) hf).trans
      (by rw [slotAddress_first])

end Sys2Proof.Machine

namespace Sys2Proof.Machine

/-- Settles O17: no redirect without a pane that shows a frame there, else that pane's. -/
theorem scanReadsAreTracked : Obligations.ScanReadsAreTracked := by
  rintro s r k y x0 hat hscan haddr rfl rfl
  have hexec : exec (.upstreamRequest (some r)) s = .next (scanRead k r s) := by
    rw [upstreamRequest_atOnce hat, recognise_scan hscan, if_neg haddr]
  refine ⟨fun hno => ?_, fun j g f hset hframes honly hshow hflag hf => ?_⟩
  · have hplain : s.pane.redirect k ((s.patch.surface k).row r.addr)
        ((s.patch.surface k).firstPixel r.addr) = none := by
      rw [Option.eq_none_iff_forall_not_mem]
      intro d hd
      obtain ⟨hflag, hshow, g, f, hset, hframes, hf, -⟩ := redirect_some hd
      rcases hno d.pane g hset hframes with h | h | h
      · exact h hshow
      · rw [hflag] at h; cases h
      · rw [hf] at h; cases h
    rw [hexec, scanRead_plain hplain]
    rfl
  · rw [hexec, scanRead_redirected (redirect_only hset hframes honly hshow hflag hf)]
    rfl

end Sys2Proof.Machine

namespace Sys2Proof.Machine

/-! ### The cue line -/

/-- A number in one byte. -/
theorem u8_eq (n : Nat) : u8 n = [byte (n % 256)] := rfl

/-- Reducing a number to a byte's range leaves its byte. -/
theorem byte_mod (n : Nat) : byte (n % 256) = byte n := BitVec.eq_of_toNat_eq (by simp [byte])

/-- A line of fewer bytes is filled with 0 (R181). -/
theorem fill_of_length {w n : Nat} {l : List Byte} (hl : l.length = n) (hn : n ≤ w) :
    fill w l = l ++ List.replicate (w - n) 0 := by
  rw [fill, List.take_of_length_le (hl.trans_le hn), hl]

/-- A slot is not displayed when no displayed frame lies in it (R112). -/
theorem shows_false_iff (p : Pane) (slot : Nat) :
    p.shows slot = false ↔ ∀ f, p.displayed = some f → f.slot ≠ slot := by
  unfold Pane.shows
  cases p.displayed <;> simp

/-- A slot is not queued when no frame of the queue lies in it (R112). -/
theorem queues_false_iff (p : Pane) (slot : Nat) :
    p.queues slot = false ↔ ∀ f, f ∈ p.queue → f.slot ≠ slot := by
  simp [Pane.queues]

/-- A slot is free as R112 says: neither displayed nor queued, and no read of it outstanding. -/
theorem isFree_iff (p : Pane) (slot : Nat) : p.isFree slot = true ↔
    (∀ f, p.displayed = some f → f.slot ≠ slot) ∧ (∀ f, f ∈ p.queue → f.slot ≠ slot) ∧
      p.outstanding.getD slot 0 = 0 := by
  simp only [Pane.isFree, Bool.and_eq_true, Bool.not_eq_true', beq_iff_eq, shows_false_iff,
    queues_false_iff, Pane.outstandingOf, and_assoc]

/-- The set of free slots among the first `n` has exactly their places (R181). -/
theorem freePlaces_spec (p : Pane) (slotCount n : Nat) : p.freePlaces slotCount n < 2 ^ n ∧
    ∀ i, (p.freePlaces slotCount n).testBit i = true ↔
      i < n ∧ i < slotCount ∧ p.isFree i = true := by
  induction n with
  | zero => simp [Pane.freePlaces]
  | succ n ih =>
    obtain ⟨hlt, hbit⟩ := ih
    rw [Pane.freePlaces]
    split
    · next h =>
      refine ⟨by rw [Nat.pow_succ]; omega, fun i => ?_⟩
      have hor := Nat.two_pow_add_eq_or_of_lt hlt 1
      rw [Nat.mul_one] at hor
      rw [Nat.add_comm, hor, Nat.testBit_or, Bool.or_eq_true, Nat.testBit_two_pow, hbit,
        decide_eq_true_eq]
      constructor
      · rintro (rfl | ⟨hi, hrest⟩)
        · exact ⟨Nat.lt_succ_self _, h⟩
        · exact ⟨Nat.lt_succ_of_lt hi, hrest⟩
      · rintro ⟨hi, hrest⟩
        exact (Nat.lt_succ_iff_lt_or_eq.1 hi).symm.imp Eq.symm fun hi => ⟨hi, hrest⟩
    · next h =>
      refine ⟨by rw [Nat.pow_succ]; omega, fun i => ?_⟩
      rw [Nat.add_zero, hbit, Nat.lt_succ_iff_lt_or_eq, or_and_right, or_iff_left]
      rintro ⟨rfl, hfree⟩
      exact h hfree

/-- The cue line byte by byte (R124, R125, R139, R181). -/
theorem cueLine_bytes (p : Pane) (g : PaneSettings) : p.cueLine g =
      [byte p.display.code, byte p.playlist.state.code] ++
      (match p.playlist.cueEntry with
        | none => [255, 0, 0, 0]
        | some e => [byte (e % 256)] ++ leBytes 2 (p.playlist.entry e).clip ++
            [byte (p.playlist.pass % 256)]) ++
      [byte (p.playlist.generation % 256),
        (match p.displayed with
          | none => 255
          | some f => byte (f.slot % 256)),
        byte (p.freePlaces g.slotCount Config.slots), byte p.flow.code,
        byte (p.queue.length % 256), byte p.verdict.code, byte (p.retriesUsed % 256)] ++
      leBytes 2 p.counters.taken ++ leBytes 2 p.counters.refused ++
      leBytes 2 p.counters.shown ++ leBytes 2 p.counters.skipped ++
      leBytes 2 p.counters.underruns ++ leBytes 2 p.counters.starves ++ List.replicate 39 0 := by
  have hcue : orAbsent 1 p.playlist.cueEntry ++ u16 p.playlist.clip ++ u8 p.playlist.passShown =
      match p.playlist.cueEntry with
      | none => [255, 0, 0, 0]
      | some e => [byte (e % 256)] ++ leBytes 2 (p.playlist.entry e).clip ++
          [byte (p.playlist.pass % 256)] := by
    unfold Playlist.clip Playlist.passShown
    cases p.playlist.cueEntry with
    | none => simp [orAbsent, absent, u16, u8, leBytes, byte]
    | some e => rfl
  have hslot : orAbsent 1 (p.displayed.map (fun f => f.slot)) =
      [match p.displayed with
        | none => 255
        | some f => byte (f.slot % 256)] := by
    cases p.displayed <;> rfl
  rw [← hcue, Pane.cueLine, fill_of_length (n := 25) (by simp) (by decide), hslot]
  simp only [u8_eq, byte_mod, PaneCounters.bytes, u16, List.append_assoc, List.cons_append,
    List.nil_append]

end Sys2Proof.Machine

namespace Sys2Proof.Machine

/-! ### The response to a tracked read -/

section
variable {s : State} {e : InFlight}

/-- An entry of the in-flight patch table is found by its pair (R158). -/
theorem entry_of_mem {p : PathUnit} (hi : PathInv p) (he : e ∈ p.table) :
    p.entry e.initiator e.txn = some e := by
  have hpair : ∀ x : InFlight, x.hasPair e.initiator e.txn = true ↔
      (x.initiator, x.txn) = (e.initiator, e.txn) := by simp [InFlight.hasPair]
  rcases hfind : p.entry e.initiator e.txn with _ | x
  · exact absurd ((hpair e).2 rfl) (List.find?_eq_none.1 hfind e he)
  · have hx := (hpair x).1
      (List.find?_some (p := fun x : InFlight => x.hasPair e.initiator e.txn) hfind)
    exact congrArg some
      (List.inj_on_of_nodup_map hi.pairs (List.mem_of_find?_eq_some hfind) he hx)

/-- A response under a number of the player's traffic is the player's (R155, R161). -/
theorem takeResponse_player {r : Response} (h : r.txn < 64) :
    takeResponse r s = playerResponse r s := by
  have hverdict : Config.firstVerdictTxn = 64 := rfl
  have hglyph : Config.firstGlyphTxn = 68 := rfl
  rw [takeResponse, if_neg (by omega), if_neg (by omega)]

section
variable (hr : s.path.resetHeld = false) (hi : PathInv s.path) (he : e ∈ s.path.table)
include hr hi he

/-- Data answering a tracked read returns as that read's (R158). -/
theorem downstreamResponse_data (data : Line) :
    exec (.downstreamResponse { initiator := e.initiator, txn := e.txn, reply := .data data }) s =
      .next (returnData e data s) := by
  change unlessReset (takeResponse _) s = _
  rw [unlessReset_runs hr, takeResponse_player (hi.numbers e he), playerResponse,
    entry_of_mem hi he]

/-- An error answering a tracked read returns as that read's (R100, R160). -/
theorem downstreamResponse_error :
    exec (.downstreamResponse { initiator := e.initiator, txn := e.txn, reply := .error }) s =
      .next (returnError e s) := by
  change unlessReset (takeResponse _) s = _
  rw [unlessReset_runs hr, takeResponse_player (hi.numbers e he), playerResponse,
    entry_of_mem hi he]

/-- The response to a read that ends the draining of a slot is the SLOT_FREE it is (R112; log
entry 15). -/
theorem slotFree_ends {reply : Reply} (hends : s.endsDraining e.tracked = true) :
    exec (.slotFree { initiator := e.initiator, txn := e.txn, reply := reply }) s =
      exec (.downstreamResponse { initiator := e.initiator, txn := e.txn, reply := reply }) s := by
  have hfrees : s.freesSlot { initiator := e.initiator, txn := e.txn, reply := reply } = true := by
    simp only [State.freesSlot, entry_of_mem hi he, hends, Bool.and_true, decide_eq_true_eq]
    exact hi.numbers e he
  change unlessReset (fun t => if t.freesSlot _ = true then _ else _) s =
    unlessReset (takeResponse _) s
  rw [unlessReset_runs hr, unlessReset_runs hr, if_pos hfrees]

end

/-- The pane and slot a tracked read was redirected to, if it was (R119). -/
def Tracked.slotRead : Tracked → Option (Nat × Nat)
  | .scan _ _ _ _ d => d
  | .anchor _ => none
  | .cue _ => none

/-- The read of a slot returns to its pane (R112, R119). -/
theorem returnRead_eq (s : State) (t : Tracked) :
    s.returnRead t = { s with pane := s.pane.returned t.slotRead } := by
  rcases t with ⟨_, _, _, _, _ | ⟨k, slot⟩⟩ | _ | _ <;> rfl

/-- A scan read is late when its surface has no picture for it (R99). -/
theorem countLate_late {k gen y x0 : Nat} {d : Option (Nat × Nat)}
    (h : (s.patch.surface k).pictureFor gen = none) : s.countLate (.scan k gen y x0 d) = { s with
      patch := { s.patch with latePatch := satInc s.patch.latePatch }
      command := { s.command with causes := s.command.causes ||| 512#12 } } := by
  rw [State.countLate, State.late, h]
  rfl

/-- A scan read that has its picture is not late (R99). -/
theorem countLate_onTime {k gen y x0 : Nat} {d : Option (Nat × Nat)} {q : Picture}
    (h : (s.patch.surface k).pictureFor gen = some q) : s.countLate (.scan k gen y x0 d) = s := by
  rw [State.countLate, State.late, h]
  rfl

/-- What returns to a tracked read, whatever is counted of it: its line is passed up, its entry and
its slot are freed (R112, R158). -/
theorem returnData_eq (e : InFlight) (data : Line) (s : State) : returnData e data s =
    { s.countLate e.tracked with
      path := s.path.answers e (.data (s.reshape data e.tracked))
      pane := s.pane.returned e.tracked.slotRead } := by
  have hpath : (s.countLate e.tracked).path = s.path := by unfold State.countLate; split <;> rfl
  have hpane : (s.countLate e.tracked).pane = s.pane := by unfold State.countLate; split <;> rfl
  rw [returnData, returnRead_eq, ← hpath, ← hpane]
  rfl

/-- A scan read that has its picture is patched with it (R98, R99). -/
theorem returnData_onTime {k gen y x0 : Nat} {d : Option (Nat × Nat)} {q : Picture}
    (ht : e.tracked = .scan k gen y x0 d) (h : (s.patch.surface k).pictureFor gen = some q)
    (data : Line) : returnData e data s = { s with
      path := s.path.answers e (.data (s.patch.patchLine (s.patch.surface k) q y x0 data))
      pane := s.pane.returned d } := by
  rw [returnData_eq, ht, countLate_onTime h, State.reshape, h]
  rfl

/-- A late scan read returns as it came, counted, with its cause (R99). -/
theorem returnData_late {k gen y x0 : Nat} {d : Option (Nat × Nat)}
    (ht : e.tracked = .scan k gen y x0 d) (h : (s.patch.surface k).pictureFor gen = none)
    (data : Line) : returnData e data s = { s with
      path := s.path.answers e (.data data)
      pane := s.pane.returned d
      patch := { s.patch with latePatch := satInc s.patch.latePatch }
      command := { s.command with causes := s.command.causes ||| 512#12 } } := by
  rw [returnData_eq, ht, countLate_late h, State.reshape, h]
  rfl

/-- A cue read returns the cue contents of its pane (R124, R158). -/
theorem returnData_cue {k : Nat} {g : PaneSettings} (ht : e.tracked = .cue k)
    (h : (s.pane.pane k).settings = some g) (data : Line) : returnData e data s =
      { s with path := s.path.answers e (.data ((s.pane.pane k).cueLine g)) } := by
  rw [returnData_eq, ht, State.reshape, h]
  rfl

/-- An error on a tracked read is passed up and counted, and sets READ_ERROR (R100, R160). -/
theorem returnError_eq (e : InFlight) (s : State) : returnError e s = { s with
    path := { s.path.answers e .error with readErrors := satInc s.path.readErrors }
    pane := s.pane.returned e.tracked.slotRead
    command := { s.command with causes := s.command.causes ||| 1024#12 } } := by
  rw [returnError, returnRead_eq]
  rfl

/-- The pane of a read just returned is the one it was of, with one read of the slot less. -/
theorem returned_pane {u : PaneUnit} {j : Nat} (hj : j < u.panes.length) (slot : Nat) :
    (u.returned (some (j, slot))).pane j = (u.pane j).returnRead slot := by
  simp [PaneUnit.returned, PaneUnit.pane, Pane.returnRead, Pane.outstandingOf, hj]

/-- A released slot is free once its last read has returned (R112). -/
theorem returned_isFree {u : PaneUnit} {j slot : Nat}
    (hshown : ∀ f, (u.pane j).displayed = some f → f.slot ≠ slot)
    (hqueued : ∀ f, f ∈ (u.pane j).queue → f.slot ≠ slot)
    (hlast : (u.pane j).outstanding.getD slot 0 = 1) :
    ((u.returned (some (j, slot))).pane j).isFree slot = true := by
  have hj : j < u.panes.length := by
    by_contra hj
    have hvacant : u.pane j = Pane.vacant := by simp [PaneUnit.pane, Nat.le_of_not_lt hj]
    rw [hvacant, Pane.vacant, getD_replicate_self] at hlast
    cases hlast
  rw [returned_pane hj, isFree_iff]
  refine ⟨hshown, hqueued, ?_⟩
  have hnone : (u.pane j).outstandingOf slot - 1 = 0 := by rw [Pane.outstandingOf, hlast]
  rw [Pane.returnRead, hnone, List.getD_eq_getElem?_getD, List.getElem?_set_self']
  cases (u.pane j).outstanding[slot]? <;> rfl

end

/-- A released slot with one read outstanding drains by that read's return (R112). -/
theorem endsDraining_last {s : State} {k gen y x0 j slot : Nat}
    (hshown : ∀ f, (s.pane.pane j).displayed = some f → f.slot ≠ slot)
    (hqueued : ∀ f, f ∈ (s.pane.pane j).queue → f.slot ≠ slot)
    (hlast : (s.pane.pane j).outstanding.getD slot 0 = 1) :
    s.endsDraining (.scan k gen y x0 (some (j, slot))) = true := by
  rw [State.endsDraining, Pane.drains, (shows_false_iff ..).2 hshown,
    (queues_false_iff ..).2 hqueued, Pane.outstandingOf, hlast]
  rfl

/-- Settles O22: the cue line's items, and each response by what its entry tracks. -/
theorem trackedReadsReturn : Obligations.TrackedReadsReturn := by
  refine ⟨fun p g => ?_, fun s e hr hi he => ⟨?_, fun k g data ht hg => ?_, ?_, ?_⟩⟩
  · obtain ⟨hlt, hbit⟩ := freePlaces_spec p g.slotCount Config.slots
    refine ⟨p.freePlaces g.slotCount Config.slots, cueLine_bytes p g, hlt, fun i hi => ?_⟩
    rw [hbit, isFree_iff]
    exact and_iff_right hi
  · rintro k gen y x0 d data f ht rfl
    have hdata := downstreamResponse_data hr hi he data
    refine ⟨fun hgen => ?_, fun hgen hbefore => ?_, fun hgen hbefore => ?_⟩
    · rw [hdata, returnData_onTime ht (if_pos hgen)]
    · rw [hdata, returnData_onTime ht ((if_neg hgen).trans (if_pos hbefore))]
    · rw [hdata, returnData_late ht ((if_neg hgen).trans (if_neg hbefore))]
  · rw [downstreamResponse_data hr hi he, returnData_cue ht hg]
  · refine ⟨e.tracked.slotRead, ?_, by rw [downstreamResponse_error hr hi he, returnError_eq]⟩
    cases e.tracked with
    | scan k gen y x0 d => exact .inl ⟨k, gen, y, x0, rfl⟩
    | anchor line => exact .inr ⟨by simp, rfl⟩
    | cue k => exact .inr ⟨by simp, rfl⟩
  · intro k gen y x0 j slot data ht hshown hqueued hlast
    have hdata := downstreamResponse_data hr hi he data
    have hends : s.endsDraining e.tracked = true := ht ▸ endsDraining_last hshown hqueued hlast
    refine ⟨_, (slotFree_ends hr hi he hends).trans hdata, hdata, ?_⟩
    rw [returnData_eq, ht]
    exact returned_isFree hshown hqueued hlast

end Sys2Proof.Machine

namespace Sys2Proof.Machine

/-! ### The blend -/

/-- The two weights add up to 256, so that the blend lies between its channels (R105). -/
theorem blend_bounds {base top alpha : Nat} (h : alpha ≤ 255) :
    min base top ≤ blend base top alpha ∧ blend base top alpha ≤ max base top := by
  obtain ⟨rest, hsum⟩ : ∃ rest, alphaOf alpha + rest = 256 :=
    ⟨256 - alphaOf alpha, by unfold alphaOf; omega⟩
  have hsplit : ∀ n, n * alphaOf alpha + n * rest = n * 256 := fun n => by
    rw [← Nat.mul_add, hsum]
  rw [blend, show 256 - alphaOf alpha = rest by omega]
  constructor
  · have htop := Nat.mul_le_mul_right (alphaOf alpha) (min_le_right base top)
    have hbase := Nat.mul_le_mul_right rest (min_le_left base top)
    have := hsplit (min base top)
    rw [Nat.le_div_iff_mul_le (by decide)]
    omega
  · have htop := Nat.mul_le_mul_right (alphaOf alpha) (le_max_right base top)
    have hbase := Nat.mul_le_mul_right rest (le_max_left base top)
    have := hsplit (max base top)
    rw [← Nat.lt_add_one_iff, Nat.div_lt_iff_lt_mul (by decide)]
    omega

/-- At alpha 0 the base stands (R105). -/
theorem blend_zero (base top : Nat) : blend base top 0 = base := by
  rw [blend, show alphaOf 0 = 0 from rfl]; omega

/-- At alpha 255 the top stands (R105). -/
theorem blend_full (base top : Nat) : blend base top 255 = top := by
  rw [blend, show alphaOf 255 = 256 from rfl]; omega

/-! ### The governing cell -/

/-- A record covers a pixel in its mode as R102 and R103 say. -/
theorem draws_iff (c : CellRecord) (full : Bool) (x y : Nat) :
    c.draws full x y ↔ c.fullScreen = full ∧ c.covers x y = true := by
  simp only [CellRecord.draws, CellRecord.covers, Bool.and_eq_true, decide_eq_true_eq, and_assoc]

/-- The records drawn over a pixel (R102, R103). -/
def drawnOver (full : Bool) (x y : Nat) (l : List (Nat × CellRecord)) : List (Nat × CellRecord) :=
  l.filter (fun c => c.2.fullScreen = full ∧ c.2.covers x y = true)

/-- What is drawn over a pixel are the records of the list that R102 and R103 name. -/
theorem mem_drawnOver {full : Bool} {x y n : Nat} {e : CellRecord} {l : List (Nat × CellRecord)} :
    (n, e) ∈ drawnOver full x y l ↔ (n, e) ∈ l ∧ e.draws full x y := by
  rw [drawnOver, List.mem_filter, decide_eq_true_eq, draws_iff]

/-- Taking the higher of two candidates is a step of the search for the largest layer (R103). -/
theorem higher_eq (best : Option (Nat × CellRecord)) (c : Nat × CellRecord) :
    higher (best.map Prod.snd) c.2 =
      (List.argAux (fun b d => d.2.layer < b.2.layer) best c).map Prod.snd := by
  cases best with
  | none => rfl
  | some b => simp only [Option.map_some, higher, List.argAux]; split <;> rfl

/-- The governing record is the first of the largest layer among those drawn (R103). -/
theorem governing_eq_argmax (full : Bool) (x y : Nat) (l : List (Nat × CellRecord)) :
    governing full x y none l =
      ((drawnOver full x y l).argmax (fun c => c.2.layer)).map Prod.snd := by
  suffices h : ∀ best : Option (Nat × CellRecord), governing full x y (best.map Prod.snd) l =
      ((drawnOver full x y l).foldl
        (List.argAux (fun b d => d.2.layer < b.2.layer)) best).map Prod.snd from h none
  induction l with
  | nil => exact fun _ => rfl
  | cons c rest ih =>
    intro best
    rw [governing, drawnOver, List.filter_cons]
    split
    · next h => rw [if_pos (by simpa using h), List.foldl_cons, higher_eq, ih]; rfl
    · next h => rw [if_neg (by simpa using h), ih]; rfl

/-- No record governs a pixel that none is drawn over (R103, R106). -/
theorem governing_none_iff (full : Bool) (x y : Nat) (l : List (Nat × CellRecord)) :
    governing full x y none l = none ↔ ∀ n e, (n, e) ∈ l → ¬ e.draws full x y := by
  rw [governing_eq_argmax, Option.map_eq_none_iff, List.argmax_eq_none,
    List.eq_nil_iff_forall_not_mem]
  simp only [Prod.forall, mem_drawnOver, not_and]

/-- In a list that rises by a number the places of two elements stand as their numbers do. -/
theorem idxOf_le_iff {α : Type} [DecidableEq α] {num : α → Nat} {l : List α}
    (h : l.Pairwise (fun a b => num a < num b)) {a b : α} (ha : a ∈ l) (hb : b ∈ l) :
    l.idxOf a ≤ l.idxOf b ↔ num a ≤ num b := by
  have hless : ∀ {c d}, c ∈ l → d ∈ l → l.idxOf c < l.idxOf d → num c < num d := by
    intro c d hc hd hlt
    simpa using List.pairwise_iff_getElem.1 h _ _ (List.idxOf_lt_length_iff.2 hc)
      (List.idxOf_lt_length_iff.2 hd) hlt
  constructor
  · intro hle
    rcases hle.lt_or_eq with hlt | heq
    · exact (hless ha hb hlt).le
    · rw [(List.idxOf_inj ha).1 heq]
  · intro hle
    by_contra hgt
    exact absurd (hless hb ha (Nat.lt_of_not_le hgt)) (Nat.not_lt.2 hle)

/-- The governing record of a picture is that of R103. -/
theorem governing_iff {q : Picture} (hq : q.ordered) (x y : Nat) (e : CellRecord) :
    governing q.fullScreen x y none q.records = some e ↔ ∃ n, q.governs n e x y := by
  have hsorted : (drawnOver q.fullScreen x y q.records).Pairwise (fun a b => a.1 < b.1) :=
    hq.filter _
  have hmax : ∀ n, (drawnOver q.fullScreen x y q.records).argmax (fun c => c.2.layer) =
      some (n, e) ↔ q.governs n e x y := fun n => by
    rw [List.argmax_eq_some_iff, Picture.governs, mem_drawnOver, and_assoc]
    refine and_congr_right fun hmem => and_congr_right fun hdraws => ?_
    have hself := mem_drawnOver.2 ⟨hmem, hdraws⟩
    constructor
    · rintro ⟨hlayer, hfirst⟩ m d hm hd
      have hin := mem_drawnOver.2 ⟨hm, hd⟩
      rcases (hlayer _ hin).lt_or_eq with hlt | heq
      · exact .inl hlt
      · exact .inr ⟨heq, (idxOf_le_iff hsorted hself hin).1 (hfirst _ hin heq.ge)⟩
    · intro hall
      refine ⟨fun c hc => ?_, fun c hc hle => ?_⟩
      · obtain ⟨hm, hd⟩ := mem_drawnOver.1 hc
        rcases hall _ _ hm hd with hlt | ⟨heq, -⟩
        · exact hlt.le
        · exact heq.le
      · obtain ⟨hm, hd⟩ := mem_drawnOver.1 hc
        rcases hall _ _ hm hd with hlt | ⟨-, hnum⟩
        · exact absurd hle (Nat.not_le.2 hlt)
        · exact (idxOf_le_iff hsorted hself hc).2 hnum
  rw [governing_eq_argmax, Option.map_eq_some_iff]
  constructor
  · rintro ⟨⟨n, e⟩, hfound, rfl⟩
    exact ⟨n, (hmax n).1 hfound⟩
  · rintro ⟨n, h⟩
    exact ⟨(n, e), (hmax n).2 h, rfl⟩

/-! ### The patched line -/

/-- The coverage of a pixel is the one R104 names. -/
theorem coverage_eq {u : PatchUnit} {q : Picture} {e : CellRecord} {x y a : Nat}
    (h : u.inks q e x y a) : u.coverage q e x y = a := by
  obtain ⟨hvalid, hnow, hset0, hset1⟩ := h
  have hof : q.validOf e.glyphSet = true ↔
      (e.glyphSet = 0 ∧ q.valid0 = true ∨ e.glyphSet ≠ 0 ∧ q.valid1 = true) := by
    unfold Picture.validOf
    split <;> simp [*]
  unfold PatchUnit.coverage
  split
  · next hdrawn =>
    rw [PatchUnit.drawn, Bool.and_eq_true, beq_iff_eq, hof] at hdrawn
    obtain ⟨dx, dy, c, rfl, rfl, rfl, ha⟩ := hvalid hdrawn.2 hdrawn.1
    exact ha.symm
  · next hdrawn =>
    rw [PatchUnit.drawn, Bool.and_eq_true, beq_iff_eq, hof] at hdrawn
    by_cases hstate : u.setState e.glyphSet = .valid
    · by_cases hzero : e.glyphSet = 0
      · exact (hset0 hzero (Bool.eq_false_iff.2 fun hv => hdrawn ⟨.inl ⟨hzero, hv⟩, hstate⟩)).symm
      · exact (hset1 hzero (Bool.eq_false_iff.2 fun hv => hdrawn ⟨.inr ⟨hzero, hv⟩, hstate⟩)).symm
    · exact (hnow hstate).symm

/-- A pixel no cell governs keeps its colour, in full-screen mode the plate colour (R102, R106). -/
theorem pixel_none {u : PatchUnit} {f : Surface} {q : Picture} {x y : Nat} {memory : Colour}
    (h : governing q.fullScreen x y none q.records = none) :
    u.pixel f q x y memory = if q.fullScreen = true then f.plate else memory := by
  rw [PatchUnit.pixel, h]

/-- A governed pixel takes the plate stage and the text stage (R106). -/
theorem pixel_some {u : PatchUnit} {f : Surface} {q : Picture} {x y : Nat} {memory : Colour}
    {e : CellRecord} (h : governing q.fullScreen x y none q.records = some e) :
    u.pixel f q x y memory = blendColour
      (blendColour (if q.fullScreen = true then f.plate else memory) e.plate e.alpha) e.fg
      (u.coverage q e x y) := by
  rw [PatchUnit.pixel, h]

/-- Pieces of four bytes each: a byte of the whole is one of its piece. -/
theorem getElem?_flatten_pieces {α : Type} {l : List (List α)} (h : ∀ p, p ∈ l → p.length = 4)
    {i j : Nat} (hj : j < 4) : l.flatten[4 * i + j]? = l[i]?.bind (fun p => p[j]?) := by
  induction l generalizing i with
  | nil => rfl
  | cons p rest ih =>
    have hp : p.length = 4 := h p (.head _)
    rw [List.flatten_cons]
    cases i with
    | zero => rw [List.getElem?_append_left (by omega)]; simp
    | succ i =>
      rw [List.getElem?_append_right (by omega), hp, show 4 * (i + 1) + j - 4 = 4 * i + j by omega,
        ih fun r hr => h r (.tail _ hr)]
      rfl

section
variable {u : PatchUnit} {f : Surface} {q : Picture} {y x0 : Nat} {data : Line}

/-- A pixel has four bytes. -/
theorem pixelBytes_length (hdata : data.length = 64) {i : Nat} (hi : i < 16) :
    (u.pixelBytes f q y x0 data i).length = 4 := by
  unfold PatchUnit.pixelBytes
  split
  · rfl
  · simp only [bytesAt, List.length_take, List.length_drop]; omega

/-- The pieces of a patched line are those of its sixteen pixels. -/
theorem pieces_length (hdata : data.length = 64) (p : List Byte)
    (hp : p ∈ (List.range 16).map (u.pixelBytes f q y x0 data)) : p.length = 4 := by
  obtain ⟨i, hi, rfl⟩ := List.mem_map.1 hp
  exact pixelBytes_length hdata (List.mem_range.1 hi)

/-- A patched line has 64 bytes. -/
theorem patchLine_length (hdata : data.length = 64) :
    (u.patchLine f q y x0 data).length = 64 := by
  rw [PatchUnit.patchLine, List.length_flatten,
    List.sum_eq_card_nsmul _ 4 fun n hn => ?_, List.length_map, List.length_map, List.length_range]
  · rfl
  · obtain ⟨p, hp, rfl⟩ := List.mem_map.1 hn
    exact pieces_length hdata p hp

/-- A byte of a patched line is one of its pixel's (R98). -/
theorem patchLine_byte (hdata : data.length = 64) {i j : Nat} (hi : i < 16) (hj : j < 4) :
    (u.patchLine f q y x0 data)[4 * i + j]? = (u.pixelBytes f q y x0 data i)[j]? := by
  rw [PatchUnit.patchLine, getElem?_flatten_pieces (pieces_length hdata) hj, List.getElem?_map,
    List.getElem?_range hi]
  rfl

/-- A pixel at or past the width is padding, and copied (R98). -/
theorem pixelBytes_padding {i j : Nat} (h : f.width ≤ x0 + i) (hj : j < 4) :
    (u.pixelBytes f q y x0 data i)[j]? = data[4 * i + j]? := by
  rw [PatchUnit.pixelBytes, if_neg (Nat.not_lt.2 h), bytesAt, List.getElem?_take_of_lt hj,
    List.getElem?_drop]

/-- A pixel below the width takes its patched colour, and keeps its fourth byte (R98, R106). -/
theorem pixelBytes_patched {i : Nat} (h : x0 + i < f.width) : u.pixelBytes f q y x0 data i =
    [byte (u.pixel f q (x0 + i) y (colourAt data (4 * i))).b,
      byte (u.pixel f q (x0 + i) y (colourAt data (4 * i))).g,
      byte (u.pixel f q (x0 + i) y (colourAt data (4 * i))).r, data.getD (4 * i + 3) 0] :=
  if_pos h

end

/-- Settles O59: the blend by its bounds, the line pixel by pixel from the governing record. -/
theorem blendIsBetweenItsInputs : Obligations.BlendIsBetweenItsInputs := by
  refine ⟨fun base top alpha _ _ halpha => ⟨rfl, ?_, ?_, ?_, ?_, (blend_bounds halpha).1,
    (blend_bounds halpha).2, ?_⟩, fun u f q y x0 data hdata hq => ?_⟩
  · unfold alphaOf; omega
  · unfold alphaOf; omega
  · rintro rfl; exact blend_zero base top
  · rintro rfl; exact blend_full base top
  · rintro rfl
    obtain ⟨hge, hle⟩ := blend_bounds (base := base) (top := base) halpha
    exact Nat.le_antisymm (hle.trans_eq (max_self base)) ((min_self base).symm.trans_le hge)
  · refine ⟨_, rfl, patchLine_length hdata, fun i hi => ⟨fun hpad j hj => ?_, fun hwidth => ?_⟩⟩
    · rw [patchLine_byte hdata hi hj, pixelBytes_padding hpad hj]
    · have hbyte := fun j (hj : j < 4) => patchLine_byte (u := u) (f := f) (q := q) (y := y)
        (x0 := x0) hdata hi hj
      rw [pixelBytes_patched hwidth] at hbyte
      refine ⟨?_, _, _, rfl, hbyte 0 (by decide), hbyte 1 (by decide), hbyte 2 (by decide),
        fun hnone => ?_, fun hsome => ?_, fun n e a hgov hinks => ?_⟩
      · rw [hbyte 3 (by decide), List.getD_eq_getElem _ _ (by omega)]
        exact (List.getElem?_eq_getElem _).symm
      · rw [pixel_none ((governing_none_iff ..).2 hnone)]
        rfl
      · rcases hfound : governing q.fullScreen (x0 + i) y none q.records with _ | e
        · obtain ⟨n, e, hmem, hdraws⟩ := hsome
          exact absurd hdraws ((governing_none_iff ..).1 hfound n e hmem)
        · obtain ⟨n, hgov⟩ := (governing_iff hq ..).1 hfound
          exact ⟨n, e, hgov⟩
      · rw [pixel_some ((governing_iff hq ..).2 ⟨n, hgov⟩), coverage_eq hinks]
        exact ⟨rfl, rfl, rfl⟩

end Sys2Proof.Machine

namespace Sys2Proof.Machine

/-! ### Flow -/

/-- Flow becomes GO exactly where the depth is at or below the lower mark (R115). -/
theorem easeFlow_eq (p : Pane) (lower : Nat) : p.easeFlow lower =
    { p with flow := if p.queue.length ≤ lower then .go else p.flow } := by
  unfold Pane.easeFlow
  split <;> rfl

/-! ### The advances of a frame start -/

/-- The advances of a frame start after the first `n`, or all, frames of the queue are found: the
frames gone, the last one displayed, nothing counted yet (R116, R117). -/
def Pane.foundBy (p : Pane) (g : PaneSettings) (n : Nat) : AdvanceState :=
  { pane := { p.advancedBy g n with flow := p.flow, counters := p.counters },
    found := min n p.queue.length }

section
variable {a : AdvanceState}

/-- Advances due are handled one after the other (R116). -/
theorem advances_add (m n : Nat) (a : AdvanceState) :
    AdvanceState.advances (m + n) a = AdvanceState.advances n (AdvanceState.advances m a) := by
  induction m generalizing a with
  | zero => rw [Nat.zero_add]; rfl
  | succ m ih => rw [Nat.succ_add]; exact ih a.advance

/-- An advance that changes nothing changes nothing however often it is due. -/
theorem advances_fixed (h : a.advance = a) (n : Nat) : AdvanceState.advances n a = a := by
  induction n with
  | zero => rfl
  | succ n ih => rw [AdvanceState.advances, h, ih]

/-- Advances that find a frame each display the last one found (R117). -/
theorem advances_found {n : Nat} (hn : n ≤ a.pane.queue.length) :
    AdvanceState.advances n a =
      { pane := { a.pane with
          displayed := if n = 0 then a.pane.displayed else a.pane.queue[n - 1]?
          queue := a.pane.queue.drop n
          underrunRun := if n = 0 then a.pane.underrunRun else 0 },
        found := a.found + n } := by
  induction n generalizing a with
  | zero => rfl
  | succ n ih =>
    rcases hq : a.pane.queue with _ | ⟨f, rest⟩
    · rw [hq] at hn; cases hn
    · have hadv : a.advance =
          { pane := { a.pane with displayed := some f, queue := rest, underrunRun := 0 },
            found := a.found + 1 } := by rw [AdvanceState.advance, hq]
      rw [hq] at hn
      rw [AdvanceState.advances, hadv, ih (Nat.le_of_succ_le_succ hn)]
      have hcount : a.found + 1 + n = a.found + (n + 1) := by omega
      rw [hcount]
      rcases n with _ | n <;> rfl

/-- An advance on an empty queue holds the picture while the playlist is SUSPENDED (R118). -/
theorem advance_suspended (hq : a.pane.queue = []) (hl : a.pane.playlist.state = .suspended) :
    a.advance = a := by
  simp only [AdvanceState.advance, hq, hl]

/-- An advance on an empty queue holds a picture that does not end a completed pass (R118). -/
theorem advance_held (hq : a.pane.queue = []) (hl : a.pane.playlist.state = .idle)
    (h : a.pane.display ≠ .showing ∨ ∀ f, a.pane.displayed = some f → f.endsPass = false) :
    a.advance = a := by
  simp only [AdvanceState.advance, hq, hl]
  refine if_neg fun ⟨hshow, hends⟩ => ?_
  obtain ⟨f, hf, hpass⟩ := (Option.any_eq_true _ _).1 hends
  rcases h with h | h
  · exact h hshow
  · rw [h f hf] at hpass; cases hpass

/-- The first advance on an empty queue ends the showing of a completed pass, and the others find a
DARK pane (R118). -/
theorem advances_ended {f : Frame} {n : Nat} (hq : a.pane.queue = [])
    (hl : a.pane.playlist.state = .idle) (hshow : a.pane.display = .showing)
    (hf : a.pane.displayed = some f) (hends : f.endsPass = true) (hn : 0 < n) :
    AdvanceState.advances n a =
      { a with pane := { a.pane with displayed := none, display := .dark } } := by
  obtain ⟨m, rfl⟩ := Nat.exists_eq_succ_of_ne_zero hn.ne'
  have hfirst : a.advance =
      { a with pane := { a.pane with displayed := none, display := .dark } } := by
    simp [AdvanceState.advance, hq, hl, hshow, hf, hends]
  rw [AdvanceState.advances, hfirst]
  refine advances_fixed (advance_held ?_ ?_ (.inl ?_)) m
  exacts [hq, hl, nofun]

/-- Every advance on an empty queue is an underrun while the playlist is ACTIVE; a SHOWING pane adds
it to its run (R118, R121). -/
theorem advances_underrun (hq : a.pane.queue = []) (hl : a.pane.playlist.state = .active)
    (n : Nat) :
    AdvanceState.advances n a =
      { a with
        pane := { a.pane with
          counters := { a.pane.counters with
            underruns := satAdd a.pane.counters.underruns n }
          underrunRun := if a.pane.display = .showing then a.pane.underrunRun + n
            else a.pane.underrunRun } } := by
  induction n generalizing a with
  | zero => simp [AdvanceState.advances, satAdd]
  | succ n ih =>
    have hfirst : a.advance =
        { a with
          pane := { a.pane with
            counters := { a.pane.counters with underruns := satInc a.pane.counters.underruns }
            underrunRun := if a.pane.display = .showing then a.pane.underrunRun + 1
              else a.pane.underrunRun } } := by
      simp only [AdvanceState.advance, hq, hl]
    rw [AdvanceState.advances, ih (by rw [hfirst]; exact hq) (by rw [hfirst]; exact hl), hfirst]
    by_cases hshow : a.pane.display = .showing <;>
      simp [hshow, satAdd, Nat.add_assoc, Nat.add_comm 1]

end

/-! ### Acc and the advances due -/

section
variable {p : Pane} {g : PaneSettings} {n : Nat}

/-- A pane that is not DARK finds what frames it can, and then has the other advances due on an
empty queue (R116, R117). -/
theorem cadence_due (hlit : p.display ≠ .dark) (hn : n = (p.acc + g.clipRate) / g.scanRate) :
    p.cadence g = (AdvanceState.advances (n - p.queue.length) (p.foundBy g n)).count := by
  have hsplit : (p.acc + g.clipRate) / g.scanRate =
      min n p.queue.length + (n - p.queue.length) := by omega
  have hacc : (p.acc + g.clipRate) % g.scanRate = p.acc + g.clipRate - n * g.scanRate := by
    rw [hn, Nat.mod_eq_sub_div_mul]
  have hdrop : p.queue.drop (min n p.queue.length) = p.queue.drop n := by
    rw [List.drop_eq_drop_iff]; omega
  have hfound := advances_found (n := min n p.queue.length) (a :=
    { pane := { p with acc := p.acc + g.clipRate - n * g.scanRate }, found := 0 })
    (Nat.min_le_right ..)
  rw [Nat.zero_add] at hfound
  rw [Pane.cadence, if_neg hlit, hsplit, advances_add, hacc, hfound]
  dsimp only
  rw [hdrop]
  rfl

/-- Where no advance is left over the frames found are counted and nothing else (R117). -/
theorem count_foundBy (p : Pane) (g : PaneSettings) (n : Nat) :
    (p.foundBy g n).count = { p.advancedBy g n with flow := p.flow } := by
  unfold AdvanceState.count Pane.foundBy Pane.advancedBy
  by_cases hm : min n p.queue.length = 0
  · simp [hm]
  · have hlt : min n p.queue.length - 1 < p.queue.length := by omega
    simp only [hm, Nat.pos_of_ne_zero hm, if_false, true_and, List.getElem?_eq_getElem hlt,
      Option.isSome_some, if_true]

/-- A pane after a frame start in which `n` advances fall due, more than it has frames, and each one
left over is an underrun (R118, R121). -/
def Pane.underrunBy (p : Pane) (g : PaneSettings) (n : Nat) : Pane :=
  { p.advancedBy g n with
    underrunRun := if p.display = .showing
      then (p.advancedBy g n).underrunRun + (n - p.queue.length)
      else (p.advancedBy g n).underrunRun
    counters := { (p.advancedBy g n).counters with
      underruns := satAdd p.counters.underruns (n - p.queue.length) } }

/-- A SHOWING pane adds its underruns to its run (R121). -/
theorem underrunBy_run (hshow : p.display = .showing) : (p.underrunBy g n).underrunRun =
    (p.advancedBy g n).underrunRun + (n - p.queue.length) := if_pos hshow

/-- The depth decides the flow of a pane left with the advances' frames gone (R115). -/
theorem easeFlow_of_advancedBy {q : Pane} (hq : q.queue = p.queue.drop n) :
    q.easeFlow g.lower =
      { q with flow := if p.queue.length - n ≤ g.lower then .go else q.flow } := by
  rw [easeFlow_eq, hq, List.length_drop]

/-- A run of underruns never grows by frames found (R117). -/
theorem advancedBy_run (hi : PaneInv p g) (n : Nat) :
    (p.advancedBy g n).underrunRun < g.deglitch := by
  have hrun := hi.run
  change (if min n p.queue.length = 0 then p.underrunRun else 0) < g.deglitch
  split <;> omega

/-! ### A frame start at one pane -/

/-- A frame start whose cadence leaves a run below the deglitch setting starves nothing (R121). -/
theorem frameStart_unstarved (h : (p.cadence g).underrunRun < g.deglitch) :
    p.frameStart g false = { pane := (p.cadence g).easeFlow g.lower, causes := [] } := by
  have hrun : ¬ g.deglitch ≤ ((p.cadence g).easeFlow g.lower).underrunRun := by
    rw [easeFlow_eq]; exact Nat.not_le.2 h
  simp only [Pane.frameStart, Bool.false_eq_true, if_false, hrun]

/-- A frame start whose cadence leaves a run at the deglitch setting starves the pane (R121). -/
theorem frameStart_starved (h : g.deglitch ≤ (p.cadence g).underrunRun) :
    p.frameStart g false = ((p.cadence g).easeFlow g.lower).starve g := by
  have hrun : g.deglitch ≤ ((p.cadence g).easeFlow g.lower).underrunRun := by
    rw [easeFlow_eq]; exact h
  simp only [Pane.frameStart, Bool.false_eq_true, if_false, hrun, if_true]

/-- A starved pane's run is over and counted, whatever its starvation mode (R121). -/
def Pane.starvedOnce (q : Pane) : Pane :=
  { q with
    underrunRun := 0
    counters := { q.counters with starves := satInc q.counters.starves } }

/-- In HOLD mode a starved pane keeps its picture (R121). -/
theorem starve_hold (q : Pane) (h : g.starvation = .hold) :
    q.starve g = { pane := q.starvedOnce, causes := [.paneStarved] } := by
  simp only [Pane.starve, h]; rfl

/-- A pane latches in POSTER mode, and in RETRY mode with its retries used up (R121, R122). -/
theorem starve_latch (q : Pane) (h : g.starvation = .poster ∨
    ∃ m, g.starvation = .retry ∧ g.retryLimit = some m ∧ m ≤ q.retriesUsed) :
    q.starve g = { pane := { q.starvedOnce with display := .fallbackLatched },
                   causes := [.paneStarved, .paneLatched] } := by
  rcases h with h | ⟨m, h, hm, hused⟩
  · simp only [Pane.starve, h]; rfl
  · simp only [Pane.starve, h, hm, Nat.not_lt.2 hused, if_false]; rfl

/-- A pane with retries left waits for its retry timer (R122). -/
theorem starve_retry (q : Pane) (h : g.starvation = .retry)
    (hleft : ∀ m, g.retryLimit = some m → q.retriesUsed < m) :
    q.starve g = {
      pane := { q.starvedOnce with display := .fallbackWait, retryTimer := some g.retryTime },
      causes := [.paneStarved] } := by
  rcases hm : g.retryLimit with _ | m
  · simp only [Pane.starve, h, hm]; rfl
  · simp only [Pane.starve, h, hm, hleft m hm, if_true]; rfl

/-- A DARK pane takes its first frame, if one is queued (R116). -/
theorem cadence_dark (hdark : p.display = .dark) {f : Frame} {rest : List Frame}
    (hq : p.queue = f :: rest) : p.cadence g = { p with
      displayed := some f, queue := rest, acc := 0, display := .showing
      counters := { p.counters with shown := satInc p.counters.shown } } := by
  simp only [Pane.cadence, hdark, hq, if_true]

/-- With none queued it stays as it is (R116). -/
theorem cadence_dark_empty (hdark : p.display = .dark) (hq : p.queue = []) :
    p.cadence g = p := by
  simp only [Pane.cadence, hdark, hq, if_true]

/-- More advances than frames empty the queue (R117). -/
theorem foundBy_queue (hlt : p.queue.length < n) : (p.foundBy g n).pane.queue = [] :=
  List.drop_eq_nil_of_le hlt.le

section
variable (hlit : p.display ≠ .dark) (hn : n = (p.acc + g.clipRate) / g.scanRate)
include hlit hn

/-- Where the advances left over change nothing, a frame start leaves the frames found (R117,
R118). -/
theorem frameStart_held (hi : PaneInv p g)
    (h : AdvanceState.advances (n - p.queue.length) (p.foundBy g n) = p.foundBy g n) :
    p.frameStart g false = { pane := p.advancedBy g n, causes := [] } := by
  have hcad : p.cadence g = { p.advancedBy g n with flow := p.flow } := by
    rw [cadence_due hlit hn, h, count_foundBy]
  rw [frameStart_unstarved (by rw [hcad]; exact advancedBy_run hi n), hcad,
    easeFlow_of_advancedBy rfl]
  rfl

/-- Advances that all find a frame (R116, R117). -/
theorem frameStart_found (hi : PaneInv p g) (hle : n ≤ p.queue.length) :
    p.frameStart g false = { pane := p.advancedBy g n, causes := [] } :=
  frameStart_held hlit hn hi (by rw [Nat.sub_eq_zero_of_le hle]; rfl)

section
variable (hlt : p.queue.length < n)
include hlt

/-- Advances past the last frame hold the picture while the playlist is SUSPENDED (R118). -/
theorem frameStart_suspended (hi : PaneInv p g) (hl : p.playlist.state = .suspended) :
    p.frameStart g false = { pane := p.advancedBy g n, causes := [] } :=
  frameStart_held hlit hn hi (advances_fixed (advance_suspended (foundBy_queue hlt) hl) _)

/-- Advances past the last frame hold, of an IDLE playlist, a picture that does not end a completed
pass (R118). -/
theorem frameStart_idle (hi : PaneInv p g) (hl : p.playlist.state = .idle)
    (h : p.display ≠ .showing ∨ ∀ f, (p.advancedBy g n).displayed = some f → f.endsPass = false) :
    p.frameStart g false = { pane := p.advancedBy g n, causes := [] } :=
  frameStart_held hlit hn hi (advances_fixed (advance_held (foundBy_queue hlt) hl h) _)

/-- The first advance left over ends the showing of a completed pass, of which nothing is counted as
shown (R117, R118; log entry 13). -/
theorem frameStart_ended (hi : PaneInv p g) {f : Frame} (hl : p.playlist.state = .idle)
    (hshow : p.display = .showing) (hf : (p.advancedBy g n).displayed = some f)
    (hends : f.endsPass = true) :
    p.frameStart g false = {
      pane := { p.advancedBy g n with
        displayed := none, display := .dark
        counters := { (p.advancedBy g n).counters with shown := p.counters.shown } },
      causes := [] } := by
  have hcad : p.cadence g = { p.advancedBy g n with
      displayed := none, display := .dark, flow := p.flow
      counters := { (p.advancedBy g n).counters with shown := p.counters.shown } } := by
    rw [cadence_due hlit hn, advances_ended (f := f) (foundBy_queue hlt) hl hshow hf hends
      (Nat.sub_pos_of_lt hlt)]
    simp only [AdvanceState.count, Option.isSome_none, Bool.false_eq_true, and_false, if_false]
    rfl
  rw [frameStart_unstarved (by rw [hcad]; exact advancedBy_run hi n), hcad,
    easeFlow_of_advancedBy rfl]
  rfl

section
variable (hl : p.playlist.state = .active)
include hl

/-- Every advance left over is an underrun while the playlist is ACTIVE (R118). -/
theorem cadence_underrun : p.cadence g = { p.underrunBy g n with flow := p.flow } := by
  rw [cadence_due hlit hn, advances_underrun (foundBy_queue hlt) hl]
  exact congrArg (fun q : Pane => { q with
    underrunRun := (p.underrunBy g n).underrunRun
    counters := { q.counters with
      underruns := satAdd p.counters.underruns (n - p.queue.length) } }) (count_foundBy p g n)

/-- Underruns that leave the run below the deglitch setting, as those of a fallback do (R118,
R121). -/
theorem frameStart_underrun (hrun : (p.underrunBy g n).underrunRun < g.deglitch) :
    p.frameStart g false = { pane := p.underrunBy g n, causes := [] } := by
  have hcad := cadence_underrun hlit hn hlt hl
  rw [frameStart_unstarved (by rw [hcad]; exact hrun), hcad, easeFlow_of_advancedBy rfl]
  rfl

/-- Underruns that bring the run to the deglitch setting starve the pane (R121). -/
theorem frameStart_starves (hrun : g.deglitch ≤ (p.underrunBy g n).underrunRun) :
    p.frameStart g false = (p.underrunBy g n).starve g := by
  have hcad := cadence_underrun hlit hn hlt hl
  rw [frameStart_starved (by rw [hcad]; exact hrun), hcad, easeFlow_of_advancedBy rfl]
  rfl

end
end
end
end
/-- Settles O18: each clause by the advances due and what those left over find. -/
theorem cadencePacesFrames : Obligations.CadencePacesFrames := by
  intro p g hi
  have hrun := hi.run
  have hacc := hi.acc
  obtain ⟨hscan, -, -, -⟩ := hi.rates
  have due : ∀ k, k * g.scanRate ≤ p.acc + g.clipRate → p.acc + g.clipRate < (k + 1) * g.scanRate →
      k = (p.acc + g.clipRate) / g.scanRate := fun k hlo hhi =>
    (Nat.div_eq_of_lt_le hlo hhi).symm
  refine ⟨rfl, fun f rest hdark hq => ?_, fun hlit hlt => ?_, fun f rest hlit hq hge hlt => ?_,
    fun f h rest hlit hq hge hlt => ?_, fun hshow hq hl hge hlt => ?_,
    fun f hshow hq hl hf hge hlt => ?_, fun hdark hq => ?_, ?_⟩
  · have hcad := cadence_dark (g := g) hdark hq
    rw [frameStart_unstarved (by rw [hcad]; exact hrun), hcad, easeFlow_eq]
  · rw [frameStart_found hlit (due 0 (by omega) (by omega)) hi (Nat.zero_le _)]
    simp [Pane.advancedBy, satAdd]
  · rw [frameStart_found hlit (due 1 (by omega) (by omega)) hi (by simp [hq])]
    simp [Pane.advancedBy, hq, satAdd]
  · rw [frameStart_found hlit (due 2 (by omega) (by omega)) hi (by simp [hq])]
    simp [Pane.advancedBy, hq, satAdd]
  · have hone : p.underrunBy g 1 = { p with
        acc := p.acc + g.clipRate - g.scanRate, flow := .go, underrunRun := p.underrunRun + 1
        counters := { p.counters with underruns := satInc p.counters.underruns } } := by
      simp [Pane.underrunBy, Pane.advancedBy, hq, hshow, satAdd]
    have hlit : p.display ≠ .dark := by simp [hshow]
    have hdue := due 1 (by omega) (by omega)
    have hlt : p.queue.length < 1 := by simp [hq]
    refine ⟨_, rfl, fun hbelow => ?_, fun hge => ⟨_, rfl, fun hm => ?_, fun hm => ?_,
      fun hm hleft => ?_, fun m hm hlimit hused => ?_⟩⟩
    · rw [frameStart_underrun hlit hdue hlt hl (by rw [hone]; exact hbelow), hone]
    all_goals rw [frameStart_starves hlit hdue hlt hl (by rw [hone]; exact hge), hone]
    · exact starve_hold _ hm
    · exact starve_latch _ (.inl hm)
    · exact starve_retry _ hm hleft
    · exact starve_latch _ (.inr ⟨m, hm, hlimit, hused⟩)
  · have hlit : p.display ≠ .dark := by simp [hshow]
    have hdue := due 1 (by omega) (by omega)
    have hlt : p.queue.length < 1 := by simp [hq]
    have hone : (p.advancedBy g 1).displayed = some f := by simp [Pane.advancedBy, hq, hf]
    cases hends : f.endsPass
    · rw [frameStart_idle hlit hdue hlt hi hl (.inr fun h hh => by
        rw [← Option.some.inj (hone.symm.trans hh)]; exact hends)]
      simp [Pane.advancedBy, hq, hf, hshow, satAdd]
    · rw [frameStart_ended hlit hdue hlt hi hl hshow hone hends]
      simp [Pane.advancedBy, hq, satAdd]
  · have hcad := cadence_dark_empty (g := g) hdark hq
    have hflow : p.flow = .go := hi.flow (by rw [hq]; rfl)
    rw [frameStart_unstarved (by rw [hcad]; exact hrun), hcad, easeFlow_eq, hflow, ite_self,
      ← hflow]
  · rintro n b hlit hn rfl
    refine ⟨frameStart_found hlit hn hi, fun hlt => ⟨frameStart_suspended hlit hn hlt hi,
      frameStart_idle hlit hn hlt hi,
      fun f hl hshow hf hends => frameStart_ended hlit hn hlt hi hl hshow hf hends,
      fun hl => ⟨_, rfl, fun hshow => ?_, fun hshow hbelow => ?_, fun hshow hge => ?_⟩⟩⟩
    · have hsame : (p.underrunBy g n).underrunRun = (p.advancedBy g n).underrunRun := if_neg hshow
      rw [frameStart_underrun hlit hn hlt hl (hsame ▸ advancedBy_run hi n), Pane.underrunBy,
        if_neg hshow]
    · rw [frameStart_underrun hlit hn hlt hl (underrunBy_run hshow ▸ hbelow), Pane.underrunBy,
        if_pos hshow]
    · rw [frameStart_starves hlit hn hlt hl (underrunBy_run hshow ▸ hge)]
      exact ⟨_, rfl, fun hm => starve_hold _ hm, fun hm => starve_latch _ hm,
        fun hm hleft => starve_retry _ hm hleft⟩

end Sys2Proof.Machine

namespace Sys2Proof.Machine

/-! ### A pane stays sound -/

/-- A pane is sound: if it is configured, as its settings ask. -/
def Pane.Sound (p : Pane) : Prop := ∀ g, p.settings = some g → PaneInv p g

section
variable {p q : Pane} {g : PaneSettings}

/-- What soundness reads of a pane may stay, or go: an emptied queue with flow GO, no displayed
frame, acc and the run of underruns back at 0. -/
theorem PaneInv.lessened (hi : PaneInv p g) (hacc : q.acc = p.acc ∨ q.acc = 0)
    (hqueue : q.queue = p.queue ∧ q.flow = p.flow ∨ q.queue = [] ∧ q.flow = .go)
    (hshown : q.displayed = p.displayed ∨ q.displayed = none)
    (hrun : q.underrunRun = p.underrunRun ∨ q.underrunRun = 0) : PaneInv q g := by
  have hkept := hi.acc
  have hbelow := hi.run
  have hsub : ∀ f, f ∈ q.queue → f ∈ p.queue := by
    intro f hf
    rcases hqueue with ⟨h, -⟩ | ⟨h, -⟩ <;> rw [h] at hf
    · exact hf
    · cases hf
  refine ⟨hi.slots, hi.marks, hi.rates, by omega, ?_, fun f hf => ?_, fun f hf => ?_, ?_,
    fun hempty => ?_, by omega⟩
  · rcases hqueue with ⟨h, -⟩ | ⟨h, -⟩ <;> rw [h]
    · exact hi.depth
    · have hslots := hi.slots
      rw [List.length_nil]; omega
  · obtain ⟨hslot, hnot⟩ := hi.queued f (hsub f hf)
    refine ⟨hslot, ?_⟩
    rcases hshown with h | h <;> rw [Pane.shows, h]
    exact hnot
  · rcases hshown with h | h <;> rw [h] at hf
    · exact hi.displayed f hf
    · cases hf
  · rcases hqueue with ⟨h, -⟩ | ⟨h, -⟩ <;> rw [h]
    · exact hi.distinct
    · exact List.nodup_nil
  · rcases hqueue with ⟨h, hflow⟩ | ⟨-, hflow⟩ <;> rw [hflow]
    exact hi.flow (by rw [← h]; exact hempty)

/-- As `PaneInv.lessened`, of a pane with its settings kept. -/
theorem Pane.Sound.lessened (hi : p.Sound) (hset : q.settings = p.settings)
    (hacc : q.acc = p.acc ∨ q.acc = 0)
    (hqueue : q.queue = p.queue ∧ q.flow = p.flow ∨ q.queue = [] ∧ q.flow = .go)
    (hshown : q.displayed = p.displayed ∨ q.displayed = none)
    (hrun : q.underrunRun = p.underrunRun ∨ q.underrunRun = 0) : q.Sound := fun _ hg =>
  (hi _ (hset ▸ hg)).lessened hacc hqueue hshown hrun

/-- What soundness does not read changes freely, and a run of underruns may end. -/
theorem Pane.Sound.kept (hi : p.Sound) (hset : q.settings = p.settings) (hacc : q.acc = p.acc)
    (hqueue : q.queue = p.queue) (hflow : q.flow = p.flow) (hshown : q.displayed = p.displayed)
    (hrun : q.underrunRun = p.underrunRun ∨ q.underrunRun = 0) : q.Sound :=
  hi.lessened hset (.inl hacc) (.inl ⟨hqueue, hflow⟩) (.inl hshown) hrun

/-- An unconfigured pane has nothing to keep. -/
theorem pane_vacant_sound : Pane.vacant.Sound := nofun

/-! What soundness does not read: outstanding counts, the playlist, the tick that waits. -/

theorem issueRead_sound (hi : p.Sound) (slot : Nat) : (p.issueRead slot).Sound :=
  hi.kept rfl rfl rfl rfl rfl (.inl rfl)
theorem returnRead_sound (hi : p.Sound) (slot : Nat) : (p.returnRead slot).Sound :=
  hi.kept rfl rfl rfl rfl rfl (.inl rfl)
theorem withPlaylist_sound (hi : p.Sound) (l : Playlist) : { p with playlist := l }.Sound :=
  hi.kept rfl rfl rfl rfl rfl (.inl rfl)
theorem withTick_sound (hi : p.Sound) (b : Bool) : { p with tickWaiting := b }.Sound :=
  hi.kept rfl rfl rfl rfl rfl (.inl rfl)

/-- A retry shows the pane again with no underruns counted (R122). -/
theorem retryTick_sound (hi : p.Sound) : p.retryTick.Sound := by
  unfold Pane.retryTick
  split
  · exact hi
  · split
    · split
      · exact hi.kept rfl rfl rfl rfl rfl (.inr rfl)
      · exact hi.kept rfl rfl rfl rfl rfl (.inl rfl)
    · exact hi.kept rfl rfl rfl rfl rfl (.inl rfl)

theorem clear_sound (hi : p.Sound) : p.clear.Sound := hi.kept rfl rfl rfl rfl rfl (.inr rfl)

/-- PLAY_START flushes the queue with NOW, and ends the run of underruns (R134, R135). -/
theorem playStart_sound (hi : p.Sound) (e : Nat) (now : Bool) : (p.playStart e now).Sound := by
  cases now with
  | false => exact hi.kept rfl rfl rfl rfl rfl (.inr rfl)
  | true => exact hi.lessened rfl (.inl rfl) (.inr ⟨rfl, rfl⟩) (.inl rfl) (.inr rfl)

theorem playStop_sound (hi : p.Sound) : p.playStop.Sound :=
  hi.lessened rfl (.inl rfl) (.inr ⟨rfl, rfl⟩) (.inr rfl) (.inr rfl)

/-- WARM_RESET restarts a configured pane, and stops the playlist of any other (R111, R129). -/
theorem pane_warmReset_sound (hi : p.Sound) : p.warmReset.Sound := by
  unfold Pane.warmReset
  split
  · exact hi.lessened rfl (.inr rfl) (.inr ⟨rfl, rfl⟩) (.inr rfl) (.inr rfl)
  · exact withPlaylist_sound hi _

/-! ### SET_PANE keeps a pane sound -/

/-- The settings a SET_PANE stores are in range, for slots that pass test 5 of R110 (R111). -/
theorem paneSettingsOf_ranges {a : PaneParams} (hslots : badSlots a = false)
    (hg : paneSettingsOf a = some g) :
    (2 ≤ g.slotCount ∧ g.slotCount ≤ Config.slots) ∧
      (g.lower < g.upper ∧ g.upper < g.slotCount) ∧
      (24 ≤ g.scanRate ∧ g.scanRate ≤ 120 ∧ 1 ≤ g.clipRate ∧ g.clipRate ≤ 120) ∧
      1 ≤ g.deglitch := by
  simp only [badSlots, Bool.or_eq_false_iff, decide_eq_false_iff_not] at hslots
  obtain ⟨⟨-, hlo⟩, hhi⟩ := hslots
  unfold paneSettingsOf at hg
  split at hg
  · cases hg
  · split at hg
    · cases hg
      simp only [clamp, Config.slots]
      omega
    · cases hg

/-- A pane set anew is sound: it is empty, and its settings are in range (R111). -/
theorem setPane_sound {a : PaneParams} (hslots : badSlots a = false)
    (hg : paneSettingsOf a = some g) : { p.restart with settings := some g }.Sound := by
  intro h hh
  obtain rfl : g = h := Option.some.inj hh
  obtain ⟨hcount, hmarks, hrates, hdeglitch⟩ := paneSettingsOf_ranges hslots hg
  have hscan : 0 < g.scanRate := by omega
  have hroom : 0 < g.slotCount := by omega
  exact ⟨hcount, hmarks, hrates, hscan, hroom, nofun, nofun, List.nodup_nil, fun _ => rfl,
    hdeglitch⟩

/-! ### A marker keeps a pane sound -/

/-- A marker is taken exactly when it passes the tests of R113 in order. -/
theorem judge_taken_iff (p : Pane) (g : PaneSettings) (full : Bool) (data : Line) :
    p.judge g full data = .taken ↔
      full = true ∧ onesSum data 32 = 65535 ∧ p.playlist.state = .active ∧
        (decodeMarker data).generation = p.playlist.generation ∧
        (decodeMarker data).slot < g.slotCount ∧ p.isFree (decodeMarker data).slot = true ∧
        p.queue.length < g.slotCount - 1 := by
  unfold Pane.judge
  split_ifs with hpart hsum hstale hslot
  · exact iff_of_false nofun fun ⟨hfull, _⟩ => by rw [hpart] at hfull; cases hfull
  · exact iff_of_false nofun fun ⟨_, hgood, _⟩ => hsum hgood
  · exact iff_of_false nofun fun ⟨_, _, hactive, hgen, _⟩ =>
      hstale.elim (fun h => h hactive) (fun h => h hgen)
  · refine iff_of_false nofun fun ⟨_, _, _, _, hbelow, hfree, hroom⟩ => ?_
    rcases hslot with h | h | h
    · omega
    · rw [hfree] at h; cases h
    · omega
  · obtain ⟨hactive, hgen⟩ := not_or.1 hstale
    obtain ⟨hbelow, hfree, hroom⟩ : (decodeMarker data).slot < g.slotCount ∧
        p.isFree (decodeMarker data).slot = true ∧ p.queue.length < g.slotCount - 1 := by
      simpa only [not_or, Nat.not_le, Bool.not_eq_false] using hslot
    exact iff_of_true rfl ⟨Bool.not_eq_false _ ▸ hpart, not_not.1 hsum, not_not.1 hactive,
      not_not.1 hgen, hbelow, hfree, hroom⟩

/-- A pane with the frame of a taken marker queued, the cue not yet advanced (R114). -/
def Pane.joined (p : Pane) (g : PaneSettings) (m : Marker) : Pane :=
  { p with
    queue := p.queue ++ [{ slot := m.slot, endsPass := m.last }]
    flow := if g.upper ≤ p.queue.length + 1 then .wait else p.flow
    verdict := .taken
    counters := { p.counters with taken := satInc p.counters.taken } }

/-- A taken LAST marker advances the cue, and one that is not LAST does not (R114, R131). -/
theorem takeMarker_last (t : TallyUnit) {m : Marker} (h : m.last = true) :
    p.takeMarker t g m =
      { pane := { p.joined g m with playlist := (p.playlist.advanceCue t).list },
        causes := if (p.playlist.advanceCue t).stopped then [.playlistStopped] else [] } :=
  if_pos h

theorem takeMarker_more (t : TallyUnit) {m : Marker} (h : m.last = false) :
    p.takeMarker t g m = { pane := p.joined g m, causes := [] } := if_neg (Bool.eq_false_iff.1 h)

/-- A pane takes the frame of a free slot while it has fewer frames than slots to spare (R114). -/
theorem joined_sound (hi : p.Sound) (hg : p.settings = some g) {m : Marker}
    (hslot : m.slot < g.slotCount) (hfree : p.isFree m.slot = true)
    (hroom : p.queue.length < g.slotCount - 1) : (p.joined g m).Sound := by
  intro h hh
  obtain rfl : g = h := Option.some.inj (hg.symm.trans hh)
  have hinv := hi g hg
  obtain ⟨hshown, hqueued, -⟩ := (isFree_iff ..).1 hfree
  refine ⟨hinv.slots, hinv.marks, hinv.rates, hinv.acc, ?_, fun f hf => ?_, hinv.displayed, ?_,
    fun hempty => ?_, hinv.run⟩
  · simp only [Pane.joined, List.length_append, List.length_singleton]
    omega
  · rcases List.mem_append.1 hf with hf | hf
    · exact hinv.queued f hf
    · obtain rfl := List.mem_singleton.1 hf
      exact ⟨hslot, (shows_false_iff ..).2 hshown⟩
  · simp only [Pane.joined, List.map_append, List.map_cons, List.map_nil]
    refine List.nodup_append.2 ⟨hinv.distinct, List.nodup_singleton _, fun a ha b hb => ?_⟩
    obtain ⟨f, hf, rfl⟩ := List.mem_map.1 ha
    exact (List.mem_singleton.1 hb).symm ▸ hqueued f hf
  · simp [Pane.joined] at hempty

/-- A marker is judged, and taken or refused, by a pane that stays sound (R113, R114). -/
theorem marker_sound (hi : p.Sound) (hg : p.settings = some g) (t : TallyUnit) (full : Bool)
    (data : Line) : (p.marker t g full data).pane.Sound := by
  unfold Pane.marker
  split
  · next htaken =>
    obtain ⟨-, -, -, -, hslot, hfree, hroom⟩ := (judge_taken_iff ..).1 htaken
    have hjoined := joined_sound hi hg hslot hfree hroom
    rcases hlast : (decodeMarker data).last
    · rw [takeMarker_more t hlast]; exact hjoined
    · rw [takeMarker_last t hlast]; exact withPlaylist_sound hjoined _
  · exact hi.kept rfl rfl rfl rfl rfl (.inl rfl)

/-! ### A frame start keeps a pane sound -/

/-- The frame displayed after frames are found is one of those found, or with none found the one
displayed before (R117). -/
theorem advancedBy_displayed {n : Nat} {f : Frame} (h : (p.advancedBy g n).displayed = some f) :
    p.queue.drop n = p.queue ∧ p.displayed = some f ∨ f ∈ p.queue.take n := by
  change (if min n p.queue.length = 0 then p.displayed
    else p.queue[min n p.queue.length - 1]?) = some f at h
  split at h
  · next hnone =>
    refine .inl ⟨?_, h⟩
    rcases Nat.min_eq_zero_iff.1 hnone with rfl | hq
    · rfl
    · rw [List.length_eq_zero_iff.1 hq, List.drop_nil]
  · have htake : (p.queue.take n)[min n p.queue.length - 1]? = some f := by
      rw [List.getElem?_take_of_lt (by omega), h]
    exact .inr (List.mem_of_getElem? htake)

/-- A pane that finds frames of its queue stays sound, with acc below the scan rate (R116, R117). -/
theorem advancedBy_sound (hi : PaneInv p g) (n : Nat) {x : Nat} (hx : x < g.scanRate) :
    PaneInv { p.advancedBy g n with acc := x } g := by
  have hdistinct := hi.distinct
  rw [← List.take_append_drop n p.queue, List.map_append, List.nodup_append] at hdistinct
  obtain ⟨-, hleft, hapart⟩ := hdistinct
  refine ⟨hi.slots, hi.marks, hi.rates, hx, ?_, fun f hf => ⟨?_, ?_⟩, fun f hf => ?_, hleft,
    fun hempty => ?_, advancedBy_run hi n⟩
  · exact List.length_drop.trans_lt ((Nat.sub_le ..).trans_lt hi.depth)
  · exact (hi.queued f (List.mem_of_mem_drop hf)).1
  · refine (shows_false_iff ..).2 fun d hd => ?_
    rcases advancedBy_displayed (g := g) hd with ⟨hsame, hd⟩ | hfound
    · exact (shows_false_iff ..).1 (hi.queued f (List.mem_of_mem_drop hf)).2 d hd
    · exact hapart _ (List.mem_map_of_mem hfound) _ (List.mem_map_of_mem hf)
  · rcases advancedBy_displayed (g := g) hf with ⟨-, hf⟩ | hfound
    · exact hi.displayed f hf
    · exact (hi.queued f (List.mem_of_mem_take hfound)).1
  · have hdone : p.queue.length - n = 0 := List.length_drop.symm.trans hempty
    exact if_pos (hdone.trans_le (Nat.zero_le _))

/-- Advances on an empty queue change the display, the counters and the run of underruns, and at
most the displayed frame goes (R118). -/
theorem advances_empty {a : AdvanceState} (hq : a.pane.queue = []) (n : Nat) :
    ∃ shown display counters run, (shown = a.pane.displayed ∨ shown = none) ∧
      AdvanceState.advances n a = { a with pane := { a.pane with
        displayed := shown, display := display, counters := counters, underrunRun := run } } := by
  cases hl : a.pane.playlist.state with
  | active => exact ⟨_, _, _, _, .inl rfl, advances_underrun hq hl n⟩
  | suspended => exact ⟨_, _, _, _, .inl rfl, advances_fixed (advance_suspended hq hl) n⟩
  | idle =>
    by_cases hheld : a.pane.display ≠ .showing ∨ ∀ f, a.pane.displayed = some f → f.endsPass = false
    · exact ⟨_, _, _, _, .inl rfl, advances_fixed (advance_held hq hl hheld) n⟩
    · obtain ⟨hshow, f, hf, hends⟩ : a.pane.display = .showing ∧
          ∃ f, a.pane.displayed = some f ∧ f.endsPass = true := by simpa using hheld
      rcases n.eq_zero_or_pos with rfl | hn
      · exact ⟨_, _, _, _, .inl rfl, rfl⟩
      · exact ⟨_, _, _, _, .inr rfl, advances_ended hq hl hshow hf hends hn⟩

/-- What soundness reads of a pane `q` after the cadence of `p`: some frames are found, acc is below
the scan rate, and at most the displayed frame is gone (R116 to R118). -/
def Pane.Paced (p : Pane) (g : PaneSettings) (q : Pane) : Prop :=
  q.settings = p.settings ∧ q.flow = p.flow ∧ q.acc < g.scanRate ∧
    ∃ n, q.queue = p.queue.drop n ∧
      (q.displayed = (p.advancedBy g n).displayed ∨ q.displayed = none)

/-- Every cadence is of that shape: a DARK pane finds at most its first frame, any other those that
fall due. -/
theorem cadence_paced (hi : PaneInv p g) : p.Paced g (p.cadence g) := by
  obtain ⟨hscan, -⟩ := hi.rates
  have hpos : 0 < g.scanRate := by omega
  by_cases hdark : p.display = .dark
  · rcases hq : p.queue with _ | ⟨f, rest⟩
    · rw [cadence_dark_empty hdark hq]
      exact ⟨rfl, rfl, hi.acc, 0, rfl, .inl rfl⟩
    · rw [cadence_dark hdark hq]
      exact ⟨rfl, rfl, hpos, 1, by rw [hq]; rfl, .inl (by simp [Pane.advancedBy, hq])⟩
  · obtain ⟨n, hn⟩ : ∃ n, n = (p.acc + g.clipRate) / g.scanRate := ⟨_, rfl⟩
    have hacc : (p.foundBy g n).pane.acc < g.scanRate := by
      change p.acc + g.clipRate - n * g.scanRate < g.scanRate
      rw [hn, ← Nat.mod_eq_sub_div_mul]
      exact Nat.mod_lt _ hpos
    rw [cadence_due hdark hn]
    rcases le_or_gt n p.queue.length with hle | hlt
    · rw [Nat.sub_eq_zero_of_le hle]
      exact ⟨rfl, rfl, hacc, n, rfl, .inl rfl⟩
    · obtain ⟨shown, _, _, _, hshown, hadv⟩ := advances_empty (foundBy_queue (g := g) hlt)
        (n - p.queue.length)
      rw [hadv]
      exact ⟨rfl, rfl, hacc, n, rfl, hshown⟩

/-- A starved pane keeps what soundness reads, and its run of underruns is over (R121). -/
theorem starve_frame (q : Pane) (g : PaneSettings) : ∃ display timer,
    (q.starve g).pane = { q.starvedOnce with display := display, retryTimer := timer } := by
  unfold Pane.starve
  split
  · exact ⟨_, _, rfl⟩
  · exact ⟨_, _, rfl⟩
  · split
    · exact ⟨_, _, rfl⟩
    · dsimp only
      split <;> exact ⟨_, _, rfl⟩

/-- A pane after its cadence, its flow eased, is sound while its run is below the deglitch setting
(R115, R116). -/
theorem Pane.Paced.eased_sound {c : Pane} (hc : p.Paced g c) (hi : PaneInv p g)
    (hacc : q.acc = c.acc) (hqueue : q.queue = c.queue) (hshown : q.displayed = c.displayed)
    (hflow : q.flow = (c.easeFlow g.lower).flow) (hrun : q.underrunRun < g.deglitch) :
    PaneInv q g := by
  obtain ⟨-, hkept, hbelow, n, hdrop, hgone⟩ := hc
  have heased : q.flow = (p.advancedBy g n).flow := by
    rw [hflow, easeFlow_of_advancedBy hdrop, hkept]; rfl
  have hended : PaneInv { q with underrunRun := 0 } g :=
    (advancedBy_sound hi n hbelow).lessened (.inl hacc) (.inl ⟨hqueue.trans hdrop, heased⟩)
      (by rw [hshown]; exact hgone) (.inr rfl)
  exact { hended with run := hrun }

/-- A frame start at a pane keeps its settings and keeps it sound: a run that reaches the deglitch
setting starves it and is over (R116, R121). -/
theorem frameStart_sound (hi : PaneInv p g) (frozen : Bool) :
    (p.frameStart g frozen).pane.settings = p.settings ∧
      PaneInv (p.frameStart g frozen).pane g := by
  have hpaced := cadence_paced hi
  obtain ⟨hset, -⟩ := id hpaced
  have hrun := hi.run
  cases frozen with
  | true => exact ⟨rfl, hi⟩
  | false =>
    rcases Nat.lt_or_ge (p.cadence g).underrunRun g.deglitch with hbelow | hstarved
    · rw [frameStart_unstarved hbelow]
      refine ⟨?_, hpaced.eased_sound hi ?_ ?_ ?_ rfl ?_⟩
      all_goals rw [easeFlow_eq]
      exacts [hset, hbelow]
    · obtain ⟨display, timer, hq⟩ := starve_frame ((p.cadence g).easeFlow g.lower) g
      rw [frameStart_starved hstarved, hq]
      refine ⟨?_, hpaced.eased_sound hi ?_ ?_ ?_ rfl ((Nat.zero_le _).trans_lt hrun)⟩
      all_goals rw [easeFlow_eq]
      exacts [hset, rfl, rfl, rfl]

/-- A frame start of a surface keeps every pane sound (R116). -/
theorem framed_sound (hi : p.Sound) (surface : Nat) (frozen : Bool) :
    (p.framed surface frozen).pane.Sound := by
  unfold Pane.framed
  split
  · exact hi
  · next g hg =>
    split
    · obtain ⟨hset, hsound⟩ := frameStart_sound (hi g hg) frozen
      intro h hh
      rw [hset, hg] at hh
      exact Option.some.inj hh ▸ hsound
    · exact hi

end
end Sys2Proof.Machine

namespace Sys2Proof.Machine

/-! ### The Pane Unit stays sound, pane by pane -/

section
variable {u w : PaneUnit}

theorem panesInv_iff (u : PaneUnit) :
    PanesInv u ↔ u.panes.length = Config.panes ∧ ∀ p, p ∈ u.panes → p.Sound := by
  constructor
  · rintro ⟨hlen, hpanes⟩
    refine ⟨hlen, fun p hp g hg => ?_⟩
    obtain ⟨k, hk⟩ := List.getElem?_of_mem hp
    have hpane : u.pane k = p := by rw [PaneUnit.pane, List.getD_eq_getElem?_getD, hk]; rfl
    exact hpane ▸ hpanes k g (hpane ▸ hg)
  · rintro ⟨hlen, hpanes⟩
    refine ⟨hlen, fun k => ?_⟩
    rcases getD_mem_or u.panes k Pane.vacant with h | h
    · exact hpanes _ h
    · rw [PaneUnit.pane, h]; exact pane_vacant_sound

/-- A Pane Unit is sound after an event if it was before (R109). -/
structure PaneUnit.Keeps (u w : PaneUnit) : Prop where
  panes : PanesInv u → PanesInv w

theorem PaneUnit.Keeps.refl (u : PaneUnit) : u.Keeps u := ⟨id⟩
theorem PaneUnit.Keeps.trans {v : PaneUnit} (h : u.Keeps v) (k : v.Keeps w) : u.Keeps w :=
  ⟨k.panes ∘ h.panes⟩

/-- Soundness is a matter of the panes alone: flags and events handed on are free. -/
theorem keeps_of_panes (h : w.panes = u.panes) : u.Keeps w :=
  ⟨fun hi => (panesInv_iff w).2 (h ▸ (panesInv_iff u).1 hi)⟩

theorem keeps_of_pane (h : w = u) : u.Keeps w := h ▸ .refl u

/-- One pane replaced by a sound one. -/
theorem put_keeps (k : Nat) {p : Pane} (hp : (u.pane k).Sound → p.Sound) : u.Keeps (u.put k p) := by
  refine ⟨fun hi => ?_⟩
  obtain ⟨hlen, hpanes⟩ := (panesInv_iff u).1 hi
  refine (panesInv_iff _).2 ⟨List.length_set.trans hlen, fun q hq => ?_⟩
  rcases List.mem_or_eq_of_mem_set hq with hq | rfl
  · exact hpanes q hq
  · exact hp (hi.panes k)

/-- Every pane replaced by what an event makes of it. -/
theorem map_keeps {f : Pane → Pane} (h : w.panes = u.panes.map f)
    (hf : ∀ p, p.Sound → (f p).Sound) : u.Keeps w := by
  refine ⟨fun hi => ?_⟩
  obtain ⟨hlen, hpanes⟩ := (panesInv_iff u).1 hi
  refine (panesInv_iff w).2 ⟨by rw [h, List.length_map, hlen], fun q hq => ?_⟩
  obtain ⟨p, hp, rfl⟩ := List.mem_map.1 (h ▸ hq)
  exact hf p (hpanes p hp)

end

/-! ### What leaves the panes alone -/

section
variable (s : State)

@[simp] theorem State.refuse_pane (code tag : Nat) (status : Status) :
    (s.refuse code tag status).pane = s.pane := rfl
@[simp] theorem State.answer_pane (code tag : Nat) (result : List Byte) :
    (s.answer code tag result).pane = s.pane := rfl
@[simp] theorem State.derive_pane (reached : Source → Bool) :
    (s.derive reached).pane = s.pane := rfl
@[simp] theorem State.commitAll_pane : s.commitAll.pane = s.pane := by
  rw [State.commitAll, State.withPatch_pane]
@[simp] theorem State.raiseAll_pane (l : List Cause) : (s.raiseAll l).pane = s.pane := by
  rw [raiseAll_eq]; rfl
@[simp] theorem State.applyTop_pane (h : TopHandOn) : (s.applyTop h).pane = s.pane := by
  rw [State.applyTop, State.derive_pane, State.withPatch_pane]
@[simp] theorem State.applyTops_pane (l : List TopHandOn) : (s.applyTops l).pane = s.pane := by
  induction l generalizing s with
  | nil => rfl
  | cons h rest ih => rw [State.applyTops, ih, State.applyTop_pane]
/-- The Pane Unit takes full-screen flags as copies, which no pane holds (R120). -/
@[simp] theorem settleTops_panes : (settleTops s).pane.panes = s.pane.panes := by
  rw [settleTops, State.withPane_pane, takeFlags_eq]
@[simp] theorem tallyDone_panes (u : TallyUnit) (out : List BoardEvent) :
    (s.tallyDone u out).pane.panes = s.pane.panes := rfl
@[simp] theorem noticeDone_panes (u : NoticeUnit) :
    (s.noticeDone u).pane.panes = s.pane.panes := rfl

/-! ### The units' own events that leave the panes alone -/

theorem takeMinute_panes : (takeMinute s).pane.panes = s.pane.panes := by
  unfold takeMinute
  split
  · exact tallyDone_panes ..
  · rfl
theorem takeExpiry_panes : (takeExpiry s).pane.panes = s.pane.panes := by
  unfold takeExpiry
  split
  · exact tallyDone_panes ..
  · rfl
theorem takeBoardEvent_pane : (takeBoardEvent s).pane = s.pane := by
  unfold takeBoardEvent; split <;> rfl
theorem takeBoardMinute_pane : (takeBoardMinute s).pane = s.pane := by
  unfold takeBoardMinute; split <;> rfl
theorem takeDwell_pane (k : Nat) : (takeDwell k s).pane = s.pane := by
  unfold takeDwell
  split
  · rfl
  · split <;> rfl
theorem settleDwells_pane (n : Nat) : (settleDwells n s).pane = s.pane := by
  induction n generalizing s with
  | zero => rfl
  | succ n ih => rw [settleDwells, ih, takeDwell_pane]
theorem takeNoticeTick_panes : (takeNoticeTick s).pane.panes = s.pane.panes := by
  unfold takeNoticeTick
  split
  · exact noticeDone_panes ..
  · rfl
theorem noticeTally_panes (e : TallyEvent) : (noticeTally e s).pane.panes = s.pane.panes := by
  simp only [noticeTally]
  split
  · rw [State.raise_pane, noticeDone_panes]
  · exact noticeDone_panes ..
theorem takeNoticeEvent_panes : (takeNoticeEvent s).pane.panes = s.pane.panes := by
  unfold takeNoticeEvent
  split
  · rw [noticeTally_panes]; rfl
  · rfl
theorem takePaneEvent_panes : (takePaneEvent s).pane.panes = s.pane.panes := rfl
theorem takeFlagHandOn_panes : (takeFlagHandOn s).pane.panes = s.pane.panes := by
  unfold takeFlagHandOn; split <;> rfl
theorem takeFromTally_pane : (takeFromTally s).pane = s.pane := by
  unfold takeFromTally; split <;> rfl
theorem takeFromBoard_pane : (takeFromBoard s).pane = s.pane := by
  unfold takeFromBoard; split <;> simp
theorem takeFromNotice_pane : (takeFromNotice s).pane = s.pane := by
  unfold takeFromNotice; split <;> simp
theorem takeClockCells_pane : (takeClockCells s).pane = s.pane := by
  unfold takeClockCells; split <;> rfl
theorem takeLoadDone_pane : (takeLoadDone s).pane = s.pane := by
  unfold takeLoadDone
  split
  · split
    · split <;> simp
    · rfl
  · rfl
theorem takeDrainEnd_pane : (takeDrainEnd s).pane = s.pane := by
  unfold takeDrainEnd; split <;> rfl
theorem ownRecord_panes (r : Record) : (ownRecord r s).state.pane.panes = s.pane.panes := by
  unfold ownRecord; split <;> rfl
theorem processStep_panes : (processStep s).pane.panes = s.pane.panes := by
  unfold processStep
  split
  · rfl
  · split
    · rw [State.withIntake_pane]
      unfold applyRecord
      split
      · rfl
      · split
        · rfl
        · exact ownRecord_panes ..
    · rfl

/-! ### The commands that leave the panes alone -/

theorem cmdSetMode_pane (tag mode : Nat) : (cmdSetMode tag mode s).pane = s.pane := by
  unfold cmdSetMode; split <;> rfl
theorem cmdSetClock_panes (tag minute second : Nat) :
    (cmdSetClock tag minute second s).pane.panes = s.pane.panes := by
  unfold cmdSetClock; split <;> rfl
theorem cmdDayStart_panes (tag minute origin : Nat) :
    (cmdDayStart tag minute origin s).pane.panes = s.pane.panes := by
  unfold cmdDayStart; split <;> rfl
theorem cmdSetIntake_pane (tag : Nat) (p : IntakeParams) :
    (cmdSetIntake tag p s).pane = s.pane := by
  unfold cmdSetIntake; split_ifs <;> rfl
theorem cmdSetTally_panes (tag : Nat) (p : TallyParams) :
    (cmdSetTally tag p s).pane.panes = s.pane.panes := by
  simp only [cmdSetTally]
  rw [State.answer_pane, tallyDone_panes]
theorem cmdSetWords_pane (tag : Nat) (words : List Nat) :
    (cmdSetWords tag words s).pane = s.pane := by
  unfold cmdSetWords; split <;> rfl
theorem cmdSetView_pane (tag : Nat) (p : ViewParams) : (cmdSetView tag p s).pane = s.pane := by
  unfold cmdSetView
  split
  · rfl
  · split <;> simp
theorem cmdSetSurface_pane (tag : Nat) (p : SurfaceParams) :
    (cmdSetSurface tag p s).pane = s.pane := by
  unfold cmdSetSurface; split_ifs <;> rfl
theorem cmdSetCell_pane (tag : Nat) (p : CellParams) : (cmdSetCell tag p s).pane = s.pane := by
  unfold cmdSetCell; split <;> rfl
theorem cmdClearCell_pane (tag cell : Nat) : (cmdClearCell tag cell s).pane = s.pane := by
  unfold cmdClearCell; split <;> rfl
theorem cmdLoadGlyphs_pane (tag set source sum : Nat) :
    (cmdLoadGlyphs tag set source sum s).pane = s.pane := by
  unfold cmdLoadGlyphs; split_ifs <;> rfl
theorem cmdSetSegment_pane (tag segment : Nat) (text : List Byte) :
    (cmdSetSegment tag segment text s).pane = s.pane := by
  unfold cmdSetSegment; split_ifs <;> rfl
theorem cmdSetTrigger_panes (tag : Nat) (p : TriggerParams) :
    (cmdSetTrigger tag p s).pane.panes = s.pane.panes := by
  unfold cmdSetTrigger; split <;> simp
theorem cmdClearTrigger_panes (tag trigger : Nat) :
    (cmdClearTrigger tag trigger s).pane.panes = s.pane.panes := by
  unfold cmdClearTrigger; split <;> simp
theorem cmdClearCauses_pane (tag mask : Nat) : (cmdClearCauses tag mask s).pane = s.pane := by
  unfold cmdClearCauses; split <;> rfl
theorem cmdInspect_pane (tag kind index : Nat) : (cmdInspect tag kind index s).pane = s.pane := by
  unfold cmdInspect; split <;> rfl

/-! ### The traffic that leaves the panes alone -/

theorem countLate_pane (t : Tracked) : (s.countLate t).pane = s.pane := by
  unfold State.countLate; split <;> rfl
theorem grantStream_pane (run : Nat) : (grantStream run s).pane = s.pane := by
  unfold grantStream; split <;> rfl
theorem grantVerdict_pane (own : Nat) : (grantVerdict own s).pane = s.pane := by
  unfold grantVerdict; split <;> rfl
theorem grantGlyph_pane (own : Nat) : (grantGlyph own s).pane = s.pane := by
  unfold grantGlyph; split <;> rfl
theorem grantOwn_pane (own : Nat) : (grantOwn own s).pane = s.pane := by
  simp only [grantOwn]
  split
  · rw [grantVerdict_pane]; rfl
  · rw [grantGlyph_pane]; rfl
theorem grant_pane (own : Nat) : (grant own s).pane = s.pane := by
  unfold grant
  split_ifs
  all_goals simp only [grantOwn_pane, grantStream_pane]

/-! ### The Pane Unit's own events -/

/-- A tick of a retry timer taken (R122). -/
theorem takeRetry_paneKeeps (k : Nat) : s.pane.Keeps (takeRetry k s).pane := by
  unfold takeRetry
  split
  · exact put_keeps k fun hp => retryTick_sound (withTick_sound hp false)
  · exact .refl _
theorem settleRetries_paneKeeps (n : Nat) : s.pane.Keeps (settleRetries n s).pane := by
  induction n generalizing s with
  | zero => exact .refl _
  | succ n ih => exact (takeRetry_paneKeeps s n).trans (ih _)

/-- A second hands every pane a tick (R164). -/
theorem takeSecond_paneKeeps : s.pane.Keeps (takeSecond s).pane := by
  refine map_keeps (f := fun p => { p with tickWaiting := true }) ?_ fun _ hp =>
    withTick_sound hp true
  simp only [takeSecond]
  split <;> split <;> rfl

/-- A seconds tick settles the retry timers' ticks that wait, and hands on its own (R164). -/
theorem secondsTick_paneKeeps : s.pane.Keeps (secondsTick s).pane := by
  unfold secondsTick
  split
  · exact .refl _
  · refine PaneUnit.Keeps.trans ?_ (takeSecond_paneKeeps _)
    unfold settleTick
    rw [takeClockCells_pane]
    refine PaneUnit.Keeps.trans (keeps_of_panes ?_) (settleRetries_paneKeeps _ _)
    rw [takeNoticeTick_panes, takeBoardMinute_pane, settleDwells_pane, takeMinute_panes,
      takeExpiry_panes]

/-- A WARM_RESET restarts every pane (R111, R129). -/
theorem cmdWarmReset_paneKeeps (tag : Nat) : s.pane.Keeps (cmdWarmReset tag s).pane := by
  rw [cmdWarmReset, State.answer_pane, State.commitAll_pane, State.derive_pane]
  exact map_keeps (f := Pane.warmReset) rfl fun _ hp => pane_warmReset_sound hp

/-- SET_PANE stores settings whose slots have passed test 5 of R110. -/
theorem cmdSetPane_paneKeeps (tag : Nat) (p : PaneParams) :
    s.pane.Keeps (cmdSetPane tag p s).pane := by
  unfold cmdSetPane
  split_ifs with _ _ _ _ hslots
  any_goals exact .refl _
  split
  · exact .refl _
  · next hg => exact put_keeps _ fun _ => setPane_sound (Bool.eq_false_iff.2 hslots) hg
theorem cmdSetPlaylist_paneKeeps (tag pane first count : Nat) (entries : List EntryParams) :
    s.pane.Keeps (cmdSetPlaylist tag pane first count entries s).pane := by
  unfold cmdSetPlaylist
  split_ifs
  any_goals exact .refl _
  exact put_keeps _ fun hp => withPlaylist_sound hp _
theorem cmdPlayStart_paneKeeps (tag pane entry now : Nat) :
    s.pane.Keeps (cmdPlayStart tag pane entry now s).pane := by
  unfold cmdPlayStart
  split
  · exact .refl _
  · split
    · exact .refl _
    · exact put_keeps _ fun hp => playStart_sound hp _ _
theorem resumed_paneKeeps (pane : Nat) (r : PlayResult) :
    s.pane.Keeps (s.resumed pane r).pane := by
  have hput : s.pane.Keeps (s.pane.put pane { s.pane.pane pane with playlist := r.list }) :=
    put_keeps _ fun hp => withPlaylist_sound hp _
  simp only [State.resumed]
  split <;> exact hput
theorem cmdPlayResume_paneKeeps (tag pane : Nat) :
    s.pane.Keeps (cmdPlayResume tag pane s).pane := by
  unfold cmdPlayResume
  split
  · exact .refl _
  · split
    · exact .refl _
    · exact put_keeps _ fun hp => withPlaylist_sound hp _
    · exact resumed_paneKeeps ..
theorem cmdPlayStop_paneKeeps (tag pane : Nat) : s.pane.Keeps (cmdPlayStop tag pane s).pane := by
  unfold cmdPlayStop
  split
  · exact .refl _
  · exact put_keeps _ playStop_sound
theorem cmdPaneClear_paneKeeps (tag pane : Nat) :
    s.pane.Keeps (cmdPaneClear tag pane s).pane := by
  unfold cmdPaneClear
  split
  · exact .refl _
  · exact put_keeps _ clear_sound

/-- Every command line keeps the Pane Unit. -/
theorem runCommand_paneKeeps (c : Instr) : s.pane.Keeps (runCommand c s).pane := by
  unfold runCommand
  split
  case h_1 => exact keeps_of_pane (cmdSetMode_pane ..)
  case h_2 => exact cmdWarmReset_paneKeeps ..
  case h_3 => exact keeps_of_panes (cmdSetClock_panes ..)
  case h_4 => exact keeps_of_panes (cmdDayStart_panes ..)
  case h_5 => exact keeps_of_pane (cmdSetIntake_pane ..)
  case h_6 => exact keeps_of_panes (cmdSetTally_panes ..)
  case h_7 => exact keeps_of_pane (cmdSetWords_pane ..)
  case h_8 => exact keeps_of_pane (cmdSetView_pane ..)
  case h_9 => exact keeps_of_pane (cmdSetSurface_pane ..)
  case h_10 => exact keeps_of_pane (cmdSetCell_pane ..)
  case h_11 => exact keeps_of_pane (cmdClearCell_pane ..)
  case h_12 => exact keeps_of_pane (cmdLoadGlyphs_pane ..)
  case h_13 => exact keeps_of_pane (cmdSetSegment_pane ..)
  case h_14 => exact keeps_of_panes (cmdSetTrigger_panes ..)
  case h_15 => exact keeps_of_panes (cmdClearTrigger_panes ..)
  case h_16 => exact cmdSetPane_paneKeeps ..
  case h_17 => exact cmdSetPlaylist_paneKeeps ..
  case h_18 => exact cmdPlayStart_paneKeeps ..
  case h_19 => exact cmdPlayResume_paneKeeps ..
  case h_20 => exact cmdPlayStop_paneKeeps ..
  case h_21 => exact cmdPaneClear_paneKeeps ..
  case h_23 => exact keeps_of_pane (cmdClearCauses_pane ..)
  case h_24 => exact keeps_of_pane (cmdInspect_pane ..)
  all_goals exact .refl _

/-! ### Requests and responses at the panes -/

/-- A scan read that is redirected counts a read of its slot (R112, R119). -/
theorem scanRead_paneKeeps (k : Nat) (r : Request) : s.pane.Keeps (scanRead k r s).pane := by
  simp only [scanRead]
  split
  · exact .refl _
  · exact put_keeps _ fun hp => issueRead_sound hp _

/-- A frame start is taken by every pane of the surface (R116). -/
theorem frameStart_paneKeeps (k : Nat) : s.pane.Keeps (frameStart k s).pane := by
  rw [frameStart_eq]
  exact map_keeps rfl fun _ hp => framed_sound hp _ _
theorem takeRead_paneKeeps (r : Request) : s.pane.Keeps (takeRead r s).pane := by
  unfold takeRead
  split
  · exact .refl _
  · split
    · exact .refl _
    · next k _ =>
      split
      · exact (frameStart_paneKeeps s k).trans (scanRead_paneKeeps ..)
      · exact scanRead_paneKeeps ..

/-- The settings a marker is judged by are those of the pane whose marker line it is (R113). -/
theorem markerAt_some {u : PaneUnit} {a : Nat} {x : Nat × PaneSettings}
    (h : u.markerAt a = some x) : (u.pane x.1).settings = some x.2 ∧ x.2.marker = a :=
  ⟨(mem_configured ..).1 (List.mem_of_find?_eq_some h), by
    simpa using List.find?_some (p := fun x : Nat × PaneSettings => x.2.marker == a) h⟩

theorem takeWrite_paneKeeps (a : Nat) (full : Bool) (data : Line) :
    s.pane.Keeps (takeWrite a full data s).pane := by
  unfold takeWrite
  split
  · exact keeps_of_pane (by simp [takeIntake])
  · split
    · next x hx =>
      simp only [takeMarker, State.raiseAll_pane, State.withPane_pane]
      exact put_keeps _ fun hp => marker_sound hp (markerAt_some hx).1 _ _ _
    · exact .refl _

theorem recognise_paneKeeps (r : Request) : s.pane.Keeps (recognise r s).pane := by
  unfold recognise
  split_ifs
  · unfold takeAnchor
    split
    · split
      · change s.pane.Keeps (takeCommand _ _ s).pane
        unfold takeCommand
        split_ifs
        · exact .refl _
        · exact .refl _
        · split
          · exact .refl _
          · exact runCommand_paneKeeps ..
      · exact .refl _
    · split <;> exact .refl _
  · exact .refl _
  · split
    · exact takeRead_paneKeeps ..
    · exact takeWrite_paneKeeps ..

/-- The return of a redirected read counts it off (R112, R119). -/
theorem returnRead_paneKeeps (t : Tracked) : s.pane.Keeps (s.returnRead t).pane := by
  unfold State.returnRead
  split
  · exact put_keeps _ fun hp => returnRead_sound hp _
  all_goals exact .refl _
theorem returnData_paneKeeps (e : InFlight) (data : Line) :
    s.pane.Keeps (returnData e data s).pane :=
  (keeps_of_pane (countLate_pane s e.tracked)).trans
    (returnRead_paneKeeps (s.countLate e.tracked) e.tracked)
theorem returnError_paneKeeps (e : InFlight) : s.pane.Keeps (returnError e s).pane :=
  returnRead_paneKeeps s e.tracked

end

section
variable {s t : State}

theorem takeResponse_paneKeeps {r : Response} (h : takeResponse r s = .next t) :
    s.pane.Keeps t.pane := by
  unfold takeResponse at h
  split_ifs at h
  · unfold verdictResponse at h
    split at h
    · split at h <;> cases h
      exact .refl _
    · cases h; exact keeps_of_pane (by simp)
    · cases h; exact keeps_of_pane (by simp)
  · unfold loaderResponse at h
    split at h <;> cases h
    exact .refl _
  · unfold playerResponse at h
    split at h
    · cases h; exact .refl _
    · split at h <;> cases h
      · exact returnData_paneKeeps ..
      · exact returnError_paneKeeps ..

theorem takeOldest_paneKeeps (h : takeOldest s = .next t) : s.pane.Keeps t.pane := by
  unfold takeOldest at h
  split at h
  · cases h; exact .refl _
  · split at h
    · cases h; exact .refl _
    · next r rest _ =>
      unfold takeRequest at h
      split_ifs at h <;> cases h
      · exact .refl _
      · exact recognise_paneKeeps (s.withPath { s.path with waiting := rest }) r

/-! ### Every command keeps the Pane Unit sound -/

theorem exec_paneKeeps {c : Instr} (h : exec c s = .next t) : s.pane.Keeps t.pane := by
  have keeps : ∀ {f : State → State}, whenRunning f s = .next t → s.pane.Keeps (f s).pane →
      s.pane.Keeps t.pane := fun h hf =>
    whenRunning_keeps (P := fun u => s.pane.Keeps u.pane) h (.refl _) hf
  have same : ∀ {f : State → State}, whenRunning f s = .next t → (f s).pane = s.pane →
      s.pane.Keeps t.pane := fun h hf => keeps h (keeps_of_pane hf)
  have panes : ∀ {f : State → State}, whenRunning f s = .next t →
      (f s).pane.panes = s.pane.panes → s.pane.Keeps t.pane := fun h hf =>
    keeps h (keeps_of_panes hf)
  have may : ∀ {f : State → Host.Outcome State Fault Refusal}, unlessReset f s = .next t →
      (f s = .next t → s.pane.Keeps t.pane) → s.pane.Keeps t.pane := fun h hf =>
    unlessReset_keeps (P := fun u => s.pane.Keeps u.pane) h (.refl _) hf
  have line : ∀ {c : Instr}, whenRunning (runCommand c) s = .next t → s.pane.Keeps t.pane :=
    fun h => keeps h (runCommand_paneKeeps s _)
  cases c with
  | resetRelease straps => cases h; exact ⟨fun _ => pane_powerOn_sound⟩
  | resetAssert => cases h; exact .refl _
  | millisecondTick => exact same h rfl
  | secondsTick => exact keeps h (secondsTick_paneKeeps s)
  | changeOfMinute => exact panes h (takeMinute_panes s)
  | boardMinuteRecompute => exact same h (takeBoardMinute_pane s)
  | clockCellUpdate => exact same h (takeClockCells_pane s)
  | holdExpiry => exact panes h (takeExpiry_panes s)
  | dwellExpiry view => exact same h (takeDwell_pane s view)
  | timedNoticeExpiry => exact panes h (takeNoticeTick_panes s)
  | cyclePhaseExpiry => exact panes h (takeNoticeTick_panes s)
  | retryTimerExpiry pane => exact keeps h (takeRetry_paneKeeps s pane)
  | idleTimerExpiry surface =>
    exact same (f := fun u => u.withPatch (u.patch.idleExpiry surface)) h rfl
  | boardTallyEvent => exact same h (takeBoardEvent_pane s)
  | noticeTallyEvent => exact panes h (takeNoticeEvent_panes s)
  | paneTallyEvent => exact panes h (takePaneEvent_panes s)
  | patchSourceChange source =>
    cases source with
    | tally => exact same h (takeFromTally_pane s)
    | board => exact same h (takeFromBoard_pane s)
    | notice => exact same h (takeFromNotice_pane s)
  | paneFullscreenFlag => exact panes h (takeFlagHandOn_panes s)
  | upstreamRequest offer =>
    exact may (f := fun u => takeOldest (offerRequest offer u)) h
      (takeOldest_paneKeeps (s := offerRequest offer s))
  | downstreamResponse response => exact may (f := takeResponse response) h takeResponse_paneKeeps
  | loadDone => exact same h (takeLoadDone_pane s)
  | loaderDrainEnd => exact same h (takeDrainEnd_pane s)
  | slotFree response =>
    refine may (f := fun u => if u.freesSlot response then takeResponse response u else .next u) h
      fun h => ?_
    split at h
    · exact takeResponse_paneKeeps h
    · cases h; exact .refl _
  | downstreamGrant own => exact same h (grant_pane s own)
  | processingStep => exact panes h (processStep_panes s)
  | anchorLineWrite line initiator txn enables data =>
    unfold exec execAnchorLineWrite at h
    refine may h fun h => ?_
    split at h
    · exact takeOldest_paneKeeps (s := offerRequest _ s) h
    · cases h; exact .refl _
  | setMode tag mode => exact line (c := .setMode tag mode) h
  | warmReset tag => exact line (c := .warmReset tag) h
  | setClock tag minute second => exact line (c := .setClock tag minute second) h
  | dayStart tag minute origin => exact line (c := .dayStart tag minute origin) h
  | setIntake tag params => exact line (c := .setIntake tag params) h
  | setTally tag params => exact line (c := .setTally tag params) h
  | setWords tag words => exact line (c := .setWords tag words) h
  | setView tag params => exact line (c := .setView tag params) h
  | setSurface tag params => exact line (c := .setSurface tag params) h
  | setCell tag params => exact line (c := .setCell tag params) h
  | clearCell tag cell => exact line (c := .clearCell tag cell) h
  | loadGlyphs tag set source sum => exact line (c := .loadGlyphs tag set source sum) h
  | setSegment tag segment text => exact line (c := .setSegment tag segment text) h
  | setTrigger tag params => exact line (c := .setTrigger tag params) h
  | clearTrigger tag trigger => exact line (c := .clearTrigger tag trigger) h
  | setPane tag params => exact line (c := .setPane tag params) h
  | setPlaylist tag pane first count entries =>
    exact line (c := .setPlaylist tag pane first count entries) h
  | playStart tag pane entry now => exact line (c := .playStart tag pane entry now) h
  | playResume tag pane => exact line (c := .playResume tag pane) h
  | playStop tag pane => exact line (c := .playStop tag pane) h
  | paneClear tag pane => exact line (c := .paneClear tag pane) h
  | setMask tag mask => exact line (c := .setMask tag mask) h
  | clearCauses tag mask => exact line (c := .clearCauses tag mask) h
  | inspect tag kind index => exact line (c := .inspect tag kind index) h

end

/-- Settles O54: an idle step changes nothing, and every command keeps the Pane Unit, pane by
pane. -/
theorem panesStaySound : Obligations.PanesStaySound := by
  intro s t hi h
  unfold step at h
  split at h
  · cases h; exact hi
  · next c rest _ => exact (exec_paneKeeps (s := s.withPending rest) h).panes hi

end Sys2Proof.Machine

namespace Sys2Proof.Machine

/-! ### A pane read by number -/

/-- A pane of the table is the one of its number. -/
theorem pane_of_getElem? {u : PaneUnit} {k : Nat} {p : Pane} (h : u.panes[k]? = some p) :
    u.pane k = p := by
  rw [PaneUnit.pane, List.getD_eq_getElem?_getD, h]; rfl

/-! ### The retry timer and the idle timer -/

section
variable {p : Pane}

theorem retryTick_stopped (h : p.retryTimer = none) : p.retryTick = p := by
  simp only [Pane.retryTick, h]

theorem retryTick_running {n : Nat} (h : p.retryTimer = some n) (hn : 1 < n) :
    p.retryTick = { p with retryTimer := some (n - 1) } := by
  simp only [Pane.retryTick, h, Nat.not_le.2 hn, if_false]

/-- The timer's expiry shows a pane that waits in fallback, one more retry used (R122). -/
theorem retryTick_expires (h : p.retryTimer = some 1) (hwait : p.display = .fallbackWait) :
    p.retryTick = { p with
      display := .showing, retryTimer := none, underrunRun := 0
      retriesUsed := min (p.retriesUsed + 1) 10 } := by
  simp only [Pane.retryTick, h, hwait, le_refl, if_true, Nat.min_comm]

/-- The retry timer does not look at the tick that waits. -/
theorem retryTick_withTick (p : Pane) (b : Bool) :
    { p with tickWaiting := b }.retryTick = { p.retryTick with tickWaiting := b } := by
  unfold Pane.retryTick
  dsimp only
  split
  · rfl
  · split
    · split <;> rfl
    · rfl

end

/-- The expiry of the idle timer of an ACTIVE surface makes it IDLE and commits what waits into the
picture of g (R79, R89). -/
theorem idleExpiry_active {p : PatchUnit} {k : Nat} {f : Surface} (hf : p.surfaces[k]? = some f)
    (hactive : f.state = .active) (htimer : f.idleTimer = some 0) :
    p.idleExpiry k = { p with
      surfaces := p.surfaces.set k
        { f with state := .idle, idleTimer := none, current := p.newPicture k f } } := by
  obtain ⟨hk, -⟩ := List.getElem?_eq_some_iff.1 hf
  have hsurface : p.surface k = f := by
    rw [PatchUnit.surface, List.getD_eq_getElem?_getD, hf]; rfl
  have hidle : (p.putSurface k { f with state := .idle, idleTimer := none }).surface k =
      { f with state := .idle, idleTimer := none } :=
    (putSurface_surface ..).trans (if_pos ⟨rfl, hk⟩)
  rw [PatchUnit.idleExpiry, hsurface, if_pos ⟨hactive, htimer⟩, PatchUnit.commitIdle, hidle,
    if_pos rfl]
  simp only [PatchUnit.putSurface, List.set_set]
  rfl

/-- Settles O13: the retry timer by its three cases, the idle timer by its expiry. -/
theorem retryAndIdleTimersExpire : Obligations.RetryAndIdleTimersExpire := by
  intro s hr
  refine ⟨fun k p hp hwaits => ⟨_, p.retryTick, ?_, rfl, retryTick_stopped,
    fun _ => retryTick_running, retryTick_expires⟩,
    fun k f hf hactive htimer => ⟨_, s.patch.newPicture k f, ?_, rfl, newPicture_commits ..⟩⟩
  · change whenRunning (takeRetry k) s = _
    rw [whenRunning_runs hr, takeRetry, pane_of_getElem? hp, if_pos hwaits, retryTick_withTick]
    rfl
  · change whenRunning (fun u => u.withPatch (u.patch.idleExpiry k)) s = _
    rw [whenRunning_runs hr, idleExpiry_active hf hactive htimer]
    rfl

/-! ### A marker written -/

/-- The tests of R113 on a written line are those a taken marker passes. -/
theorem accepts_iff (p : Pane) (g : PaneSettings) (enables : BitVec 64) (data : Line) :
    p.accepts g enables data ↔ p.judge g (enables == allEnables) data = .taken := by
  rw [judge_taken_iff, isFree_iff, beq_iff_eq]
  unfold Pane.accepts
  simp only [and_assoc]
  exact Iff.rfl

section
variable {s : State} {r : Request} {enables : BitVec 64} {data : Line} {k : Nat} {p : Pane}
  {g : PaneSettings}

/-- The one pane whose marker line an address is gets the marker (R113, R157). -/
theorem markerAt_only {u : PaneUnit} {a : Nat} (hset : (u.pane k).settings = some g)
    (hmarker : g.marker = a)
    (honly : ∀ j h, (u.pane j).settings = some h → h.marker = a → j = k) :
    u.markerAt a = some (k, g) := by
  rcases hx : u.markerAt a with _ | ⟨j, h⟩
  · have hno := List.find?_eq_none.1 hx (k, g) ((mem_configured ..).2 hset)
    exact absurd hmarker (by simpa using hno)
  · obtain ⟨hj, hh⟩ := markerAt_some hx
    obtain rfl := honly j h hj hh
    rw [Option.some.inj (hset.symm.trans hj)]

/-- Setting no cause changes no cause. -/
theorem or_causeBits_nil (b : BitVec 12) : b ||| causeBits [] = b := BitVec.or_zero

/-- A write of a pane's marker line in ENABLED mode is judged by the pane and forwarded (R113,
R157). -/
theorem upstreamRequest_marker (hw : s.writesOutside r enables data)
    (hcovers : s.intake.covers r.addr = false) (hp : s.pane.panes[k]? = some p)
    (hat : s.pane.markerAt r.addr = some (k, g)) :
    exec (.upstreamRequest (some r)) s = .next { s with
      path := { s.path with stream := s.path.stream ++ [r] }
      pane := { s.pane with
        panes := s.pane.panes.set k (p.marker s.tally g (enables == allEnables) data).pane }
      command := { s.command with
        causes := s.command.causes |||
          causeBits (p.marker s.tally g (enables == allEnables) data).causes } } := by
  obtain ⟨hat_once, hmode, hanchor, haccess⟩ := hw
  rw [upstreamRequest_atOnce hat_once, recognise, hanchor, hmode, haccess]
  simp only [Bool.false_eq_true, if_false, reduceCtorEq]
  rw [takeWrite, hcovers, hat]
  simp only [Bool.false_eq_true, if_false, takeMarker]
  rw [pane_of_getElem? hp, raiseAll_eq, foldl_bit_or]
  rfl

end

section
variable {p : Pane} {g : PaneSettings} {enables : BitVec 64} {data : Line}

/-! The tests of R113, each with the verdict of its failure. -/

theorem judge_partial (h : enables ≠ BitVec.allOnes 64) :
    p.judge g (enables == allEnables) data = .badFrame :=
  if_pos (beq_eq_false_iff_ne.2 h)

theorem judge_full : p.judge g (BitVec.allOnes 64 == allEnables) data = p.judge g true data := by
  rw [allEnables, beq_self_eq_true]

theorem judge_badCheck (h : onesSum data 32 ≠ 65535) : p.judge g true data = .badCheck := by
  simp only [Pane.judge, reduceCtorEq, if_false, if_pos h]

theorem judge_stale (hsum : onesSum data 32 = 65535)
    (h : p.playlist.state ≠ .active ∨ byteAt data 1 ≠ p.playlist.generation) :
    p.judge g true data = .stale := by
  have hsum : ¬ onesSum data 32 ≠ 65535 := not_not.2 hsum
  simp only [Pane.judge, reduceCtorEq, if_false, if_neg hsum]
  exact if_pos h

theorem judge_current (hsum : onesSum data 32 = 65535) (hactive : p.playlist.state = .active)
    (hgen : byteAt data 1 = p.playlist.generation) :
    p.judge g true data = .slotConflict ∨ p.judge g true data = .taken := by
  have hsum : ¬ onesSum data 32 ≠ 65535 := not_not.2 hsum
  have hcurrent : ¬ (p.playlist.state ≠ .active ∨
      (decodeMarker data).generation ≠ p.playlist.generation) :=
    not_or.2 ⟨not_not.2 hactive, not_not.2 hgen⟩
  simp only [Pane.judge, reduceCtorEq, if_false, if_neg hsum, if_neg hcurrent]
  split
  · exact .inl rfl
  · exact .inr rfl

/-- The verdict of a marker that is not taken is that of the first test of R113 that fails. -/
theorem judge_refused (h : ¬ p.accepts g enables data) :
    (enables ≠ BitVec.allOnes 64 → p.judge g (enables == allEnables) data = .badFrame) ∧
      (enables = BitVec.allOnes 64 → onesSum data 32 ≠ 65535 →
        p.judge g (enables == allEnables) data = .badCheck) ∧
      (enables = BitVec.allOnes 64 → onesSum data 32 = 65535 →
        (p.playlist.state ≠ .active ∨ byteAt data 1 ≠ p.playlist.generation) →
        p.judge g (enables == allEnables) data = .stale) ∧
      (enables = BitVec.allOnes 64 → onesSum data 32 = 65535 → p.playlist.state = .active →
        byteAt data 1 = p.playlist.generation →
        p.judge g (enables == allEnables) data = .slotConflict) := by
  rw [accepts_iff] at h
  refine ⟨judge_partial, ?_, ?_, ?_⟩
  all_goals rintro rfl
  all_goals rw [judge_full] at *
  · exact judge_badCheck
  · exact judge_stale
  · exact fun hsum hactive hgen => (judge_current hsum hactive hgen).resolve_right h

/-- A refused marker changes the verdict and the refused counter alone (R113). -/
theorem marker_refused (t : TallyUnit) (h : ¬ p.accepts g enables data) :
    p.marker t g (enables == allEnables) data = {
      pane := { p with
        verdict := p.judge g (enables == allEnables) data
        counters := { p.counters with refused := satInc p.counters.refused } },
      causes := [] } := by
  rw [Pane.marker, if_neg (mt (accepts_iff ..).2 h)]

theorem marker_taken (t : TallyUnit) (h : p.accepts g enables data) :
    p.marker t g (enables == allEnables) data = p.takeMarker t g (decodeMarker data) := by
  rw [Pane.marker, if_pos ((accepts_iff ..).1 h)]

end

/-- Settles O29: the write judged by the one pane, refused by the first test that fails, or
taken. -/
theorem markersAreTaken : Obligations.MarkersAreTaken := by
  intro s r enables data k p g hw hcovers hp hg hmarker honly
  have hset : (s.pane.pane k).settings = some g := by rw [pane_of_getElem? hp, hg]
  have hexec := upstreamRequest_marker hw hcovers hp (markerAt_only hset hmarker honly)
  refine ⟨_, _, hexec, rfl, fun hno => ?_, fun hyes => ⟨p.joined g (decodeMarker data), rfl,
    fun hmore => ?_, fun hlast => ?_⟩⟩
  · rw [marker_refused s.tally hno]
    exact ⟨congrArg (fun c => { s.command with causes := c }) (or_causeBits_nil _), _, rfl,
      judge_refused hno⟩
  · rw [marker_taken s.tally hyes, takeMarker_more s.tally (by simp [decodeMarker, hmore])]
    exact ⟨rfl, congrArg (fun c => { s.command with causes := c }) (or_causeBits_nil _)⟩
  · rw [marker_taken s.tally hyes, takeMarker_last s.tally (by simp [decodeMarker, hlast])]
    refine ⟨rfl, ?_⟩
    dsimp only
    split
    · rfl
    · exact or_causeBits_nil _

end Sys2Proof.Machine

namespace Sys2Proof.Machine

/-! ### The tests of SET_PANE -/

section
variable {s : State} {p : PaneParams}

/-- Test 4 of R110 passes a rectangle of whole tiles that lies inside its surface and shares no
pixel with that of another pane on it. -/
theorem not_badRectangle (hpx : p.px % 16 = 0) (hpw : p.pw % 16 = 0) (hwide : 16 ≤ p.pw)
    (hhigh : 1 ≤ p.ph) (hx : p.px + p.pw ≤ (s.patch.surface p.surface).width)
    (hy : p.py + p.ph ≤ (s.patch.surface p.surface).height)
    (hapart : ∀ j g, j ≠ p.pane → (s.pane.pane j).settings = some g → g.surface = p.surface →
      p.px + p.pw ≤ g.px ∨ g.px + g.pw ≤ p.px ∨ p.py + p.ph ≤ g.py ∨ g.py + g.ph ≤ p.py) :
    s.badRectangle p = false := by
  have hoverlaps : (s.pane.configuredBut p.pane).any (overlapsPane p) = false := by
    refine List.any_eq_false.2 fun g hg hover => ?_
    obtain ⟨j, hj, hset⟩ := (PaneUnit.mem_configuredBut ..).1 hg
    simp only [overlapsPane, Bool.and_eq_true, beq_iff_eq, decide_eq_true_eq] at hover
    have hno := hapart j g hj hset hover.1.1.1.1
    omega
  simp only [State.badRectangle, hoverlaps, Bool.or_eq_false_iff, bne_eq_false_iff_eq,
    beq_eq_false_iff_ne, decide_eq_false_iff_not, and_true]
  omega

/-- Test 5 of R110 passes 2 to 8 slots of whole lines, each with room for the rectangle. -/
theorem not_badSlots (hbase : p.slotBase % 64 = 0) (hsize : p.slotSize % 64 = 0)
    (hroom : p.pw * p.ph * 4 ≤ p.slotSize) (hlo : 2 ≤ p.slotCount) (hhi : p.slotCount ≤ 8) :
    badSlots p = false := by
  simp only [badSlots, Bool.or_eq_false_iff, bne_eq_false_iff_eq, decide_eq_false_iff_not]
  omega

theorem meetsAny_false {r : Span} {l : List Span} (h : apart r l) : meetsAny r l = false :=
  Bool.eq_false_iff.2 fun hm => (meetsAny_iff ..).1 hm h

/-- Test 6 of R110 passes slots inside the address space and apart from every other place. -/
theorem not_badSlotRegion (hspace : p.slotBase + p.slotCount * p.slotSize ≤ 1099511627776)
    (hapart : apart (slotSpanOf p) (s.fixedSpans ++ paneSpans (s.pane.configuredBut p.pane))) :
    s.badSlotRegion p = false := by
  rw [State.badSlotRegion, (Span.inSpace_iff _).2 hspace, meetsAny_false hapart]
  rfl

/-- Test 7 of R110 passes a line apart from every other place and from the slots asked for. -/
theorem not_badLine {a : Nat} (h : a % 64 = 0 ∧ apart { base := a, size := 64 }
    (slotSpanOf p :: s.fixedSpans ++ paneSpans (s.pane.configuredBut p.pane))) :
    s.badLine p a = false := by
  obtain ⟨hline, hapart⟩ := h
  have hmeets : meetsAny (lineSpan a)
      (slotSpanOf p :: s.fixedSpans ++ paneSpans (s.pane.configuredBut p.pane)) = false :=
    meetsAny_false hapart
  rw [State.badLine, hline, hmeets]
  rfl

/-- The settings a SET_PANE asks for, its marks and rates clamped (R109, R111). -/
theorem paneSettingsOf_good {starvation : Starvation}
    (hstarvation : starvationOf p.starvation = some starvation)
    (htime : p.retryTime ∈ [1, 2, 5, 10, 30, 60]) (hlimit : p.retryLimit ∈ [0, 1, 2, 3, 5, 10]) :
    paneSettingsOf p = some {
      surface := p.surface, px := p.px, py := p.py, pw := p.pw, ph := p.ph,
      slotBase := p.slotBase, slotSize := p.slotSize, slotCount := p.slotCount,
      marker := p.marker, cue := p.cue, scanRate := max 24 (min p.scanRate 120),
      clipRate := max 1 (min p.clipRate 120)
      upper := max 1 (min p.upper (p.slotCount - 1))
      lower := min p.lower (max 1 (min p.upper (p.slotCount - 1)) - 1), starvation := starvation,
      deglitch := max 1 (min p.deglitch 32), retryTime := p.retryTime,
      retryLimit := if p.retryLimit = 0 then none else some p.retryLimit } := by
  have hgood : isRetryTime p.retryTime = true ∧ isRetryLimit p.retryLimit = true :=
    ⟨List.contains_iff_mem.2 htime, List.contains_iff_mem.2 hlimit⟩
  rw [paneSettingsOf, hstarvation]
  dsimp only
  rw [if_pos hgood, clamp_zero]
  rfl

/-- SET_PANE stores what passes its tests and restarts the pane (R110, R111). -/
theorem cmdSetPane_passed (tag : Nat) {g : PaneSettings} (hpane : p.pane < 8)
    (hmode : s.path.mode = .pass) (hsurface : p.surface < 12)
    (hset : (s.patch.surface p.surface).state ≠ .unset) (hrect : s.badRectangle p = false)
    (hslots : badSlots p = false) (hregion : s.badSlotRegion p = false)
    (hmarker : s.badLine p p.marker = false) (hcue : s.badLine p p.cue = false)
    (hne : p.marker ≠ p.cue) (hg : paneSettingsOf p = some g) :
    cmdSetPane tag p s = (s.withPane (s.pane.put p.pane
      { (s.pane.pane p.pane).restart with settings := some g })).answer 16 tag [] := by
  simp only [cmdSetPane, Nat.not_le.2 hpane, hmode, Nat.not_le.2 hsurface, hset, hrect, hslots,
    hregion, hmarker, hcue, hne, hg, Config.panes, Config.surfaces, reduceCtorEq, or_self, if_false,
    Bool.false_eq_true]

end

/-- The starvation modes stand in the order of R109 (log entry 27). -/
theorem starvationOf_eq (n : Nat) :
    starvationOf n = [Starvation.hold, .poster, .retry][n]? := by
  rcases n with _ | _ | _ | n <;> rfl

/-- Settles O43: the tests passed one by one, and the settings they store. -/
theorem setPaneConfigures : Obligations.SetPaneConfigures := by
  refine ⟨starvationOf_eq, ?_⟩
  rintro s tag p w starvation upper hr hmode hpane hw hsurface hset hpx hpw hwide hhigh hx hy
    hpanes hbase hsize hroom hlo hhi hspace hregion hlines hne hstarvation htime hlimit rfl
  have hpassed := cmdSetPane_passed tag hpane hmode hsurface hset
    (not_badRectangle hpx hpw hwide hhigh hx hy hpanes) (not_badSlots hbase hsize hroom hlo hhi)
    (not_badSlotRegion hspace hregion) (not_badLine (hlines _ (.inl rfl)))
    (not_badLine (hlines _ (.inr rfl))) hne (paneSettingsOf_good hstarvation htime hlimit)
  change whenRunning (cmdSetPane tag p) s = _
  rw [whenRunning_runs hr, hpassed, answer_eq, pane_of_getElem? hw]
  rfl

/-! ### PLAY_START, PLAY_STOP, PANE_CLEAR -/

section
variable {s : State} {pane : Nat} {p : Pane} {g : PaneSettings}

/-- A configured pane of the eight passes the pane tests of the playlist commands (R123). -/
theorem test_passed (hpane : pane < 8) (hp : s.pane.panes[pane]? = some p)
    (hg : p.settings = some g) : s.pane.test pane = none := by
  rw [PaneUnit.test, if_neg (Nat.not_le.2 hpane), pane_of_getElem? hp, hg]
  rfl

theorem inFallback_iff (p : Pane) : p.inFallback = true ↔
    p.display = .fallbackWait ∨ p.display = .fallbackLatched := by
  rw [Pane.inFallback, Bool.or_eq_true, beq_iff_eq, beq_iff_eq]

/-- PLAY_START leaves a fallback: the pane shows again if it still holds a frame, and is DARK if not
(R135). -/
theorem leaveFallback_eq (p : Pane) : p.leaveFallback = { p with
    display := p.leaveFallback.display
    retryTimer := if p.display = .fallbackWait ∨ p.display = .fallbackLatched then none
      else p.retryTimer
    retriesUsed := 0, underrunRun := 0 } := by
  simp only [Pane.leaveFallback, inFallback_iff]

theorem leaveFallback_lit (h : p.display = .dark ∨ p.display = .showing) :
    p.leaveFallback.display = p.display := by
  rcases h with h | h <;> simp [Pane.leaveFallback, inFallback_iff, h]

theorem leaveFallback_left (h : p.display = .fallbackWait ∨ p.display = .fallbackLatched) :
    (p.displayed = none → p.leaveFallback.display = .dark) ∧
      (p.displayed ≠ none → p.leaveFallback.display = .showing) := by
  have hdisplay : p.leaveFallback.display = if p.displayed.isSome then .showing else .dark :=
    if_pos ((inFallback_iff p).2 h)
  rw [hdisplay]
  exact ⟨fun hnone => by simp [hnone], fun hsome => if_pos (Option.isSome_iff_ne_none.2 hsome)⟩

/-- PLAY_START at the pane: the queue is flushed with NOW, and a fallback left (R134, R135). -/
theorem playStart_eq (p : Pane) (e now : Nat) : p.playStart e (now == 1) = { p with
    display := p.leaveFallback.display
    retryTimer := if p.display = .fallbackWait ∨ p.display = .fallbackLatched then none
      else p.retryTimer
    retriesUsed := 0, underrunRun := 0
    queue := if now = 1 then [] else p.queue
    flow := if now = 1 then .go else p.flow
    playlist := p.playlist.start e (now == 1) } := by
  by_cases hnow : now = 1
  · subst hnow
    rw [Pane.playStart, beq_self_eq_true, if_pos rfl, leaveFallback_eq]
    rfl
  · rw [Pane.playStart, beq_false_of_ne hnow, if_neg (by simp), leaveFallback_eq, if_neg hnow,
      if_neg hnow]

end

/-- Settles O45: the pane tests passed, and the pane each command leaves. -/
theorem playCommandsActOnThePane : Obligations.PlayCommandsActOnThePane := by
  intro s tag pane p g hr hpane hp hg
  have htest := test_passed hpane hp hg
  have hnumber := pane_of_getElem? hp
  refine ⟨fun entry now hentry hvalid hflag => ?_, ?_, ?_⟩
  · refine ⟨p.leaveFallback.display, p.playlist.start entry (now == 1), ?_, leaveFallback_lit,
      leaveFallback_left, fun hactive hnow => ?_, fun h => if_neg fun ⟨hactive, hnow⟩ => ?_⟩
    · have hgood : ¬ (Config.entries ≤ entry ∨ (p.playlist.entry entry).valid = false ∨
          isFlag now = false) := by
        simp [Config.entries, hentry, hvalid, isFlag, hflag]
      change whenRunning (cmdPlayStart tag pane entry now) s = _
      rw [whenRunning_runs hr, cmdPlayStart, htest, hnumber]
      dsimp only
      rw [if_neg hgood, playStart_eq]
      rfl
    · exact if_pos ⟨hactive, by rw [hnow]; rfl⟩
    · rcases h with h | h
      · exact h hactive
      · rw [h] at hnow; cases hnow
  · change whenRunning (cmdPlayStop tag pane) s = _
    rw [whenRunning_runs hr, cmdPlayStop, htest, hnumber]
    rfl
  · change whenRunning (cmdPaneClear tag pane) s = _
    rw [whenRunning_runs hr, cmdPaneClear, htest, hnumber]
    simp only [Pane.clear, inFallback_iff]
    rfl

end Sys2Proof.Machine

namespace Sys2Proof.Machine

/-! ### Candidate evaluation -/

section
variable {t : TallyUnit} {l : Playlist}

theorem skipped_iff (x : PlayEntry) (t : TallyUnit) : x.skipped t = true ↔ x.passedOver t := by
  rw [PlayEntry.skipped, PlayEntry.passedOver]
  cases x.showNo with
  | none => simp
  | some n => simp [or_assoc]

/-- Candidate evaluation ends at candidate `c` with result `r`: past the list or at an entry that is
not valid the playlist stops, an entry that is not skipped is chosen (R133). -/
def Playlist.endsAt (l : Playlist) (t : TallyUnit) (c : Nat) (r : PlayResult) : Prop :=
  ((16 ≤ c ∨ (l.entry c).valid = false) ∧ r = l.stopSelf) ∨
    (c < 16 ∧ (l.entry c).valid = true ∧ ¬ (l.entry c).passedOver t) ∧
      r = { list := l.choose c, stopped := false }

/-- Candidate evaluation ends after fewer skips than it has left, or spends them all and suspends
(R133). -/
theorem evaluate_cases (t : TallyUnit) (l : Playlist) (left a : Nat) :
    (∃ n c, n < left ∧ l.reachesBy t n a c ∧ l.endsAt t c (l.evaluate t left a)) ∨
      ∃ c, l.reachesBy t left a c ∧ l.evaluate t left a = l.suspend c := by
  induction left generalizing a with
  | zero => exact .inr ⟨a, rfl, rfl⟩
  | succ left ih =>
    rw [Playlist.evaluate]
    by_cases hend : Config.entries ≤ a ∨ (l.entry a).valid = false
    · rw [if_pos hend]
      exact .inl ⟨0, a, left.succ_pos, rfl, .inl ⟨hend, rfl⟩⟩
    · obtain ⟨hlt, hvalid⟩ : a < Config.entries ∧ (l.entry a).valid = true := by simpa using hend
      rw [if_neg hend]
      by_cases hskip : (l.entry a).skipped t = true
      · have hpassed := (skipped_iff _ _).1 hskip
        rw [if_pos hskip]
        rcases ih (l.following a) with ⟨n, c, hn, hreach, hat⟩ | ⟨c, hreach, hsuspend⟩
        · exact .inl ⟨n + 1, c, Nat.succ_lt_succ hn, ⟨hlt, hvalid, hpassed, hreach⟩, hat⟩
        · exact .inr ⟨c, ⟨hlt, hvalid, hpassed, hreach⟩, hsuspend⟩
      · rw [if_neg hskip]
        exact .inl ⟨0, a, left.succ_pos, rfl,
          .inr ⟨⟨hlt, hvalid, fun h => hskip ((skipped_iff _ _).2 h)⟩, rfl⟩⟩

/-- Candidate evaluation with its sixteen skips (R133). -/
theorem evaluateFrom_cases (t : TallyUnit) (l : Playlist) (a : Nat) :
    (∃ c, l.reaches t a c ∧ l.endsAt t c (l.evaluateFrom t a)) ∨
      ∃ c, l.reachesBy t 16 a c ∧ l.evaluateFrom t a = l.suspend c := by
  rcases evaluate_cases t l 16 a with ⟨n, c, hn, hreach, hend⟩ | hsuspend
  · exact .inl ⟨c, ⟨n, hn, hreach⟩, hend⟩
  · exact .inr hsuspend

/-- The remembered successor has no part in which candidates are reached. -/
@[simp] theorem reachesBy_successor (b : Option Nat) (n a c : Nat) :
    { l with successor := b }.reachesBy t n a c ↔ l.reachesBy t n a c := by
  induction n generalizing a with
  | zero => rfl
  | succ n ih => rw [Playlist.reachesBy, Playlist.reachesBy, ih]; rfl

@[simp] theorem reaches_successor (b : Option Nat) (a c : Nat) :
    { l with successor := b }.reaches t a c ↔ l.reaches t a c := by
  simp only [Playlist.reaches, reachesBy_successor]

end

/-! ### The cue advance -/

section
variable {l : Playlist} {e : Nat} (t : TallyUnit)

/-- Short of the last pass a LAST marker moves the cue to the next pass (R131). -/
theorem advanceCue_nextPass (he : l.cueEntry = some e) (hpass : l.pass < (l.entry e).repeats) :
    l.advanceCue t = {
      list := { l with
        pass := l.pass + 1, generation := (l.generation + 1) % 256, resumeRequest := false },
      stopped := false } := by
  rw [Playlist.advanceCue, he]
  exact if_pos hpass

/-- At the last pass a LAST marker completes the cue entry (R131). -/
theorem advanceCue_lastPass (he : l.cueEntry = some e) (hpass : (l.entry e).repeats ≤ l.pass) :
    l.advanceCue t = l.complete t e := by
  rw [Playlist.advanceCue, he]
  exact if_neg (Nat.not_lt.2 hpass)

/-- A start request decides what follows by its entry's validity alone (R132). -/
theorem complete_requested {n : Nat} (hn : l.startRequest = some n) :
    l.complete t e =
      (if (l.entry n).valid then
        { list := { l with startRequest := none }.choose n, stopped := false }
      else { l with startRequest := none }.stopSelf : PlayResult).spendResume := by
  rw [Playlist.complete, hn]

theorem complete_ended (hnone : l.startRequest = none) (hend : (l.entry e).endOfList = true) :
    l.complete t e = l.stopSelf.spendResume := by
  rw [Playlist.complete, hnone]
  dsimp only
  rw [if_pos hend]

theorem complete_suspended (hnone : l.startRequest = none) (hend : (l.entry e).endOfList = false)
    (hsuspends : (l.entry e).suspends = true) (hresume : l.resumeRequest = false) :
    l.complete t e = (l.suspend (l.following e)).spendResume := by
  rw [Playlist.complete, hnone]
  dsimp only
  rw [if_neg (Bool.eq_false_iff.1 hend), if_pos ⟨hsuspends, hresume⟩]

/-- An entry that neither ends the list nor suspends it, or whose suspension a resume request has
lifted, is followed in order (R132). -/
theorem complete_ordered (hnone : l.startRequest = none) (hend : (l.entry e).endOfList = false)
    (hgoes : (l.entry e).suspends = false ∨ l.resumeRequest = true) :
    l.complete t e = (l.evaluateFrom t (l.following e)).spendResume := by
  have hno : ¬ ((l.entry e).suspends = true ∧ l.resumeRequest = false) := by
    rcases hgoes with h | h <;> simp [h]
  rw [Playlist.complete, hnone]
  dsimp only
  rw [if_neg (Bool.eq_false_iff.1 hend), if_neg hno]

end

/-- Settles O19: the pass, then each way a completed entry is followed, the ordered one by the cases
of candidate evaluation. -/
theorem cueAdvanceChoosesTheNextClip : Obligations.CueAdvanceChoosesTheNextClip := by
  refine fun t l e he => ⟨advanceCue_nextPass t he, fun hpass => ?_⟩
  rw [advanceCue_lastPass t he hpass]
  refine ⟨fun n hn hvalid => ?_, fun n hn hvalid => ?_, complete_ended t,
    fun hnone hend hsuspends hresume => ?_, fun hnone hend hgoes => ?_⟩
  · rw [complete_requested t hn, hvalid]; rfl
  · rw [complete_requested t hn, hvalid]; rfl
  · rw [complete_suspended t hnone hend hsuspends hresume]
    simp only [PlayResult.spendResume, Playlist.suspend, Playlist.following, hresume]
  · rw [complete_ordered t hnone hend hgoes]
    rcases evaluateFrom_cases t l (l.following e) with
      ⟨c, hreach, ⟨hstop, hr⟩ | ⟨hgood, hr⟩⟩ | ⟨c, hreach, hr⟩ <;> rw [hr]
    · exact .inl ⟨c, hreach, .inl ⟨hstop, rfl⟩⟩
    · exact .inl ⟨c, hreach, .inr ⟨hgood, rfl⟩⟩
    · exact .inr ⟨c, hreach, rfl⟩

/-! ### SET_PLAYLIST -/

@[simp] theorem length_putEntries (l : List PlayEntry) (first : Nat) (es : List EntryParams) :
    (putEntries l first es).length = l.length := by
  induction es generalizing l first with
  | nil => rfl
  | cons e es ih => rw [putEntries, ih, List.length_set]

theorem getElem?_putEntries_outside (l : List PlayEntry) (first : Nat) (es : List EntryParams)
    {i : Nat} (hi : i < first ∨ first + es.length ≤ i) : (putEntries l first es)[i]? = l[i]? := by
  induction es generalizing l first with
  | nil => rfl
  | cons e es ih =>
    rw [List.length_cons] at hi
    rw [putEntries, ih _ _ (by omega), List.getElem?_set_ne (by omega)]

theorem getElem?_putEntries_inside (l : List PlayEntry) (first : Nat) (es : List EntryParams)
    {i : Nat} {e : EntryParams} (hfits : first + es.length ≤ l.length) (he : es[i]? = some e) :
    (putEntries l first es)[first + i]? = some (playEntryOf e) := by
  induction es generalizing l first i with
  | nil => cases he
  | cons d es ih =>
    rw [List.length_cons] at hfits
    rw [putEntries]
    cases i with
    | zero =>
      obtain rfl : d = e := Option.some.inj he
      rw [Nat.add_zero first, getElem?_putEntries_outside _ _ _ (.inl first.lt_add_one),
        List.getElem?_set_self (by omega)]
    | succ i =>
      have hfits' : first + 1 + es.length ≤ (l.set first (playEntryOf d)).length := by
        rw [List.length_set]; omega
      rw [Nat.add_comm i 1, ← Nat.add_assoc]
      exact ih _ _ hfits' he

/-- The flags of an entry by the places of R180 (R130). -/
theorem playEntryOf_eq (e : EntryParams) : playEntryOf e = {
    valid := e.valid == 1, clip := e.clip,
    showNo := if e.showNo = 255 then none else some e.showNo,
    repeats := max 1 (min e.repeats 15), endOfList := e.flags % 2 == 1,
    suspends := e.flags / 2 % 2 == 1, loops := e.flags / 4 % 2 == 1,
    skipSold := e.flags / 8 % 2 == 1, skipStarted := e.flags / 16 % 2 == 1 } := by
  simp only [playEntryOf, Nat.testBit_eq_decide_div_mod_eq, Nat.reducePow, Nat.div_one]
  rfl

/-- Test 2 of R130 passes entries with a show number, or 255 for none, and flag bytes in range. -/
theorem goodEntry_of {e : EntryParams}
    (h : (e.showNo < 128 ∨ e.showNo = 255) ∧ e.valid ≤ 1 ∧ e.flags < 32) : goodEntry e = true := by
  simpa [goodEntry, isFlag, Config.shows, and_assoc] using h

/-- Test 3 of R130 passes a range that does not hold the cue entry of an ACTIVE playlist. -/
theorem not_playsWithin {l : Playlist} {first count : Nat}
    (h : l.state ≠ .active ∨ ∀ c, l.cueEntry = some c → c < first ∨ first + count ≤ c) :
    l.playsWithin first count = false := by
  rw [Playlist.playsWithin, Bool.and_eq_false_iff]
  refine h.imp beq_false_of_ne fun hcue => ?_
  cases hc : l.cueEntry with
  | none => rfl
  | some c =>
    have hout := hcue c hc
    simp only [Option.any_some, Bool.and_eq_false_iff, decide_eq_false_iff_not]
    omega

/-- Settles O44: the three tests passed, and the entries put one after the other. -/
theorem setPlaylistReplacesEntries : Obligations.SetPlaylistReplacesEntries := by
  rintro s tag pane first _ entries w hr hpane hw hlo hhi hroom rfl hsixteen hgood hcue
  refine ⟨putEntries w.playlist.entries first entries, ?_,
    (length_putEntries ..).trans hsixteen,
    fun i hi => getElem?_putEntries_outside _ _ _ hi, fun i e he => ?_⟩
  · have hbounds : ¬ (Config.panes ≤ pane ∨ entries.length = 0 ∨ 8 < entries.length ∨
        16 < first + entries.length) := by
      simp only [Config.panes]; omega
    have hall : entries.all goodEntry = true :=
      List.all_eq_true.2 fun e he => goodEntry_of (hgood e he)
    change whenRunning (cmdSetPlaylist tag pane first entries.length entries) s = _
    rw [whenRunning_runs hr, cmdSetPlaylist, pane_of_getElem? hw, List.take_length,
      if_neg hbounds, hall, if_neg Bool.false_ne_true.symm, not_playsWithin hcue,
      if_neg Bool.false_ne_true, answer_eq]
    rfl
  · rw [getElem?_putEntries_inside _ _ _ (hroom.trans_eq hsixteen.symm) he, playEntryOf_eq]

/-! ### PLAY_RESUME -/

section
variable {s : State} {pane : Nat} {p : Pane} {g : PaneSettings}

theorem cmdPlayResume_active (tag : Nat) (htest : s.pane.test pane = none)
    (hp : s.pane.panes[pane]? = some p) (hactive : p.playlist.state = .active) :
    cmdPlayResume tag pane s = (s.withPane (s.pane.put pane
      { p with playlist := { p.playlist with resumeRequest := true } })).answer 19 tag [] := by
  rw [cmdPlayResume, htest, pane_of_getElem? hp, hactive]

theorem cmdPlayResume_suspended (tag : Nat) (htest : s.pane.test pane = none)
    (hp : s.pane.panes[pane]? = some p) (hsuspended : p.playlist.state = .suspended) :
    cmdPlayResume tag pane s =
      (s.resumed pane (p.playlist.resume s.tally)).answer 19 tag [] := by
  rw [cmdPlayResume, htest, pane_of_getElem? hp, hsuspended]

/-- A resume answered OK replaces the pane's playlist, with PLAYLIST_STOPPED set where the playlist
stopped by itself (R136, R139). -/
theorem resumed_answer (tag : Nat) (hp : s.pane.panes[pane]? = some p) (r : PlayResult) :
    (s.resumed pane r).answer 19 tag [] = { s with
      pane := { s.pane with panes := s.pane.panes.set pane { p with playlist := r.list } }
      command := s.answeredOk 19 tag
        (if r.stopped = true then s.command.causes ||| 256#12 else s.command.causes) [] } := by
  obtain ⟨list, stopped⟩ := r
  rw [State.resumed, pane_of_getElem? hp]
  cases stopped <;> rfl

/-- A resumed playlist evaluates the successor it remembers, which is then forgotten (R136, log
entry 20). -/
theorem resume_cases (t : TallyUnit) {l : Playlist} {a : Nat} (ha : l.successor = some a) :
    (∃ c, l.reaches t a c ∧ { l with successor := none }.endsAt t c (l.resume t)) ∨
      ∃ c, l.reachesBy t 16 a c ∧ l.resume t = l.suspend c := by
  have hresume : l.resume t = { l with successor := none }.evaluateFrom t a := by
    rw [Playlist.resume, ha]; rfl
  rw [hresume]
  rcases evaluateFrom_cases t { l with successor := none } a with
    ⟨c, hreach, hend⟩ | ⟨c, hreach, hsuspend⟩
  · exact .inl ⟨c, (reaches_successor ..).1 hreach, hend⟩
  · exact .inr ⟨c, (reachesBy_successor ..).1 hreach, hsuspend⟩

end

/-- Settles O46: the resume request, or the cases of the remembered successor's evaluation. -/
theorem playResumeReleasesASuspension : Obligations.PlayResumeReleasesASuspension := by
  intro s tag pane p g hr hpane hp hg
  have htest := test_passed hpane hp hg
  have hexec : exec (.playResume tag pane) s = .next (cmdPlayResume tag pane s) :=
    whenRunning_runs hr
  rw [hexec]
  refine ⟨fun hactive => ?_, fun a hsuspended ha => ?_⟩
  · rw [cmdPlayResume_active tag htest hp hactive]; rfl
  · rw [cmdPlayResume_suspended tag htest hp hsuspended, resumed_answer tag hp]
    refine ⟨_, _, rfl, ?_⟩
    rcases resume_cases s.tally ha with
      ⟨c, hreach, ⟨hstop, h⟩ | ⟨⟨hlt, hvalid, hplays⟩, h⟩⟩ | ⟨c, hreach, h⟩ <;> rw [h]
    · exact .inl ⟨c, hreach, .inl ⟨hstop, rfl, rfl⟩⟩
    · exact .inl ⟨c, hreach, .inr ⟨hlt, hvalid, hplays, rfl, rfl⟩⟩
    · exact .inr ⟨c, hreach, rfl, rfl⟩

end Sys2Proof.Machine

namespace Sys2Proof.Machine

/-! ### What keeps the Intake Unit sound -/

/-- A queue that holds a record of a line holds one fewer without it (R143). -/
theorem filter_line_length {l : List QueuedRecord} (hl : (l.map (fun r => r.addr)).Nodup)
    {a : Nat} (ha : l.any (fun r => r.addr == a) = true) :
    (l.filter (fun r => r.addr != a)).length + 1 = l.length := by
  have hmem : a ∈ l.map (fun r => r.addr) := by simpa using ha
  have hmap : (l.filter (fun r => r.addr != a)).map (fun r => r.addr) =
      (l.map (fun r => r.addr)).erase a := by
    rw [hl.erase_eq_filter, List.filter_map]; rfl
  have hlen := congrArg List.length hmap
  rw [List.length_map, List.length_erase_of_mem hmem, List.length_map] at hlen
  have hpos : 0 < l.length := by simpa using List.length_pos_of_mem hmem
  omega

@[simp] theorem cancelWrite_txn (a : Nat) (w : IssuedWrite) :
    (IntakeUnit.cancelWrite a w).txn = w.txn := by
  unfold IntakeUnit.cancelWrite; split <;> rfl

section
variable {u : IntakeUnit} {a : Nat}

/-! ### A write of a line -/

/-- A line's verdicts lost leave the other verdicts and the numbers in use (R143, R144). -/
theorem IntakeInv.loseVerdicts (hi : IntakeInv u) (a : Nat) :
    IntakeInv (u.loseVerdicts a).unit := { hi with
  verdicts_length := (List.length_filter_le ..).trans hi.verdicts_length
  issued_length := (List.length_map ..).trans_le hi.issued_length
  lines := hi.lines.sublist ((List.Sublist.refl _).append (List.filter_sublist.map _))
  numbers := by simpa [IntakeUnit.loseVerdicts, Function.comp_def] using hi.numbers
  own := fun w hw => by
    obtain ⟨x, hx, rfl⟩ := List.mem_map.1 hw
    rw [cancelWrite_txn]
    exact hi.own x hx }

/-- A record taken out is counted SUPERSEDED: the queue is one shorter (R143, R151). -/
theorem IntakeInv.supersede (hi : IntakeInv u) (a : Nat) : IntakeInv (u.supersede a) := by
  unfold IntakeUnit.supersede
  split
  · next hheld =>
    have hlen := filter_line_length (hi.lines.sublist (List.sublist_append_left ..)) hheld
    exact { hi with
      queue_length := (List.length_filter_le ..).trans hi.queue_length
      lines := hi.lines.sublist ((List.filter_sublist.map _).append (List.Sublist.refl _))
      accounted := fun htop => by
        have hcount := hi.accounted htop
        dsimp only at htop ⊢
        rw [satInc, if_pos (by omega)]
        omega }
  · exact hi

/-- A record of a line that stands in neither queue joins the tail and is counted TAKEN (R143,
R151). -/
theorem IntakeInv.append (hi : IntakeInv u) (hroom : u.queue.length < Config.records)
    (hnew : a ∉ u.queue.map (fun r => r.addr) ++ u.verdicts.map (fun v => v.addr)) (data : Line) :
    IntakeInv (u.append a data) := { hi with
  queue_length := by simpa [IntakeUnit.append] using hroom
  lines := by
    have hcons := List.nodup_middle.2 (List.nodup_cons.2 ⟨hnew, hi.lines⟩)
    simpa [IntakeUnit.append] using hcons
  accounted := fun htop => by
    have hbounds := satInc_bounds u.counters.taken
    simp only [IntakeUnit.append, List.length_append, List.length_singleton] at htop ⊢
    have hcount := hi.accounted (by omega)
    rw [satInc, if_pos (by omega)]
    omega }

/-- Back-pressure has no part in soundness (R145, R146). -/
theorem IntakeInv.judgeTaking (hi : IntakeInv u) : IntakeInv u.judgeTaking.unit := by
  unfold IntakeUnit.judgeTaking
  split_ifs
  all_goals exact { hi with }

/-- Room for a record of a line remains once the line's own record is taken out (R143). -/
theorem supersede_room (hi : IntakeInv u)
    (h : u.queue.length < Config.records ∨ u.holdsLine a = true) :
    (u.supersede a).queue.length < Config.records := by
  unfold IntakeUnit.supersede
  split
  · next hheld =>
    have hlen := filter_line_length (hi.lines.sublist (List.sublist_append_left ..)) hheld
    have hfull := hi.queue_length
    dsimp only
    omega
  · next hno => exact h.resolve_right hno

/-- Once a line's record and verdicts are gone the line stands in neither queue (R143). -/
theorem not_mem_lines (u : IntakeUnit) (a : Nat) :
    a ∉ ((u.supersede a).loseVerdicts a).unit.queue.map (fun r => r.addr) ++
      ((u.supersede a).loseVerdicts a).unit.verdicts.map (fun v => v.addr) := by
  rw [List.mem_append, not_or]
  refine ⟨?_, by simp [IntakeUnit.loseVerdicts]⟩
  change a ∉ (u.supersede a).queue.map (fun r => r.addr)
  unfold IntakeUnit.supersede
  split
  · simp
  · next hno => simpa [IntakeUnit.holdsLine] using hno

theorem IntakeInv.take (hi : IntakeInv u)
    (h : u.queue.length < Config.records ∨ u.holdsLine a = true) (data : Line) :
    IntakeInv (u.take a data).unit :=
  (((hi.supersede a).loseVerdicts a).append (supersede_room hi h) (not_mem_lines u a)
    data).judgeTaking

/-- A write of an intake line keeps the unit sound, however it is sorted (R142). -/
theorem IntakeInv.write (hi : IntakeInv u) (a : Nat) (full : Bool) (data : Line) :
    IntakeInv (u.write a full data).unit := by
  unfold IntakeUnit.write
  split_ifs with _ _ hroom
  · exact { hi with }
  · exact hi
  · exact hi.take hroom data
  · exact { hi.loseVerdicts a with }

/-! ### A record answered -/

theorem IntakeInv.judgeStep (hi : IntakeInv u) : IntakeInv u.judgeStep := by
  unfold IntakeUnit.judgeStep
  split
  · exact { hi with }
  · exact hi

/-- Below its top the count of records answered rises by one (R151). -/
theorem answered_count (c : IntakeCounters) (reason : Reason)
    (h : c.done + c.refused < Config.counterTop) :
    (c.answered reason).done + (c.answered reason).refused = c.done + c.refused + 1 ∧
      (c.answered reason).taken = c.taken ∧ (c.answered reason).superseded = c.superseded := by
  unfold IntakeCounters.answered
  split
  all_goals
    dsimp only
    rw [satInc, if_pos (by omega)]
    omega

/-- The head record moves from the intake queue to the verdict queue, under its line (R147). -/
theorem IntakeInv.answer (hi : IntakeInv u) {q : QueuedRecord} {rest : List QueuedRecord}
    (hq : u.queue = q :: rest) (hroom : u.verdicts.length < Config.verdicts) {v : Verdict}
    (hv : v.addr = q.addr) : IntakeInv (u.answer v) := by
  have hlines : (v.addr :: (rest.map (fun r => r.addr) ++
      u.verdicts.map (fun x => x.addr))).Nodup := by
    have h := hi.lines
    rwa [hq, List.map_cons, List.cons_append, ← hv] at h
  refine IntakeInv.judgeStep { hi with
    queue_length := (List.drop_sublist 1 u.queue).length_le.trans hi.queue_length
    verdicts_length := by rwa [List.length_append]
    lines := ?_
    accounted := fun htop => ?_ }
  · have hmoved := (List.perm_append_singleton v.addr _).nodup_iff.2 hlines
    simpa [hq] using hmoved
  · have hsame : (u.counters.answered v.reason).taken = u.counters.taken := by
      unfold IntakeCounters.answered; split <;> rfl
    have hcount := hi.accounted (hsame ▸ htop)
    rw [hsame] at htop
    have hanswered := answered_count u.counters v.reason (by omega)
    simp only [hq, List.length_cons, List.drop_one, List.tail_cons] at hcount ⊢
    omega

/-! ### The verdict writer -/

/-- The unit once the head verdict is issued under a free number (R149, R161). -/
def IntakeUnit.issue (u : IntakeUnit) (own : Nat) (v : Verdict) (rest : List Verdict) :
    IntakeUnit :=
  { u with
    verdicts := rest
    issued := u.issued ++ [{
      txn := pickTxn Config.firstVerdictTxn 4 own (u.issued.map (fun w => w.txn)), verdict := v,
      cancelled := false }] }

/-- The number of a write issued is a free one of the verdict writer's (R161). -/
theorem verdictTxn_free (hroom : u.issued.length < Config.issued) (own : Nat) :
    Config.firstVerdictTxn ≤
        pickTxn Config.firstVerdictTxn 4 own (u.issued.map (fun w => w.txn)) ∧
      pickTxn Config.firstVerdictTxn 4 own (u.issued.map (fun w => w.txn)) <
        Config.firstGlyphTxn ∧
      pickTxn Config.firstVerdictTxn 4 own (u.issued.map (fun w => w.txn)) ∉
        u.issued.map (fun w => w.txn) :=
  pickTxn_free (by rwa [List.length_map])

theorem IntakeInv.issue (hi : IntakeInv u) {v : Verdict} {rest : List Verdict}
    (hv : u.verdicts = v :: rest) (hroom : u.issued.length < Config.issued) (own : Nat) :
    IntakeInv (u.issue own v rest) := by
  obtain ⟨hlo, hhi, hfree⟩ := verdictTxn_free hroom own
  have hrest : rest.Sublist u.verdicts := hv ▸ List.sublist_cons_self v rest
  exact { hi with
    verdicts_length := hrest.length_le.trans hi.verdicts_length
    issued_length := by rwa [IntakeUnit.issue, List.length_append]
    lines := hi.lines.sublist ((List.Sublist.refl _).append (hrest.map _))
    numbers := by
      rw [IntakeUnit.issue, List.map_append]
      exact (List.perm_append_singleton ..).nodup_iff.2 (List.nodup_cons.2 ⟨hfree, hi.numbers⟩)
    own := fun w hw => by
      rcases List.mem_append.1 hw with hw | hw
      · exact hi.own w hw
      · rw [List.mem_singleton.1 hw]; exact ⟨hlo, hhi⟩ }

/-- A write answered leaves the issued list; what it counts is no record (R149). -/
theorem IntakeInv.writeAnswered (hi : IntakeInv u) (txn : Nat) (error : Bool) :
    IntakeInv (u.writeAnswered txn error).unit := by
  have hleft : IntakeInv { u with issued := u.issued.filter (fun x => x.txn != txn) } := { hi with
    issued_length := (List.length_filter_le ..).trans hi.issued_length
    numbers := hi.numbers.sublist (List.filter_sublist.map _)
    own := fun w hw => hi.own w (List.mem_of_mem_filter hw) }
  unfold IntakeUnit.writeAnswered
  split
  · exact hi
  · dsimp only
    split_ifs
    · exact hleft
    · exact { hleft with }
    · exact { hleft with }

/-! ### Commands -/

/-- SET_INTAKE clamps the marks into their order (R140, R141). -/
theorem IntakeInv.configure (hi : IntakeInv u) (p : IntakeParams) :
    IntakeInv (u.configure p) := { hi with
  marks := by simp only [IntakeUnit.configure, clamp, Config.records]; omega }

/-- A WARM_RESET empties both queues and cancels the writes issued (R152). -/
theorem IntakeInv.warmReset (hi : IntakeInv u) : IntakeInv u.warmReset := { hi with
  queue_length := Nat.zero_le _
  verdicts_length := Nat.zero_le _
  issued_length := (List.length_map ..).trans_le hi.issued_length
  lines := List.nodup_nil
  numbers := by simpa [IntakeUnit.warmReset, Function.comp_def] using hi.numbers
  own := fun w hw => by
    obtain ⟨x, hx, rfl⟩ := List.mem_map.1 hw
    exact hi.own x hx
  accounted := fun _ => rfl }

end

/-! ### What an event can do to the Intake Unit -/

/-- What a command of the table can make of the Intake Unit (R141 to R152). -/
inductive IntakeUnit.Event (u : IntakeUnit) : IntakeUnit → Prop
  | none : u.Event u
  | write (a : Nat) (full : Bool) (data : Line) : u.Event (u.write a full data).unit
  | answer (q : QueuedRecord) (rest : List QueuedRecord) (o : Outcome) (hq : u.queue = q :: rest)
      (hroom : u.verdicts.length < Config.verdicts) : u.Event (u.answer (o.verdict q.addr))
  | issue (own : Nat) (v : Verdict) (rest : List Verdict) (hv : u.verdicts = v :: rest)
      (hroom : u.issued.length < Config.issued) : u.Event (u.issue own v rest)
  | writeAnswered (txn : Nat) (error : Bool) : u.Event (u.writeAnswered txn error).unit
  | configure (p : IntakeParams) : u.Event (u.configure p)
  | warmReset : u.Event u.warmReset
  | powerOn : u.Event IntakeUnit.powerOn

theorem IntakeUnit.Event.of_eq {u w : IntakeUnit} (h : w = u) : u.Event w := h ▸ .none

/-- Every event of the Intake Unit keeps it sound. -/
theorem IntakeUnit.Event.sound {u w : IntakeUnit} (h : u.Event w) (hi : IntakeInv u) :
    IntakeInv w := by
  cases h with
  | none => exact hi
  | write a full data => exact hi.write a full data
  | answer q rest o hq hroom => exact hi.answer hq hroom rfl
  | issue own v rest hv hroom => exact hi.issue hv hroom own
  | writeAnswered txn error => exact hi.writeAnswered txn error
  | configure p => exact hi.configure p
  | warmReset => exact hi.warmReset
  | powerOn => exact intake_powerOn_sound

end Sys2Proof.Machine

namespace Sys2Proof.Machine

/-! ### What leaves the Intake Unit alone -/

section
variable (s : State)

@[simp] theorem State.refuse_intake (code tag : Nat) (status : Status) :
    (s.refuse code tag status).intake = s.intake := rfl
@[simp] theorem State.answer_intake (code tag : Nat) (result : List Byte) :
    (s.answer code tag result).intake = s.intake := rfl
@[simp] theorem State.derive_intake (reached : Source → Bool) :
    (s.derive reached).intake = s.intake := rfl
@[simp] theorem State.commitAll_intake : s.commitAll.intake = s.intake := by
  rw [State.commitAll, State.withPatch_intake]
@[simp] theorem boardRecompute_intake : (boardRecompute s).intake = s.intake := rfl
@[simp] theorem State.raiseAll_intake (l : List Cause) : (s.raiseAll l).intake = s.intake := by
  rw [raiseAll_eq]; rfl
@[simp] theorem State.applyTop_intake (h : TopHandOn) : (s.applyTop h).intake = s.intake := by
  rw [State.applyTop, State.derive_intake, State.withPatch_intake]
@[simp] theorem State.applyTops_intake (l : List TopHandOn) :
    (s.applyTops l).intake = s.intake := by
  induction l generalizing s with
  | nil => rfl
  | cons h rest ih => rw [State.applyTops, ih, State.applyTop_intake]
@[simp] theorem settleTops_intake : (settleTops s).intake = s.intake := by simp [settleTops]

/-! ### The units' own events -/

theorem takeMinute_intake : (takeMinute s).intake = s.intake := by
  unfold takeMinute
  split
  · exact State.tallyDone_intake ..
  · rfl
theorem takeExpiry_intake : (takeExpiry s).intake = s.intake := by
  unfold takeExpiry
  split
  · exact State.tallyDone_intake ..
  · rfl
theorem takeBoardEvent_intake : (takeBoardEvent s).intake = s.intake := by
  unfold takeBoardEvent; split <;> rfl
theorem takeBoardMinute_intake : (takeBoardMinute s).intake = s.intake := by
  unfold takeBoardMinute; split <;> rfl
theorem takeDwell_intake (k : Nat) : (takeDwell k s).intake = s.intake := by
  unfold takeDwell
  split
  · rfl
  · split <;> rfl
theorem settleDwells_intake (n : Nat) : (settleDwells n s).intake = s.intake := by
  induction n generalizing s with
  | zero => rfl
  | succ n ih => rw [settleDwells, ih, takeDwell_intake]
theorem takeNoticeTick_intake : (takeNoticeTick s).intake = s.intake := by
  unfold takeNoticeTick; split <;> simp
theorem noticeTally_intake (e : TallyEvent) : (noticeTally e s).intake = s.intake := by
  simp only [noticeTally]; split <;> simp
theorem takeNoticeEvent_intake : (takeNoticeEvent s).intake = s.intake := by
  unfold takeNoticeEvent
  split
  · rw [noticeTally_intake]; rfl
  · rfl
theorem takeFlagHandOn_intake : (takeFlagHandOn s).intake = s.intake := by
  unfold takeFlagHandOn; split <;> rfl
theorem takeRetry_intake (k : Nat) : (takeRetry k s).intake = s.intake := by
  unfold takeRetry; split <;> rfl
theorem settleRetries_intake (n : Nat) : (settleRetries n s).intake = s.intake := by
  induction n generalizing s with
  | zero => rfl
  | succ n ih => rw [settleRetries, ih, takeRetry_intake]
theorem takeFromTally_intake : (takeFromTally s).intake = s.intake := by
  unfold takeFromTally; split <;> rfl
theorem takeFromBoard_intake : (takeFromBoard s).intake = s.intake := by
  unfold takeFromBoard; split <;> simp
theorem takeFromNotice_intake : (takeFromNotice s).intake = s.intake := by
  unfold takeFromNotice; split <;> simp
theorem takeClockCells_intake : (takeClockCells s).intake = s.intake := by
  unfold takeClockCells; split <;> rfl
theorem takeLoadDone_intake : (takeLoadDone s).intake = s.intake := by
  unfold takeLoadDone
  split
  · split
    · split <;> simp
    · rfl
  · rfl
theorem takeDrainEnd_intake : (takeDrainEnd s).intake = s.intake := by
  unfold takeDrainEnd; split <;> rfl
theorem takeSecond_intake : (takeSecond s).intake = s.intake := by
  simp only [takeSecond]
  split <;> split <;> rfl
theorem secondsTick_intake : (secondsTick s).intake = s.intake := by
  unfold secondsTick
  split
  · rfl
  · rw [takeSecond_intake, settleTick, takeClockCells_intake, settleRetries_intake,
      takeNoticeTick_intake, takeBoardMinute_intake, settleDwells_intake, takeMinute_intake,
      takeExpiry_intake]

/-- The unit that owns a record does not touch the Intake Unit (R147). -/
theorem ownRecord_intake (r : Record) : (ownRecord r s).state.intake = s.intake := by
  unfold ownRecord; split <;> rfl
theorem applyRecord_intake (data : List Byte) :
    (applyRecord data s).state.intake = s.intake := by
  unfold applyRecord
  split
  · rfl
  · split
    · rfl
    · exact ownRecord_intake ..

/-! ### The traffic that leaves it -/

theorem scanRead_intake (k : Nat) (r : Request) : (scanRead k r s).intake = s.intake := by
  simp only [scanRead]; split <;> rfl
theorem frameStart_intake (k : Nat) : (frameStart k s).intake = s.intake := by simp [frameStart]
theorem takeRead_intake (r : Request) : (takeRead r s).intake = s.intake := by
  unfold takeRead
  split
  · rfl
  · split
    · rfl
    · split
      · rw [scanRead_intake, frameStart_intake]
      · exact scanRead_intake ..
theorem returnRead_intake (t : Tracked) : (s.returnRead t).intake = s.intake := by
  unfold State.returnRead; split <;> rfl
theorem returnData_intake (e : InFlight) (data : Line) :
    (returnData e data s).intake = s.intake := by
  have hlate : (s.countLate e.tracked).intake = s.intake := by
    unfold State.countLate; split <;> rfl
  simp [returnData, returnRead_intake, hlate]
theorem returnError_intake (e : InFlight) : (returnError e s).intake = s.intake := by
  simp [returnError, returnRead_intake]
theorem grantStream_intake (run : Nat) : (grantStream run s).intake = s.intake := by
  unfold grantStream; split <;> rfl
theorem grantGlyph_intake (own : Nat) : (grantGlyph own s).intake = s.intake := by
  unfold grantGlyph; split <;> rfl

/-! ### Command lines -/

/-- A command line other than WARM_RESET and SET_INTAKE leaves the Intake Unit (R152, R173). -/
theorem runCommand_intake_same {c : Instr} (hwarm : ∀ tag, c ≠ .warmReset tag)
    (hset : ∀ tag p, c ≠ .setIntake tag p) : (runCommand c s).intake = s.intake := by
  unfold runCommand
  split
  case h_1 => unfold cmdSetMode; split <;> rfl
  case h_2 => exact absurd rfl (hwarm _)
  case h_3 => unfold cmdSetClock; split <;> rfl
  case h_4 => unfold cmdDayStart; split <;> rfl
  case h_5 => exact absurd rfl (hset _ _)
  case h_6 =>
    simp only [cmdSetTally]
    rw [State.answer_intake, State.tallyDone_intake]
  case h_7 => unfold cmdSetWords; split <;> rfl
  case h_8 =>
    unfold cmdSetView
    split
    · rfl
    · split <;> simp
  case h_9 => unfold cmdSetSurface; split_ifs <;> rfl
  case h_10 => unfold cmdSetCell; split <;> rfl
  case h_11 => unfold cmdClearCell; split <;> rfl
  case h_12 => unfold cmdLoadGlyphs; split_ifs <;> rfl
  case h_13 => unfold cmdSetSegment; split_ifs <;> rfl
  case h_14 => unfold cmdSetTrigger; split <;> simp
  case h_15 => unfold cmdClearTrigger; split <;> simp
  case h_16 =>
    unfold cmdSetPane
    split_ifs
    any_goals rfl
    split <;> rfl
  case h_17 => unfold cmdSetPlaylist; split_ifs <;> rfl
  case h_18 =>
    unfold cmdPlayStart
    split
    · rfl
    · split <;> rfl
  case h_19 =>
    unfold cmdPlayResume
    split
    · rfl
    · split
      · rfl
      · rfl
      · simp only [State.resumed]; split <;> rfl
  case h_20 => unfold cmdPlayStop; split <;> rfl
  case h_21 => unfold cmdPaneClear; split <;> rfl
  case h_23 => unfold cmdClearCauses; split <;> rfl
  case h_24 => unfold cmdInspect; split <;> rfl
  all_goals rfl

/-- What a command line can make of the Intake Unit (R141, R152). -/
theorem runCommand_intakeEvent (c : Instr) : s.intake.Event (runCommand c s).intake := by
  by_cases hwarm : ∃ tag, c = .warmReset tag
  · obtain ⟨tag, rfl⟩ := hwarm
    exact .warmReset
  by_cases hset : ∃ tag p, c = .setIntake tag p
  · obtain ⟨tag, p, rfl⟩ := hset
    change s.intake.Event (cmdSetIntake tag p s).intake
    unfold cmdSetIntake
    split_ifs
    any_goals exact .none
    exact .configure p
  exact .of_eq (runCommand_intake_same s (fun tag h => hwarm ⟨tag, h⟩)
    fun tag p h => hset ⟨tag, p, h⟩)

/-! ### The Intake Unit's own events -/

theorem processStep_intakeEvent : s.intake.Event (processStep s).intake := by
  unfold processStep
  split
  · exact .none
  · next q rest hq =>
    split
    · next hroom => exact .answer q rest _ hq hroom
    · exact .none

theorem takeWrite_intakeEvent (a : Nat) (full : Bool) (data : Line) :
    s.intake.Event (takeWrite a full data s).intake := by
  unfold takeWrite
  split
  · simp only [takeIntake, State.raiseAll_intake, State.withIntake_intake]
    exact .write a full data
  · split
    · exact .of_eq (by simp [takeMarker])
    · exact .none

theorem recognise_intakeEvent (r : Request) : s.intake.Event (recognise r s).intake := by
  unfold recognise
  split_ifs
  · unfold takeAnchor
    split
    · split
      · rw [State.forward_intake]
        unfold takeCommand
        split_ifs
        · exact .none
        · exact .none
        · split
          · exact .none
          · exact runCommand_intakeEvent ..
      · exact .none
    · split <;> exact .none
  · exact .none
  · split
    · exact .of_eq (takeRead_intake ..)
    · rw [State.forward_intake]
      exact takeWrite_intakeEvent ..

/-- A request of the verdict writer issues the head verdict (R149). -/
theorem requests_iff (u : IntakeUnit) :
    u.requests = true ↔ u.verdicts ≠ [] ∧ u.issued.length < Config.issued := by
  simp [IntakeUnit.requests]

/-- The verdict writer's grant issues its head verdict and sends the write downstream (R149). -/
theorem grantVerdict_eq {s : State} (own : Nat) {v : Verdict} {rest : List Verdict}
    (hv : s.intake.verdicts = v :: rest) :
    grantVerdict own s = (s.withIntake (s.intake.issue own v rest)).sendDown {
      addr := v.addr, initiator := 0
      txn := pickTxn Config.firstVerdictTxn 4 own (s.intake.issued.map (fun w => w.txn))
      access := .write verdictEnables v.line } := by
  rw [grantVerdict, hv]; rfl

theorem grantOwn_intakeEvent (own : Nat) : s.intake.Event (grantOwn own s).intake := by
  simp only [grantOwn]
  split
  · next hreq =>
    obtain ⟨hsome, hroom⟩ := (requests_iff s.intake).1 hreq
    obtain ⟨v, rest, hv⟩ := List.exists_cons_of_ne_nil hsome
    rw [grantVerdict_eq (s := s.withPath { s.path with run := 0 }) own hv]
    exact .issue own v rest hv hroom
  · exact .of_eq (grantGlyph_intake ..)

theorem grant_intakeEvent (own : Nat) : s.intake.Event (grant own s).intake := by
  unfold grant
  split_ifs
  · exact grantOwn_intakeEvent ..
  · exact .none
  · exact .of_eq (grantStream_intake ..)
  · exact grantOwn_intakeEvent ..
  · exact .of_eq (grantStream_intake ..)

end

section
variable {s t : State}

theorem takeResponse_intakeEvent {r : Response} (h : takeResponse r s = .next t) :
    s.intake.Event t.intake := by
  unfold takeResponse at h
  split_ifs at h
  · unfold verdictResponse at h
    split at h
    · split at h <;> cases h
      exact .none
    · cases h; rw [State.raiseAll_intake]; exact .writeAnswered r.txn false
    · cases h; rw [State.raiseAll_intake]; exact .writeAnswered r.txn true
  · unfold loaderResponse at h
    split at h <;> cases h
    exact .none
  · unfold playerResponse at h
    split at h
    · cases h; exact .none
    · split at h <;> cases h
      · exact .of_eq (returnData_intake ..)
      · exact .of_eq (returnError_intake ..)

theorem takeOldest_intakeEvent (h : takeOldest s = .next t) : s.intake.Event t.intake := by
  unfold takeOldest at h
  split at h
  · cases h; exact .none
  · split at h
    · cases h; exact .none
    · next r rest _ =>
      unfold takeRequest at h
      split_ifs at h <;> cases h
      · exact .none
      · exact recognise_intakeEvent (s.withPath { s.path with waiting := rest }) r

/-! ### Every command -/

/-- What a command can make of the Intake Unit is one of its events, or nothing. -/
theorem exec_intakeEvent {c : Instr} (h : exec c s = .next t) : s.intake.Event t.intake := by
  have event : ∀ {f : State → State}, whenRunning f s = .next t → s.intake.Event (f s).intake →
      s.intake.Event t.intake := fun h hf =>
    whenRunning_keeps (P := fun u => s.intake.Event u.intake) h .none hf
  have same : ∀ {f : State → State}, whenRunning f s = .next t → (f s).intake = s.intake →
      s.intake.Event t.intake := fun h hf => event h (.of_eq hf)
  have may : ∀ {f : State → Host.Outcome State Fault Refusal}, unlessReset f s = .next t →
      (f s = .next t → s.intake.Event t.intake) → s.intake.Event t.intake := fun h hf =>
    unlessReset_keeps (P := fun u => s.intake.Event u.intake) h .none hf
  have line : ∀ {c : Instr}, whenRunning (runCommand c) s = .next t → s.intake.Event t.intake :=
    fun h => event h (runCommand_intakeEvent s _)
  cases c with
  | resetRelease straps => cases h; exact .powerOn
  | resetAssert => cases h; exact .none
  | millisecondTick => exact same h rfl
  | secondsTick => exact same h (secondsTick_intake s)
  | changeOfMinute => exact same h (takeMinute_intake s)
  | boardMinuteRecompute => exact same h (takeBoardMinute_intake s)
  | clockCellUpdate => exact same h (takeClockCells_intake s)
  | holdExpiry => exact same h (takeExpiry_intake s)
  | dwellExpiry view => exact same h (takeDwell_intake s view)
  | timedNoticeExpiry => exact same h (takeNoticeTick_intake s)
  | cyclePhaseExpiry => exact same h (takeNoticeTick_intake s)
  | retryTimerExpiry pane => exact same h (takeRetry_intake s pane)
  | idleTimerExpiry surface =>
    exact same (f := fun u => u.withPatch (u.patch.idleExpiry surface)) h rfl
  | boardTallyEvent => exact same h (takeBoardEvent_intake s)
  | noticeTallyEvent => exact same h (takeNoticeEvent_intake s)
  | paneTallyEvent => exact same h rfl
  | patchSourceChange source =>
    cases source with
    | tally => exact same h (takeFromTally_intake s)
    | board => exact same h (takeFromBoard_intake s)
    | notice => exact same h (takeFromNotice_intake s)
  | paneFullscreenFlag => exact same h (takeFlagHandOn_intake s)
  | upstreamRequest offer =>
    exact may (f := fun u => takeOldest (offerRequest offer u)) h
      (takeOldest_intakeEvent (s := offerRequest offer s))
  | downstreamResponse response => exact may (f := takeResponse response) h takeResponse_intakeEvent
  | loadDone => exact same h (takeLoadDone_intake s)
  | loaderDrainEnd => exact same h (takeDrainEnd_intake s)
  | slotFree response =>
    refine may (f := fun u => if u.freesSlot response then takeResponse response u else .next u) h
      fun h => ?_
    split at h
    · exact takeResponse_intakeEvent h
    · cases h; exact .none
  | downstreamGrant own => exact event h (grant_intakeEvent s own)
  | processingStep => exact event h (processStep_intakeEvent s)
  | anchorLineWrite k initiator txn enables data =>
    unfold exec execAnchorLineWrite at h
    refine may h fun h => ?_
    split at h
    · exact takeOldest_intakeEvent (s := offerRequest _ s) h
    · cases h; exact .none
  | setMode tag mode => exact line (c := .setMode tag mode) h
  | warmReset tag => exact line (c := .warmReset tag) h
  | setClock tag minute second => exact line (c := .setClock tag minute second) h
  | dayStart tag minute origin => exact line (c := .dayStart tag minute origin) h
  | setIntake tag params => exact line (c := .setIntake tag params) h
  | setTally tag params => exact line (c := .setTally tag params) h
  | setWords tag words => exact line (c := .setWords tag words) h
  | setView tag params => exact line (c := .setView tag params) h
  | setSurface tag params => exact line (c := .setSurface tag params) h
  | setCell tag params => exact line (c := .setCell tag params) h
  | clearCell tag cell => exact line (c := .clearCell tag cell) h
  | loadGlyphs tag set source sum => exact line (c := .loadGlyphs tag set source sum) h
  | setSegment tag segment text => exact line (c := .setSegment tag segment text) h
  | setTrigger tag params => exact line (c := .setTrigger tag params) h
  | clearTrigger tag trigger => exact line (c := .clearTrigger tag trigger) h
  | setPane tag params => exact line (c := .setPane tag params) h
  | setPlaylist tag pane first count entries =>
    exact line (c := .setPlaylist tag pane first count entries) h
  | playStart tag pane entry now => exact line (c := .playStart tag pane entry now) h
  | playResume tag pane => exact line (c := .playResume tag pane) h
  | playStop tag pane => exact line (c := .playStop tag pane) h
  | paneClear tag pane => exact line (c := .paneClear tag pane) h
  | setMask tag mask => exact line (c := .setMask tag mask) h
  | clearCauses tag mask => exact line (c := .clearCauses tag mask) h
  | inspect tag kind index => exact line (c := .inspect tag kind index) h

end

/-- Settles O55: an idle step changes nothing, and each event a command can be to the Intake Unit
keeps it sound. -/
theorem intakeStaysSound : Obligations.IntakeStaysSound := by
  intro s t hi h
  unfold step at h
  split at h
  · cases h; exact hi
  · next c rest _ => exact (exec_intakeEvent (s := s.withPending rest) h).sound hi

end Sys2Proof.Machine

namespace Sys2Proof.Machine

/-! ### Responses to the verdict writer -/

/-- An element is found by a key that no other element has. -/
theorem find_of_nodup_keys {α : Type} {l : List α} {key : α → Nat} (hnodup : (l.map key).Nodup)
    {x : α} (hmem : x ∈ l) : l.find? (fun y => key y == key x) = some x := by
  rcases hfind : l.find? (fun y => key y == key x) with _ | y
  · simpa using List.find?_eq_none.1 hfind x hmem
  · have hkey : key y = key x := by
      simpa using List.find?_some (p := fun y => key y == key x) hfind
    exact congrArg some
      (List.inj_on_of_nodup_map hnodup (List.mem_of_find?_eq_some hfind) hmem hkey)

section
variable {s : State}

/-- A response on a number of the verdict writer is the verdict writer's (R161). -/
theorem downstreamResponse_verdict (hr : s.path.resetHeld = false) {r : Response}
    (hlo : 64 ≤ r.txn) (hhi : r.txn < 68) :
    exec (.downstreamResponse r) s = verdictResponse r.txn r.reply s := by
  change unlessReset (takeResponse r) s = _
  rw [unlessReset_runs hr, takeResponse, if_pos ⟨hlo, hhi⟩]

/-- What the Intake Unit makes of a response is the whole effect, but for the cause it sets. -/
theorem verdictResponse_next {txn : Nat} {reply : Reply} {error : Bool}
    (hreply : reply = if error then .error else .ack) {w : IntakeUnit} {causes : List Cause}
    (h : s.intake.writeAnswered txn error = { unit := w, causes := causes }) :
    verdictResponse txn reply s = .next { s with
      intake := w
      command := { s.command with causes := s.command.causes ||| causeBits causes } } := by
  subst hreply
  cases error
  all_goals
    change Host.Outcome.next ((s.withIntake (s.intake.writeAnswered txn _).unit).raiseAll _) = _
    rw [h, raiseAll_eq, foldl_bit_or]
    rfl

end

section
variable {u : IntakeUnit} {w : IssuedWrite}

/-- The unit with a write off the issued list (R149). -/
def IntakeUnit.retired (u : IntakeUnit) (w : IssuedWrite) : IntakeUnit :=
  { u with issued := u.issued.filter (fun x => x.txn != w.txn) }

theorem writeAnswered_cancelled (hfind : u.issued.find? (fun x => x.txn == w.txn) = some w)
    (hcancelled : w.cancelled = true) (error : Bool) :
    u.writeAnswered w.txn error = { unit := u.retired w, causes := [] } := by
  simp only [IntakeUnit.writeAnswered, hfind, hcancelled, if_true]
  rfl

theorem writeAnswered_ack (hfind : u.issued.find? (fun x => x.txn == w.txn) = some w)
    (hlive : w.cancelled = false) :
    u.writeAnswered w.txn false = {
      unit := { u.retired w with
        counters := { u.counters with written := satInc u.counters.written } },
      causes := [] } := by
  simp only [IntakeUnit.writeAnswered, hfind, hlive, Bool.false_eq_true, if_false]
  rfl

theorem writeAnswered_error (hfind : u.issued.find? (fun x => x.txn == w.txn) = some w)
    (hlive : w.cancelled = false) :
    u.writeAnswered w.txn true = {
      unit := { u.retired w with
        counters := { u.counters with lost := satInc u.counters.lost } },
      causes := [.verdictLost] } := by
  simp only [IntakeUnit.writeAnswered, hfind, hlive, Bool.false_eq_true, if_false, if_true]
  rfl

theorem writeAnswered_unused {txn : Nat} (h : ∀ w, w ∈ u.issued → w.txn ≠ txn) (error : Bool) :
    u.writeAnswered txn error = { unit := u, causes := [] } := by
  have hnone : u.issued.find? (fun x => x.txn == txn) = none := by
    simpa [List.find?_eq_none] using h
  rw [IntakeUnit.writeAnswered, hnone]

end

/-- A response on a number of the verdict writer that is not in use is discarded, whatever it carries
(R161). -/
theorem verdictResponse_unused {s : State} {txn : Nat}
    (h : ∀ w, w ∈ s.intake.issued → w.txn ≠ txn) (reply : Reply) :
    verdictResponse txn reply s = .next s := by
  have huses : s.intake.uses txn = false := by simpa [IntakeUnit.uses] using h
  cases reply with
  | data line => rw [verdictResponse, huses]; rfl
  | ack => rw [verdictResponse, writeAnswered_unused h]; rfl
  | error => rw [verdictResponse, writeAnswered_unused h]; rfl

/-- Settles O23: the write in use is found by its number, and its response retires it. -/
theorem verdictResponsesAreCounted : Obligations.VerdictResponsesAreCounted := by
  intro s hr hi
  refine ⟨?_, fun r hlo hhi hno => ?_⟩
  · rintro w initiator rest hmem rfl
    have hfind := find_of_nodup_keys hi.numbers hmem
    obtain ⟨hlo, hhi⟩ := hi.own w hmem
    have hexec : ∀ reply, exec (.downstreamResponse
        { initiator := initiator, txn := w.txn, reply := reply }) s =
        verdictResponse w.txn reply s := fun reply => downstreamResponse_verdict hr hlo hhi
    refine ⟨?_, fun hlive => ⟨?_, ?_⟩⟩
    · rintro hcancelled reply (rfl | rfl)
      · rw [hexec, verdictResponse_next (reply := .ack) (error := false) rfl
          (writeAnswered_cancelled hfind hcancelled _), or_causeBits_nil]
        rfl
      · rw [hexec, verdictResponse_next (reply := .error) (error := true) rfl
          (writeAnswered_cancelled hfind hcancelled _), or_causeBits_nil]
        rfl
    · rw [hexec, verdictResponse_next (reply := .ack) (error := false) rfl
        (writeAnswered_ack hfind hlive), or_causeBits_nil]
      rfl
    · rw [hexec, verdictResponse_next (reply := .error) (error := true) rfl
        (writeAnswered_error hfind hlive)]
      rfl
  · rw [downstreamResponse_verdict hr hlo hhi, verdictResponse_unused hno]

end Sys2Proof.Machine

namespace Sys2Proof.Machine

/-! ### SET_INTAKE -/

/-- The N of R140 is one of four. -/
theorem isInterval_iff (n : Nat) : isInterval n = true ↔ n = 1 ∨ n = 4 ∨ n = 8 ∨ n = 16 := by
  simp [isInterval]

/-- SET_INTAKE in PASS mode with a window that passes the tests of R141. -/
theorem cmdSetIntake_passed {s : State} {p : IntakeParams} (tag : Nat) (hmode : s.path.mode = .pass)
    (halign : p.base % 64 = 0) (hmin : 8 ≤ p.length) (hmax : p.length ≤ 1024)
    (hinterval : isInterval p.interval = true) (hspace : (windowSpan p).inSpace = true)
    (hapart : apart (windowSpan p) s.intakeObstacles) :
    cmdSetIntake tag p s = (s.withIntake (s.intake.configure p)).answer 5 tag [] := by
  have hfields : ¬ (p.base % 64 ≠ 0 ∨ p.length < 8 ∨ 1024 < p.length ∨
      isInterval p.interval = false) := by
    rw [hinterval]; simp; omega
  have hmeets : ¬ meetsAny (windowSpan p) s.intakeObstacles = true := by
    rwa [meetsAny_iff, not_not]
  rw [cmdSetIntake, if_neg (by rw [hmode]; decide), if_neg hfields, if_neg (by simp [hspace]),
    if_neg hmeets]

/-- The marks as SET_INTAKE clamps them (R140). -/
theorem configure_eq (u : IntakeUnit) (p : IntakeParams) :
    u.configure p = { u with
      window := some (p.base, p.length), upper := max 4 (min p.upper 32),
      lower := min p.lower (max 4 (min p.upper 32) - 1), interval := p.interval } := by
  simp only [IntakeUnit.configure, clamp_zero]
  rfl

/-- Settles O37: the tests pass, and the configured unit has its marks clamped. -/
theorem setIntakeConfigures : Obligations.SetIntakeConfigures := by
  intro s tag p hr hmode halign hmin hmax hinterval hspace hapart
  refine ⟨_, rfl, ?_⟩
  change whenRunning (cmdSetIntake tag p) s = _
  rw [whenRunning_runs hr, cmdSetIntake_passed tag hmode halign hmin hmax
    ((isInterval_iff _).2 hinterval) ((Span.inSpace_iff _).2 hspace) hapart, configure_eq]
  rfl

end Sys2Proof.Machine

namespace Sys2Proof.Machine

/-! ### The arbiter -/

/-- The glyph loader requests the port while lines are to read and a number is free (R92, R161). -/
theorem loader_requests_iff (d : Loader) : d.requests = true ↔
    ∃ l, d = .busy l ∧ l.next < Config.glyphLines ∧
      l.outstanding.length < Config.glyphReads := by
  cases d with
  | idle => simp [Loader.requests]
  | busy l => simp [Loader.requests, Load.requests]
  | draining l => simp [Loader.requests]

/-- An own request waits where the arbiter sees one (R149, R161, R162). -/
theorem ownWaits_iff (s : State) : s.ownWaits = true ↔ s.ownRequest := by
  rw [State.ownWaits, Bool.or_eq_true, requests_iff, loader_requests_iff]
  exact Iff.rfl

/-- A requester that names a free number of its own uses it (R161; log entry 7). -/
theorem pickTxn_own {lo count own : Nat} {used : List Nat} (hlo : lo ≤ own)
    (hhi : own < lo + count) (hfree : own ∉ used) : pickTxn lo count own used = own :=
  if_pos ⟨hlo, hhi, by simpa using hfree⟩

/-- A number is free where nothing has it for its key. -/
theorem not_mem_keys {α : Type} {l : List α} {key : α → Nat} {n : Nat} :
    n ∉ l.map key ↔ ∀ x, x ∈ l → key x ≠ n := by
  simp

/-- A verdict write carries its five items in bytes 58 to 63, each below 256 (R148, R181). -/
theorem verdict_line_eq (v : Verdict) : v.line =
    List.replicate 58 0 ++ byte (if v.reason = .none then 2 else 3) ::
      byte v.reason.code :: byte (v.left % 256) :: byte (v.left / 256 % 256) ::
      byte v.state.code :: [byte v.band.code] := by
  simp [Verdict.line, Verdict.bytes, u8, u16, leBytes, byte_mod]

section
variable {s : State} (own : Nat)

/-- A grant of the pass-through stream sends its head downstream (R155, R162). -/
theorem grantStream_eq {r : Request} {rest : List Request} (hr : s.path.stream = r :: rest)
    (run : Nat) : grantStream run s = { s with path := { s.path with
      stream := rest, run := run, downOut := s.path.downOut ++ [r] } } := by
  rw [grantStream, hr]; rfl

/-- The loader's grant reads its next line under a free number (R92, R161). -/
theorem grantGlyph_eq {l : Load} (hl : s.patch.loader = .busy l) :
    grantGlyph own s = (s.withPatch { s.patch with loader := .busy { l with
        next := l.next + 1
        outstanding := l.outstanding ++ [(pickTxn Config.firstGlyphTxn 12 own
          (l.outstanding.map (fun x => x.1)), l.next)] } }).sendDown {
      addr := l.source + 64 * l.next, initiator := 0
      txn := pickTxn Config.firstGlyphTxn 12 own (l.outstanding.map (fun x => x.1))
      access := .read } := by
  rw [grantGlyph, hl]

/-- The stream alone is granted at once, and the run returns to 0 (R162). -/
theorem grant_streamAlone (hstream : s.path.stream ≠ []) (hown : ¬ s.ownRequest) :
    grant own s = grantStream 0 s := by
  rw [grant, if_neg (by simpa using hstream), if_neg (mt (ownWaits_iff s).1 hown)]

/-- The stream goes before own requests while the run is below 8 (R162). -/
theorem grant_streamFirst (hstream : s.path.stream ≠ []) (hown : s.ownRequest)
    (hrun : s.path.run < 8) : grant own s = grantStream (s.path.run + 1) s := by
  rw [grant, if_neg (by simpa using hstream), if_pos ((ownWaits_iff s).2 hown), if_pos hrun]

/-- An own request is granted at a run of 8 or with the stream empty (R162). -/
theorem grant_ownFirst (hport : s.path.stream = [] ∨ s.path.run = 8) (hown : s.ownRequest) :
    grant own s = grantOwn own s := by
  have hwaits := (ownWaits_iff s).2 hown
  by_cases hempty : s.path.stream = []
  · rw [grant, if_pos (by simpa using hempty), if_pos hwaits]
  · have hrun : ¬ s.path.run < Config.runTop := by simp [hport.resolve_left hempty, Config.runTop]
    rw [grant, if_neg (by simpa using hempty), if_pos hwaits, if_neg hrun]

/-- The verdict writer comes first among own requests (R162). -/
theorem grantOwn_verdict {v : Verdict} {rest : List Verdict} (hv : s.intake.verdicts = v :: rest)
    (hroom : s.intake.issued.length < 4) :
    grantOwn own s = { s with
      path := { s.path with
        run := 0
        downOut := s.path.downOut ++ [{
          addr := v.addr, initiator := 0
          txn := pickTxn Config.firstVerdictTxn 4 own (s.intake.issued.map (fun w => w.txn))
          access := .write verdictEnables v.line }] }
      intake := s.intake.issue own v rest } := by
  have hreq : s.intake.requests = true := (requests_iff _).2 ⟨by rw [hv]; simp, hroom⟩
  refine (if_pos hreq).trans ?_
  rw [grantVerdict_eq (s := s.withPath { s.path with run := 0 }) own hv]
  rfl

/-- The glyph loader is granted where the verdict writer requests nothing (R92, R162). -/
theorem grantOwn_glyph (hno : s.intake.verdicts = [] ∨ 4 ≤ s.intake.issued.length) {l : Load}
    (hl : s.patch.loader = .busy l) :
    grantOwn own s = { s with
      path := { s.path with
        run := 0
        downOut := s.path.downOut ++ [{
          addr := l.source + 64 * l.next, initiator := 0
          txn := pickTxn Config.firstGlyphTxn 12 own (l.outstanding.map (fun x => x.1))
          access := .read }] }
      patch := { s.patch with loader := .busy { l with
        next := l.next + 1
        outstanding := l.outstanding ++ [(pickTxn Config.firstGlyphTxn 12 own
          (l.outstanding.map (fun x => x.1)), l.next)] } } } := by
  have hreq : ¬ s.intake.requests = true := by
    rw [requests_iff]
    rintro ⟨hsome, hroom⟩
    exact hno.elim hsome (Nat.not_le.2 hroom)
  refine (if_neg hreq).trans ?_
  rw [grantGlyph_eq (s := s.withPath { s.path with run := 0 }) own hl]
  rfl

end

/-- Settles O25: the four rows of the arbiter, and the number each own request goes out under. -/
theorem arbiterSharesThePort : Obligations.ArbiterSharesThePort := by
  intro s own hr
  have hexec : exec (.downstreamGrant own) s = .next (grant own s) := whenRunning_runs hr
  rw [hexec]
  refine ⟨fun r rest hstream hown => ?_, fun r rest hstream hown hrun => ?_,
    fun v rest hport hi hv hroom => ?_, fun l hport hi hno hl hnext hroom => ?_⟩
  · rw [grant_streamAlone own (by simp [hstream]) hown, grantStream_eq hstream]
  · rw [grant_streamFirst own (by simp [hstream]) hown hrun, grantStream_eq hstream]
  · obtain ⟨hlo, hhi, hfree⟩ := verdictTxn_free hroom own
    refine ⟨_, hlo, hhi, not_mem_keys.1 hfree, fun hlo hhi hown =>
      pickTxn_own hlo hhi (not_mem_keys.2 hown), ?_⟩
    rw [grant_ownFirst own hport (.inl ⟨by simp [hv], hroom⟩), grantOwn_verdict own hv hroom,
      verdict_line_eq]
    rfl
  · obtain ⟨hlo, hhi, hfree⟩ := pickTxn_free (lo := Config.firstGlyphTxn) (count := 12) (own := own)
      (used := l.outstanding.map (fun x => x.1)) (by rwa [List.length_map])
    refine ⟨_, hlo, hhi, not_mem_keys.1 hfree, fun hlo hhi hown =>
      pickTxn_own hlo hhi (not_mem_keys.2 hown), ?_⟩
    rw [grant_ownFirst own hport (.inr ⟨l, hl, hnext, hroom⟩), grantOwn_glyph own hno hl]

end Sys2Proof.Machine

namespace Sys2Proof.Machine

/-! ### An intake line written -/

/-- An address in the window lies in an intake line (R140). -/
theorem covers_of_window {u : IntakeUnit} {base length a : Nat}
    (hwindow : u.window = some (base, length)) (hlo : base ≤ a) (hhi : a < base + 64 * length) :
    u.covers a = true := by
  simp [IntakeUnit.covers, IntakeUnit.spans, hwindow, Span.holds, hlo, hhi]

/-- A write of an intake line in ENABLED mode is sorted by the Intake Unit and forwarded (R142,
R157). -/
theorem upstreamRequest_intake {s : State} {r : Request} {enables : BitVec 64} {data : Line}
    (hw : s.writesOutside r enables data) (hcovers : s.intake.covers r.addr = true) :
    exec (.upstreamRequest (some r)) s = .next { s with
      path := { s.path with stream := s.path.stream ++ [r] }
      intake := (s.intake.write r.addr (enables == allEnables) data).unit
      command := { s.command with
        causes := s.command.causes |||
          causeBits (s.intake.write r.addr (enables == allEnables) data).causes } } := by
  obtain ⟨hat_once, hmode, hanchor, haccess⟩ := hw
  rw [upstreamRequest_atOnce hat_once, recognise, hanchor, hmode, haccess]
  simp only [Bool.false_eq_true, if_false, reduceCtorEq]
  rw [takeWrite, hcovers, if_pos rfl]
  simp only [takeIntake]
  rw [raiseAll_eq, foldl_bit_or]
  rfl

section
variable (u : IntakeUnit) (a : Nat) (data : Line)

/-! ### The verdicts a write loses -/

/-- What a write of a line makes of its verdicts, and the cause VERDICT_LOST where it lost any (R143,
R144). -/
theorem loseVerdicts_eq : u.loseVerdicts a = {
    unit := u.verdictsLost a
    causes := if u.losses a = 0 then [] else [.verdictLost] } := by
  have hcauses : (if 0 < u.losses a then [Cause.verdictLost] else []) =
      if u.losses a = 0 then [] else [.verdictLost] := by
    rw [← ite_not]
    exact if_congr (by omega) rfl rfl
  rw [← hcauses]
  rfl

/-- The place of VERDICT_LOST is 4 (R175). -/
theorem causeBits_lost : causeBits (if u.losses a = 0 then [] else [.verdictLost]) =
    if u.losses a = 0 then 0#12 else 16#12 := by
  split <;> rfl

/-! ### Back-pressure -/

/-- A taking announces back-pressure again (R146; log entry 24). -/
def IntakeUnit.announces : Bool := u.raised && decide (u.interval ≤ u.since + 1)

/-- A taking raises back-pressure (R145). -/
def IntakeUnit.fills : Bool := !u.raised && decide (u.upper ≤ u.queue.length)

/-- What a taking makes of back-pressure (R145, R146). -/
theorem judgeTaking_eq : u.judgeTaking = {
    unit := { u with
      raised := u.raised || u.fills
      since := if u.announces = true ∨ u.fills = true then 0
        else if u.raised = true then u.since + 1 else u.since
      reannounced := if u.announces = true then satInc u.reannounced else u.reannounced }
    causes := if u.announces = true ∨ u.fills = true then [.intakeFull] else [] } := by
  unfold IntakeUnit.judgeTaking IntakeUnit.announces IntakeUnit.fills
  cases hraised : u.raised
  · by_cases hfull : u.upper ≤ u.queue.length
    · simp [hfull]
    · have hsame : u = { u with raised := false } := by rw [← hraised]
      simpa [hfull] using hsame
  · by_cases hagain : u.interval ≤ u.since + 1
    · simp [hagain]
    · simp [hagain]

/-- The place of INTAKE_FULL is 2 (R175). -/
theorem causeBits_full (p : Prop) [Decidable p] :
    causeBits (if p then [.intakeFull] else []) = if p then 4#12 else 0#12 := by
  split <;> rfl

/-! ### A record taken -/

/-- The unit with a line's record taken, before back-pressure is judged: its record and its verdicts
are gone, the new one is at the tail (R143). -/
def IntakeUnit.joined : IntakeUnit :=
  { u.verdictsLost a with
    queue := u.queue.filter (fun q => q.addr != a) ++ [{ addr := a, data := data.take 58 }]
    counters := { (u.verdictsLost a).counters with
      taken := satInc u.counters.taken
      superseded := if u.holdsLine a then satInc u.counters.superseded
        else u.counters.superseded } }

/-- Superseding, losing the verdicts and appending give that unit (R143). -/
theorem append_eq_joined : ((u.supersede a).verdictsLost a).append a data = u.joined a data := by
  unfold IntakeUnit.supersede
  split
  · next hheld => rw [IntakeUnit.joined, if_pos hheld]; rfl
  · next hno =>
    have hqueue : u.queue.filter (fun q => q.addr != a) = u.queue := by
      simpa [List.filter_eq_self, IntakeUnit.holdsLine] using hno
    rw [IntakeUnit.joined, if_neg hno, hqueue]; rfl

theorem supersede_losses : (u.supersede a).losses a = u.losses a := by
  unfold IntakeUnit.supersede; split <;> rfl

theorem take_eq : u.take a data = {
    unit := (u.joined a data).judgeTaking.unit
    causes := (if u.losses a = 0 then [] else [.verdictLost]) ++
      (u.joined a data).judgeTaking.causes } := by
  simp only [IntakeUnit.take, loseVerdicts_eq, append_eq_joined, supersede_losses]

/-! ### The four ways a write is sorted (R142) -/

variable {u a data} {enables : BitVec 64}

theorem write_partial (h : enables ≠ BitVec.allOnes 64) :
    u.write a (enables == allEnables) data = {
      unit := { u with counters := { u.counters with
        partials := satInc u.counters.partials } }
      causes := [] } :=
  if_pos (beq_eq_false_iff_ne.2 h)

theorem write_full : u.write a (BitVec.allOnes 64 == allEnables) data =
    if byteAt data 58 ≠ 1 then { unit := u, causes := [] }
    else if u.queue.length < 32 ∨ u.holdsLine a = true then u.take a data else u.miss a := by
  rw [allEnables, beq_self_eq_true]; rfl

theorem write_ignored (h : byteAt data 58 ≠ 1) :
    u.write a (BitVec.allOnes 64 == allEnables) data = { unit := u, causes := [] } := by
  rw [write_full, if_pos h]

theorem write_taken (hposted : byteAt data 58 = 1)
    (hroom : u.queue.length < 32 ∨ ∃ q, q ∈ u.queue ∧ q.addr = a) :
    u.write a (BitVec.allOnes 64 == allEnables) data = u.take a data := by
  rw [write_full, if_neg (not_not.2 hposted),
    if_pos (hroom.imp_right (by simp [IntakeUnit.holdsLine]))]

theorem write_missed (hposted : byteAt data 58 = 1) (hfull : 32 ≤ u.queue.length)
    (hno : ∀ q, q ∈ u.queue → q.addr ≠ a) : u.write a (BitVec.allOnes 64 == allEnables) data = {
      unit := { u.verdictsLost a with counters := { (u.verdictsLost a).counters with
        missed := satInc u.counters.missed } }
      causes := .recordMissed :: if u.losses a = 0 then [] else [.verdictLost] } := by
  have hroom : ¬ (u.queue.length < 32 ∨ u.holdsLine a = true) :=
    not_or.2 ⟨Nat.not_lt.2 hfull, by simpa [IntakeUnit.holdsLine] using hno⟩
  rw [write_full, if_neg (not_not.2 hposted), if_neg hroom,
    IntakeUnit.miss, loseVerdicts_eq]
  rfl

end

/-- The causes of two events in turn are set at once (R175). -/
theorem causeBits_append (l m : List Cause) : causeBits (l ++ m) = causeBits l ||| causeBits m := by
  induction l with
  | nil => exact BitVec.zero_or.symm
  | cons c rest ih => 
    change c.bit ||| causeBits (rest ++ m) = (c.bit ||| causeBits rest) ||| causeBits m
    rw [ih, BitVec.or_assoc]

/-- Settles O28: the write is forwarded, and sorted in one of the four ways. -/
theorem intakeWritesAreSorted : Obligations.IntakeWritesAreSorted := by
  intro s r enables data base length hw hwindow hlo hhi
  have hexec := upstreamRequest_intake hw (covers_of_window hwindow hlo hhi)
  refine ⟨_, hexec, rfl, fun hpartial => ?_, ?_, ?_, ?_⟩
  · rw [write_partial hpartial]
    exact ⟨or_causeBits_nil _, rfl⟩
  all_goals
    rintro rfl hstate
  · rw [write_ignored hstate]
    exact ⟨congrArg (fun c => { s.command with causes := c }) (or_causeBits_nil _), rfl⟩
  · intro hfull hno
    rw [write_missed hstate hfull hno]
    refine ⟨_, rfl, rfl, ?_⟩
    rw [BitVec.or_assoc, ← causeBits_lost]
    rfl
  · intro hroom
    rw [write_taken hstate hroom, take_eq, judgeTaking_eq]
    refine ⟨_, _, (s.intake.joined r.addr data).announces, (s.intake.joined r.addr data).fills,
      rfl, rfl, ?_, ?_, rfl, ?_⟩
    · exact Bool.and_eq_true_iff.trans (and_congr_right' decide_eq_true_iff)
    · rw [IntakeUnit.fills, Bool.and_eq_true, Bool.not_eq_true', decide_eq_true_eq]
      rfl
    · rw [causeBits_append, causeBits_lost, causeBits_full, BitVec.or_assoc]

end Sys2Proof.Machine

namespace Sys2Proof.Machine

/-! ### What an event can do to the Path Unit -/

/-- What a command can make of the in-flight patch table and of the pass-through run (R156 to R158,
R162): it leaves both, or ends the run; a read joins the table, while there is room and under a
number of the player's whose pair is free; the entry of a pair leaves it; a grant lengthens a run
below 8; or the reset input is released. -/
inductive PathUnit.Event (p : PathUnit) : PathUnit → Prop
  | kept {q : PathUnit} (table : q.table = p.table) (run : q.run = p.run ∨ q.run = 0) : p.Event q
  | tracked {q : PathUnit} (r : Request) (k : Tracked) (room : p.table.length < Config.inFlight)
      (number : r.txn < Config.firstReserved) (free : p.entry r.initiator r.txn = none)
      (table : q.table = p.table ++ [{ initiator := r.initiator, txn := r.txn, tracked := k }])
      (run : q.run = p.run) : p.Event q
  | freed {q : PathUnit} (initiator txn : Nat)
      (table : q.table = p.table.filter (fun e => !e.hasPair initiator txn))
      (run : q.run = p.run) : p.Event q
  | lengthened {q : PathUnit} (below : p.run < Config.runTop) (table : q.table = p.table)
      (run : q.run = p.run + 1) : p.Event q
  | powerOn (straps : Nat) : p.Event (PathUnit.powerOn straps)

section
variable {p q : PathUnit}

theorem PathUnit.Event.of_eq (h : q = p) : p.Event q := h ▸ .kept rfl (.inl rfl)

/-- The requests that wait have no part in an event. -/
theorem PathUnit.Event.of_waiting {w : List Request}
    (h : PathUnit.Event { p with waiting := w } q) : p.Event q := by
  cases h with
  | kept table run => exact .kept table run
  | tracked r k room number free table run => exact .tracked r k room number free table run
  | freed initiator txn table run => exact .freed initiator txn table run
  | lengthened below table run => exact .lengthened below table run
  | powerOn straps => exact .powerOn straps

/-- Every event of the Path Unit keeps it sound. -/
theorem PathUnit.Event.sound (h : p.Event q) (hi : PathInv p) : PathInv q := by
  cases h with
  | kept table run =>
    have hrun : q.run ≤ Config.runTop := run.elim (fun h => h ▸ hi.run) (fun h => h ▸ Nat.zero_le _)
    exact ⟨table ▸ hi.table_length, table ▸ hi.pairs, table ▸ hi.numbers, hrun⟩
  | tracked r k room number free table run =>
    have hfree : ∀ e ∈ p.table, (e.initiator, e.txn) ≠ (r.initiator, r.txn) := fun e he => by
      simpa [InFlight.hasPair] using List.find?_eq_none.1 free e he
    refine ⟨?_, ?_, fun e he => ?_, run ▸ hi.run⟩
    · rw [table, List.length_append]
      exact room
    · rw [table, List.map_append]
      exact hi.pairs.append (List.nodup_singleton _) (by simpa using hfree)
    · rw [table, List.mem_append, List.mem_singleton] at he
      exact he.elim (hi.numbers e) fun h => h ▸ number
  | freed initiator txn table run =>
    refine ⟨?_, ?_, fun e he => ?_, run ▸ hi.run⟩
    · exact table ▸ (List.length_filter_le _ _).trans hi.table_length
    · exact table ▸ hi.pairs.sublist (List.filter_sublist.map _)
    · exact hi.numbers e (List.mem_of_mem_filter (table ▸ he))
  | lengthened below table run =>
    exact ⟨table ▸ hi.table_length, table ▸ hi.pairs, table ▸ hi.numbers, run ▸ below⟩
  | powerOn straps => exact path_powerOn_sound straps

end

/-! ### What leaves the Path Unit alone -/

section
variable (s : State)

@[simp] theorem State.refuse_path (code tag : Nat) (status : Status) :
    (s.refuse code tag status).path = s.path := rfl
@[simp] theorem State.answer_path (code tag : Nat) (result : List Byte) :
    (s.answer code tag result).path = s.path := rfl
@[simp] theorem State.derive_path (reached : Source → Bool) :
    (s.derive reached).path = s.path := rfl
@[simp] theorem State.commitAll_path : s.commitAll.path = s.path := by
  rw [State.commitAll, State.withPatch_path]
@[simp] theorem boardRecompute_path : (boardRecompute s).path = s.path := rfl
@[simp] theorem State.raiseAll_path (l : List Cause) : (s.raiseAll l).path = s.path := by
  rw [raiseAll_eq]; rfl
@[simp] theorem State.applyTop_path (h : TopHandOn) : (s.applyTop h).path = s.path := by
  rw [State.applyTop, State.derive_path, State.withPatch_path]
@[simp] theorem State.applyTops_path (l : List TopHandOn) : (s.applyTops l).path = s.path := by
  induction l generalizing s with
  | nil => rfl
  | cons h rest ih => rw [State.applyTops, ih, State.applyTop_path]
@[simp] theorem settleTops_path : (settleTops s).path = s.path := by simp [settleTops]

/-! ### The units' own events -/

theorem takeMinute_path : (takeMinute s).path = s.path := by
  unfold takeMinute
  split
  · exact State.tallyDone_path ..
  · rfl
theorem takeExpiry_path : (takeExpiry s).path = s.path := by
  unfold takeExpiry
  split
  · exact State.tallyDone_path ..
  · rfl
theorem takeBoardEvent_path : (takeBoardEvent s).path = s.path := by
  unfold takeBoardEvent; split <;> rfl
theorem takeBoardMinute_path : (takeBoardMinute s).path = s.path := by
  unfold takeBoardMinute; split <;> rfl
theorem takeDwell_path (k : Nat) : (takeDwell k s).path = s.path := by
  unfold takeDwell
  split
  · rfl
  · split <;> rfl
theorem settleDwells_path (n : Nat) : (settleDwells n s).path = s.path := by
  induction n generalizing s with
  | zero => rfl
  | succ n ih => rw [settleDwells, ih, takeDwell_path]
theorem takeNoticeTick_path : (takeNoticeTick s).path = s.path := by
  unfold takeNoticeTick; split <;> simp
theorem noticeTally_path (e : TallyEvent) : (noticeTally e s).path = s.path := by
  simp only [noticeTally]; split <;> simp
theorem takeNoticeEvent_path : (takeNoticeEvent s).path = s.path := by
  unfold takeNoticeEvent
  split
  · rw [noticeTally_path]; rfl
  · rfl
theorem takeFlagHandOn_path : (takeFlagHandOn s).path = s.path := by
  unfold takeFlagHandOn; split <;> rfl
theorem takeRetry_path (k : Nat) : (takeRetry k s).path = s.path := by
  unfold takeRetry; split <;> rfl
theorem settleRetries_path (n : Nat) : (settleRetries n s).path = s.path := by
  induction n generalizing s with
  | zero => rfl
  | succ n ih => rw [settleRetries, ih, takeRetry_path]
theorem takeFromTally_path : (takeFromTally s).path = s.path := by
  unfold takeFromTally; split <;> rfl
theorem takeFromBoard_path : (takeFromBoard s).path = s.path := by
  unfold takeFromBoard; split <;> simp
theorem takeFromNotice_path : (takeFromNotice s).path = s.path := by
  unfold takeFromNotice; split <;> simp
theorem takeClockCells_path : (takeClockCells s).path = s.path := by
  unfold takeClockCells; split <;> rfl
theorem takeLoadDone_path : (takeLoadDone s).path = s.path := by
  unfold takeLoadDone
  split
  · split
    · split <;> simp
    · rfl
  · rfl
theorem takeDrainEnd_path : (takeDrainEnd s).path = s.path := by
  unfold takeDrainEnd; split <;> rfl
theorem takeSecond_path : (takeSecond s).path = s.path := by
  simp only [takeSecond]
  split <;> split <;> rfl
theorem secondsTick_path : (secondsTick s).path = s.path := by
  unfold secondsTick
  split
  · rfl
  · rw [takeSecond_path, settleTick, takeClockCells_path, settleRetries_path,
      takeNoticeTick_path, takeBoardMinute_path, settleDwells_path, takeMinute_path,
      takeExpiry_path]
theorem ownRecord_path (r : Record) : (ownRecord r s).state.path = s.path := by
  unfold ownRecord; split <;> rfl
theorem applyRecord_path (data : List Byte) : (applyRecord data s).state.path = s.path := by
  unfold applyRecord
  split
  · rfl
  · split
    · rfl
    · exact ownRecord_path ..
theorem processStep_path : (processStep s).path = s.path := by
  unfold processStep
  split
  · rfl
  · split
    · rw [State.withIntake_path, applyRecord_path]
    · rfl

/-! ### Command lines -/

/-- A command of R173 acts as its command line does (log entry 17). -/
theorem exec_commandLine {c : Instr} {code : Nat} (h : commandCode c = some code) :
    exec c s = whenRunning (runCommand c) s := by
  cases c <;> cases h <;> rfl

/-- A command line other than SET_MODE and WARM_RESET leaves the Path Unit (R173). -/
theorem runCommand_path_same {c : Instr} (hmode : ∀ tag mode, c ≠ .setMode tag mode)
    (hwarm : ∀ tag, c ≠ .warmReset tag) : (runCommand c s).path = s.path := by
  unfold runCommand
  split
  case h_1 => exact absurd rfl (hmode _ _)
  case h_2 => exact absurd rfl (hwarm _)
  case h_3 => unfold cmdSetClock; split <;> rfl
  case h_4 => unfold cmdDayStart; split <;> rfl
  case h_5 => unfold cmdSetIntake; split_ifs <;> rfl
  case h_6 =>
    simp only [cmdSetTally]
    rw [State.answer_path, State.tallyDone_path]
  case h_7 => unfold cmdSetWords; split <;> rfl
  case h_8 =>
    unfold cmdSetView
    split
    · rfl
    · split <;> simp
  case h_9 => unfold cmdSetSurface; split_ifs <;> rfl
  case h_10 => unfold cmdSetCell; split <;> rfl
  case h_11 => unfold cmdClearCell; split <;> rfl
  case h_12 => unfold cmdLoadGlyphs; split_ifs <;> rfl
  case h_13 => unfold cmdSetSegment; split_ifs <;> rfl
  case h_14 => unfold cmdSetTrigger; split <;> simp
  case h_15 => unfold cmdClearTrigger; split <;> simp
  case h_16 =>
    unfold cmdSetPane
    split_ifs
    any_goals rfl
    split <;> rfl
  case h_17 => unfold cmdSetPlaylist; split_ifs <;> rfl
  case h_18 =>
    unfold cmdPlayStart
    split
    · rfl
    · split <;> rfl
  case h_19 =>
    unfold cmdPlayResume
    split
    · rfl
    · split
      · rfl
      · rfl
      · simp only [State.resumed]; split <;> rfl
  case h_20 => unfold cmdPlayStop; split <;> rfl
  case h_21 => unfold cmdPaneClear; split <;> rfl
  case h_23 => unfold cmdClearCauses; split <;> rfl
  case h_24 => unfold cmdInspect; split <;> rfl
  all_goals rfl

/-- A command line leaves the table and leaves the run or ends it: SET_MODE changes the mode alone,
WARM_RESET the run alone (R174, R179). -/
theorem runCommand_table_run (c : Instr) : (runCommand c s).path.table = s.path.table ∧
    ((runCommand c s).path.run = s.path.run ∨ (runCommand c s).path.run = 0) := by
  by_cases hmode : ∃ tag mode, c = .setMode tag mode
  · obtain ⟨tag, mode, rfl⟩ := hmode
    simp only [runCommand, cmdSetMode]
    split <;> exact ⟨rfl, .inl rfl⟩
  by_cases hwarm : ∃ tag, c = .warmReset tag
  · obtain ⟨tag, rfl⟩ := hwarm
    exact ⟨rfl, .inr rfl⟩
  rw [runCommand_path_same s (fun tag mode h => hmode ⟨tag, mode, h⟩)
    fun tag h => hwarm ⟨tag, h⟩]
  exact ⟨rfl, .inl rfl⟩

/-! ### Requests, responses and grants -/

@[simp] theorem frameStart_path (k : Nat) : (frameStart k s).path = s.path := by simp [frameStart]
theorem takeWrite_path (a : Nat) (full : Bool) (data : Line) :
    (takeWrite a full data s).path = s.path := by
  unfold takeWrite
  split
  · simp [takeIntake]
  · split
    · simp [takeMarker]
    · rfl
theorem takeCommand_table_run (full : Bool) (data : Line) :
    (takeCommand full data s).path.table = s.path.table ∧
      ((takeCommand full data s).path.run = s.path.run ∨
        (takeCommand full data s).path.run = 0) := by
  unfold takeCommand
  split_ifs
  · exact ⟨rfl, .inl rfl⟩
  · exact ⟨rfl, .inl rfl⟩
  · split
    · exact ⟨rfl, .inl rfl⟩
    · exact runCommand_table_run ..

/-- A grant of the stream changes the run to the one it is told (R162). -/
theorem grantStream_table_run (run : Nat) : (grantStream run s).path.table = s.path.table ∧
    ((grantStream run s).path.run = s.path.run ∨ (grantStream run s).path.run = run) := by
  unfold grantStream
  split
  · exact ⟨rfl, .inl rfl⟩
  · exact ⟨rfl, .inr rfl⟩

/-- A grant of an own request ends the run (R162). -/
theorem grantOwn_table_run (own : Nat) :
    (grantOwn own s).path.table = s.path.table ∧ (grantOwn own s).path.run = 0 := by
  simp only [grantOwn]
  split
  · unfold grantVerdict; split <;> exact ⟨rfl, rfl⟩
  · unfold grantGlyph; split <;> exact ⟨rfl, rfl⟩

theorem grant_pathEvent (own : Nat) : s.path.Event (grant own s).path := by
  have hown : s.path.Event (grantOwn own s).path :=
    .kept (grantOwn_table_run s own).1 (.inr (grantOwn_table_run s own).2)
  unfold grant
  split_ifs with _ _ _ hrun
  · exact hown
  · exact .of_eq rfl
  · obtain ⟨htable, hsame | hnext⟩ := grantStream_table_run s (s.path.run + 1)
    · exact .kept htable (.inl hsame)
    · exact .lengthened hrun htable hnext
  · exact hown
  · obtain ⟨htable, hstream⟩ := grantStream_table_run s 0
    exact .kept htable hstream

end

section
variable {s t : State}

section
variable {r : Request} (room : s.path.table.length < Config.inFlight)
  (number : r.txn < Config.firstReserved) (free : s.path.entry r.initiator r.txn = none)
include room number free

theorem scanRead_pathEvent (k : Nat) : s.path.Event (scanRead k r s).path := by
  simp only [scanRead]
  split <;> exact .tracked r _ room number free rfl rfl

theorem takeRead_pathEvent : s.path.Event (takeRead r s).path := by
  unfold takeRead
  split
  · exact .tracked r _ room number free rfl rfl
  · split
    · exact .kept rfl (.inl rfl)
    · next k _ =>
      split
      · rw [← frameStart_path s k] at room free ⊢
        exact scanRead_pathEvent room number free k
      · exact scanRead_pathEvent room number free k

/-- A request recognised is tracked at most, under its own pair (R157, R158). -/
theorem recognise_pathEvent : s.path.Event (recognise r s).path := by
  unfold recognise
  split_ifs
  · unfold takeAnchor
    split
    · split
      · exact .kept (takeCommand_table_run ..).1 (takeCommand_table_run ..).2
      · exact .kept rfl (.inl rfl)
    · split
      · exact .tracked r _ room number free rfl rfl
      · exact .kept rfl (.inl rfl)
  · exact .kept rfl (.inl rfl)
  · split
    · exact takeRead_pathEvent room number free
    · next enables data _ =>
      have hpath := takeWrite_path s r.addr (enables == allEnables) data
      have htable := congrArg PathUnit.table hpath
      have hrun := congrArg PathUnit.run hpath
      exact .kept htable (.inl hrun)

end

/-- The oldest request taken: only with room, and tracked only under a free pair of the player's
numbers (R156, R159). -/
theorem takeOldest_pathEvent (h : takeOldest s = .next t) : s.path.Event t.path := by
  unfold takeOldest at h
  split at h
  · cases h; exact .of_eq rfl
  · next hroom =>
    split at h
    · cases h; exact .of_eq rfl
    · next r rest _ =>
      unfold takeRequest at h
      split_ifs at h with hnumber hfree <;> cases h
      · exact .kept rfl (.inl rfl)
      · have hpair := Option.not_isSome_iff_eq_none.1 hfree
        exact (recognise_pathEvent (s := s.withPath { s.path with waiting := rest })
          (Nat.not_le.1 hroom) (Nat.not_le.1 hnumber) hpair).of_waiting

theorem returnData_pathEvent (e : InFlight) (data : Line) :
    s.path.Event (returnData e data s).path := by
  rw [returnData_eq]
  exact .freed e.initiator e.txn rfl rfl

theorem returnError_pathEvent (e : InFlight) : s.path.Event (returnError e s).path := by
  rw [returnError_eq]
  exact .freed e.initiator e.txn rfl rfl

theorem takeResponse_pathEvent {r : Response} (h : takeResponse r s = .next t) :
    s.path.Event t.path := by
  unfold takeResponse at h
  split_ifs at h
  · unfold verdictResponse at h
    split at h
    · split at h <;> cases h
      exact .of_eq rfl
    · cases h; exact .of_eq (State.raiseAll_path ..)
    · cases h; exact .of_eq (State.raiseAll_path ..)
  · unfold loaderResponse at h
    split at h <;> cases h
    exact .of_eq rfl
  · unfold playerResponse at h
    split at h
    · cases h; exact .kept rfl (.inl rfl)
    · split at h <;> cases h
      · exact returnData_pathEvent ..
      · exact returnError_pathEvent ..

/-! ### Every command -/

/-- What a command can make of the Path Unit is one of its events. -/
theorem exec_pathEvent {c : Instr} (h : exec c s = .next t) : s.path.Event t.path := by
  have event : ∀ {f : State → State}, whenRunning f s = .next t → s.path.Event (f s).path →
      s.path.Event t.path := fun h hf =>
    whenRunning_keeps (P := fun u => s.path.Event u.path) h (.of_eq rfl) hf
  have same : ∀ {f : State → State}, whenRunning f s = .next t → (f s).path = s.path →
      s.path.Event t.path := fun h hf => event h (.of_eq hf)
  have may : ∀ {f : State → Host.Outcome State Fault Refusal}, unlessReset f s = .next t →
      (f s = .next t → s.path.Event t.path) → s.path.Event t.path := fun h hf =>
    unlessReset_keeps (P := fun u => s.path.Event u.path) h (.of_eq rfl) hf
  rcases hcode : commandCode c with _ | code
  · cases c with
    | resetRelease straps => cases h; exact .powerOn straps
    | resetAssert => cases h; exact .kept rfl (.inl rfl)
    | millisecondTick => exact same h rfl
    | secondsTick => exact same h (secondsTick_path s)
    | changeOfMinute => exact same h (takeMinute_path s)
    | boardMinuteRecompute => exact same h (takeBoardMinute_path s)
    | clockCellUpdate => exact same h (takeClockCells_path s)
    | holdExpiry => exact same h (takeExpiry_path s)
    | dwellExpiry view => exact same h (takeDwell_path s view)
    | timedNoticeExpiry => exact same h (takeNoticeTick_path s)
    | cyclePhaseExpiry => exact same h (takeNoticeTick_path s)
    | retryTimerExpiry pane => exact same h (takeRetry_path s pane)
    | idleTimerExpiry surface =>
      exact same (f := fun u => u.withPatch (u.patch.idleExpiry surface)) h rfl
    | boardTallyEvent => exact same h (takeBoardEvent_path s)
    | noticeTallyEvent => exact same h (takeNoticeEvent_path s)
    | paneTallyEvent => exact same h rfl
    | patchSourceChange source =>
      cases source with
      | tally => exact same h (takeFromTally_path s)
      | board => exact same h (takeFromBoard_path s)
      | notice => exact same h (takeFromNotice_path s)
    | paneFullscreenFlag => exact same h (takeFlagHandOn_path s)
    | upstreamRequest offer =>
      exact may (f := fun u => takeOldest (offerRequest offer u)) h fun h =>
        (takeOldest_pathEvent h).of_waiting
    | downstreamResponse response => exact may (f := takeResponse response) h takeResponse_pathEvent
    | loadDone => exact same h (takeLoadDone_path s)
    | loaderDrainEnd => exact same h (takeDrainEnd_path s)
    | slotFree response =>
      refine may (f := fun u => if u.freesSlot response then takeResponse response u else .next u) h
        fun h => ?_
      split at h
      · exact takeResponse_pathEvent h
      · cases h; exact .of_eq rfl
    | downstreamGrant own => exact event h (grant_pathEvent s own)
    | processingStep => exact same h (processStep_path s)
    | anchorLineWrite line initiator txn enables data =>
      unfold exec execAnchorLineWrite at h
      refine may h fun h => ?_
      split at h
      · exact (takeOldest_pathEvent h).of_waiting
      · cases h; exact .of_eq rfl
    | _ => cases hcode
  · obtain ⟨htable, hrun⟩ := runCommand_table_run s c
    exact event ((exec_commandLine s hcode).symm.trans h) (.kept htable hrun)

end

/-- Settles O56: an idle step changes nothing, and each event a command can be to the Path Unit
keeps it sound. -/
theorem pathStaysSound : Obligations.PathStaysSound := by
  intro s t hi h
  unfold step at h
  split at h
  · cases h; exact hi
  · next c rest _ => exact (exec_pathEvent (s := s.withPending rest) h).sound hi

end Sys2Proof.Machine

namespace Sys2Proof.Machine

/-! ### Plain traffic -/

/-- A read that no surface scans is no scan read (R96, R157). -/
theorem scanned_none {p : PatchUnit} {initiator a : Nat}
    (h : ∀ k, k < Config.surfaces → ¬ (p.surface k).isScanRead initiator a) :
    p.scanned initiator a = none :=
  List.find?_eq_none.2 fun k hk hscans => h k (List.mem_range.1 hk) ((scans_iff ..).1 hscans)

/-- A write that no pane's marker line is at is no marker (R157). -/
theorem markerAt_none {u : PaneUnit} {a : Nat}
    (h : ∀ j g, (u.pane j).settings = some g → g.marker ≠ a) : u.markerAt a = none :=
  List.find?_eq_none.2 fun x hx hmarker =>
    h x.1 x.2 ((mem_configured ..).1 hx) (by simpa using hmarker)

/-- An address outside the intake window lies in no intake line (R140). -/
theorem covers_outside {u : IntakeUnit} {a : Nat}
    (h : ∀ base length, u.window = some (base, length) → a < base ∨ base + 64 * length ≤ a) :
    u.covers a = false := by
  rcases hwindow : u.window with _ | ⟨base, length⟩
  · simp [IntakeUnit.covers, IntakeUnit.spans, hwindow]
  · have hout := h base length hwindow
    simp only [IntakeUnit.covers, IntakeUnit.spans, hwindow, List.any_cons, List.any_nil,
      Bool.or_false, Span.holds, Bool.and_eq_false_iff, decide_eq_false_iff_not]
    omega

/-- The anchor line of an address is its distance from the page's base in lines (R170). -/
theorem anchorLineOf_eq (s : State) (a : Nat) :
    s.anchorLineOf a = (a - s.anchorSpan.base) / 64 := rfl

/-- The anchor page holds its lines 0 to 63 (R163, R170). -/
theorem anchorSpan_holds (s : State) {line : Nat} (h : line < 64) :
    s.anchorSpan.holds (s.anchorSpan.base + 64 * line) = true := by
  have hsize : s.anchorSpan.size = 4096 := rfl
  simp only [Span.holds, hsize, Bool.and_eq_true, decide_eq_true_eq]
  omega

/-- A read of the anchor lines 0 and 8 to 63 and a write of the lines 1 to 63 are forwarded (R157,
R170). -/
theorem takeAnchor_plain {s : State} {r : Request}
    (h : (r.access = .read ∧
        (r.addr < s.anchorSpan.base + 64 ∨ s.anchorSpan.base + 512 ≤ r.addr)) ∨
      ∃ enables data, r.access = .write enables data ∧ s.anchorSpan.base + 64 ≤ r.addr) :
    takeAnchor r s = s.forward r := by
  rcases h with ⟨hread, hline⟩ | ⟨enables, data, hwrite, hline⟩
  · have hown : ¬ (1 ≤ s.anchorLineOf r.addr ∧ s.anchorLineOf r.addr ≤ 7) := by
      rw [anchorLineOf_eq]; omega
    rw [takeAnchor, hread]
    exact if_neg hown
  · have hcommand : s.anchorLineOf r.addr ≠ 0 := by rw [anchorLineOf_eq]; omega
    rw [takeAnchor, hwrite]
    exact if_neg hcommand

/-- Traffic the part has no business with is only forwarded (R155, R157, R170). -/
theorem recognise_plain {s : State} {r : Request} (h : s.plain r) :
    recognise r s = s.forward r := by
  unfold recognise
  rcases h with ⟨hanchor, hplain⟩ | ⟨hanchor, hplain⟩
  · rw [if_pos hanchor, takeAnchor_plain hplain]
  rw [hanchor, if_neg Bool.false_ne_true]
  split
  · rfl
  · next hmode =>
    rcases hplain with hpass | ⟨hread, hcue, hscan⟩ | ⟨enables, data, hwrite, hwindow, hmarker⟩
    · exact absurd hpass hmode
    · rw [hread]
      dsimp only
      rw [takeRead, cueAt_none hcue, scanned_none hscan]
    · rw [hwrite]
      dsimp only
      rw [takeWrite, covers_outside hwindow, markerAt_none hmarker]
      rfl

/-- Plain traffic taken at once goes into the pass-through stream, whatever else is so (R155). -/
theorem upstreamRequest_plain {s : State} {r : Request} (h : s.takesAtOnce r) (hplain : s.plain r) :
    exec (.upstreamRequest (some r)) s =
      .next { s with path := { s.path with stream := s.path.stream ++ [r] } } := by
  rw [upstreamRequest_atOnce h, recognise_plain hplain]
  rfl

/-- ANCHOR_LINE_WRITE offers the write it names at the upstream port (R170). -/
theorem anchorLineWrite_eq {s : State} {r : Request} {line : Nat} {enables : BitVec 64}
    {data : Line} (hlo : 1 ≤ line) (hhi : line ≤ 7) (haccess : r.access = .write enables data)
    (haddr : r.addr = s.anchorSpan.base + 64 * line) :
    exec (.anchorLineWrite line r.initiator r.txn enables data) s =
      exec (.upstreamRequest (some r)) s := by
  obtain ⟨addr, initiator, txn, access⟩ := r
  obtain rfl : access = .write enables data := haccess
  obtain rfl : addr = s.anchorSpan.base + 64 * line := haddr
  change execAnchorLineWrite line initiator txn enables data s = execUpstreamRequest _ s
  unfold execAnchorLineWrite execUpstreamRequest unlessReset
  dsimp only
  rw [if_pos (And.intro hlo hhi)]

/-! ### Requests that wait, and reserved numbers -/

section
variable {s : State} {offer : Option Request}

/-- With nothing to take, or no room in the table, what waits and what is offered waits (R159). -/
theorem upstreamRequest_waits (hr : s.path.resetHeld = false)
    (h : s.path.waiting ++ offer.toList = [] ∨ 64 ≤ s.path.table.length) :
    exec (.upstreamRequest offer) s =
      .next { s with path := { s.path with waiting := s.path.waiting ++ offer.toList } } := by
  rw [exec, execUpstreamRequest, unlessReset_runs hr, takeOldest]
  split
  · rfl
  · next hroom =>
    have hnone : (offerRequest offer s).path.waiting = [] := h.resolve_right hroom
    rw [hnone]
    rfl

/-- The oldest request, under a reserved number, is answered with an error and counted (R156). -/
theorem upstreamRequest_reserved {r : Request} {rest : List Request}
    (hr : s.path.resetHeld = false) (hwait : s.path.waiting ++ offer.toList = r :: rest)
    (hroom : s.path.table.length < 64) (hnumber : 64 ≤ r.txn) :
    exec (.upstreamRequest offer) s = .next { s with
      path := { s.path with
        waiting := rest, reservedCount := satInc s.path.reservedCount
        upOut := s.path.upOut ++
          [{ initiator := r.initiator, txn := r.txn, reply := .error }] } } := by
  have hqueue : (offerRequest offer s).path.waiting = r :: rest := hwait
  have hfit : ¬ Config.inFlight ≤ (offerRequest offer s).path.table.length := Nat.not_le.2 hroom
  rw [exec, execUpstreamRequest, unlessReset_runs hr, takeOldest, if_neg hfit, hqueue]
  dsimp only
  rw [takeRequest, if_pos (by exact hnumber)]
  rfl

end

/-- A response that is neither the part's own nor that of a tracked read is passed up (R155). -/
theorem downstreamResponse_plain {s : State} {r : Response} (hr : s.path.resetHeld = false)
    (hnumber : r.txn < 64 ∨ 80 ≤ r.txn)
    (hfree : ∀ e, e ∈ s.path.table → ¬ (e.initiator = r.initiator ∧ e.txn = r.txn)) :
    exec (.downstreamResponse r) s =
      .next { s with path := { s.path with upOut := s.path.upOut ++ [r] } } := by
  have hnone : s.path.entry r.initiator r.txn = none :=
    List.find?_eq_none.2 fun e he hpair => hfree e he (by simpa [InFlight.hasPair] using hpair)
  have hverdict : ¬ (Config.firstVerdictTxn ≤ r.txn ∧ r.txn < Config.firstGlyphTxn) := by
    simp only [Config.firstVerdictTxn, Config.firstGlyphTxn]; omega
  have hglyph : ¬ (Config.firstGlyphTxn ≤ r.txn ∧ r.txn < Config.endOwnTxn) := by
    simp only [Config.firstGlyphTxn, Config.endOwnTxn]; omega
  rw [exec, execDownstreamResponse, unlessReset_runs hr, takeResponse, if_neg hverdict,
    if_neg hglyph, playerResponse, hnone]
  rfl

/-- Settles O20: plain requests are only forwarded, requests wait while they must, and the oldest is
taken as if it were offered then. -/
theorem plainTrafficPassesUnchanged : Obligations.PlainTrafficPassesUnchanged := by
  refine ⟨fun s r h hmode hanchor => upstreamRequest_plain h (.inr ⟨hanchor, .inl hmode⟩), ?_,
    fun s r => downstreamResponse_plain, ?_,
    fun s r hr hfull => upstreamRequest_waits hr (.inr hfull),
    fun s r => upstreamRequest_plain, ?_, ?_, fun s offer => upstreamRequest_waits⟩
  · intro s r line enables data h hlo hhi haccess haddr
    have hholds : s.anchorSpan.holds r.addr = true := haddr ▸ anchorSpan_holds s (by omega)
    rw [anchorLineWrite_eq hlo hhi haccess haddr]
    exact upstreamRequest_plain h (.inl ⟨hholds, .inr ⟨enables, data, haccess, by omega⟩⟩)
  · intro s r hr hwait hroom hnumber
    rw [upstreamRequest_reserved (rest := []) hr (by rw [hwait]; rfl) hroom hnumber, ← hwait]
  · intro s offer r rest hr hwait hroom
    refine ⟨fun hnumber hfree hplain => ?_, upstreamRequest_reserved hr hwait hroom⟩
    rw [takeOldest_recognises hr hwait hroom hnumber hfree, recognise_plain hplain]
    rfl
  · intro s offer r rest h hwait
    refine ⟨_, upstreamRequest_atOnce h, ?_⟩
    obtain ⟨hr, -, hroom, hnumber, hfree⟩ := h
    rw [takeOldest_recognises (s := s) hr hwait hroom hnumber hfree, recognise_awaiting,
      awaiting_awaiting]

end Sys2Proof.Machine

namespace Sys2Proof.Machine

/-! ### Tracked reads -/

/-- A read at the cue line of one pane alone is found as that (R124, R157). -/
theorem cueAt_only {u : PaneUnit} {a k : Nat} {g : PaneSettings}
    (hset : (u.pane k).settings = some g) (hcue : g.cue = a)
    (honly : ∀ j h, j ≠ k → (u.pane j).settings = some h → h.cue ≠ a) :
    u.cueAt a = some (k, g) := by
  rcases hx : u.cueAt a with _ | ⟨j, h⟩
  · have hno := List.find?_eq_none.1 hx (k, g) ((mem_configured ..).2 hset)
    exact absurd hcue (by simpa using hno)
  · have hj : (u.pane j).settings = some h :=
      (mem_configured ..).1 (List.mem_of_find?_eq_some hx)
    have hat : h.cue = a := by
      simpa using List.find?_some (p := fun x : Nat × PaneSettings => x.2.cue == a) hx
    obtain rfl : j = k := by_contra fun hne => honly j h hne hj hat
    rw [Option.some.inj (hset.symm.trans hj)]

/-- A read of a pane's cue line is tracked as that pane's and forwarded (R124, R157). -/
theorem recognise_cue {s : State} {r : Request} {k : Nat} (h : s.cuesOnly r k) :
    recognise r s = (s.track r (.cue k)).forward r := by
  obtain ⟨hmode, hread, hanchor, ⟨g, hset, hcue⟩, honly, -⟩ := h
  unfold recognise
  rw [hanchor, hmode, hread]
  simp only [Bool.false_eq_true, if_false, reduceCtorEq]
  rw [takeRead, cueAt_only hset hcue honly]

/-- A read of one of the anchor lines 1 to 7 is tracked as that line's and forwarded, in every mode
(R157, R170). -/
theorem recognise_anchorRead {s : State} {r : Request} {line : Nat} (hlo : 1 ≤ line)
    (hhi : line ≤ 7) (hread : r.access = .read) (haddr : r.addr = s.anchorSpan.base + 64 * line) :
    recognise r s = (s.track r (.anchor line)).forward r := by
  have hholds : s.anchorSpan.holds r.addr = true := haddr ▸ anchorSpan_holds s (by omega)
  have hline : s.anchorLineOf r.addr = line := by rw [anchorLineOf_eq, haddr]; omega
  rw [recognise, if_pos hholds, takeAnchor, hread]
  dsimp only
  rw [hline, if_pos ⟨hlo, hhi⟩]

/-- An anchor read returns the part's own contents (R158, R170). -/
theorem returnData_anchor {s : State} {e : InFlight} {line : Nat} (ht : e.tracked = .anchor line)
    (data : Line) :
    returnData e data s = { s with path := s.path.answers e (.data (anchorLine s line)) } := by
  rw [returnData_eq, ht]
  rfl

/-! ### The anchor lines byte by byte -/

/-- A field has the bytes it is filled to. -/
@[simp] theorem fill_length (w : Nat) (l : List Byte) : (fill w l).length = w := by
  simp only [fill, List.length_append, List.length_take, List.length_replicate]
  omega

/-- A part of bytes within a field has the bytes asked for. -/
theorem bytesAt_length {l : List Byte} {i n : Nat} (h : i + n ≤ l.length) :
    (bytesAt l i n).length = n := by
  simp only [bytesAt, List.length_take, List.length_drop]
  omega

/-- An anchor line is a line of 64 bytes (R170). -/
theorem anchorLine_length (s : State) {line : Nat} (hhi : line ≤ 7) :
    (anchorLine s line).length = 64 := by
  unfold anchorLine responseLine statusLine2 statusLine3
  split_ifs
  · exact fill_length ..
  · exact fill_length ..
  · exact fill_length ..
  · refine bytesAt_length ?_
    rw [inspectArea, fill_length]
    omega

/-- The response line byte by byte (R172, R181). -/
theorem anchorLine_response (s : State) (h : s.command.response.result.length ≤ 8) :
    anchorLine s 1 =
      byte (s.command.response.code % 256) :: byte (s.command.response.tag % 256) ::
        byte s.command.response.status.code :: byte (s.command.response.count % 256) ::
        (s.command.response.result ++
          List.replicate (8 - s.command.response.result.length) 0) ++ List.replicate 52 0 := by
  have hzeros : List.replicate (64 - (4 + s.command.response.result.length)) (0 : Byte) =
      List.replicate (8 - s.command.response.result.length) 0 ++ List.replicate 52 0 := by
    rw [← List.replicate_add]
    congr 1
    omega
  change responseLine s.command.response = _
  rw [responseLine, fill_of_length (n := 4 + s.command.response.result.length)
    (by simp; omega) (by omega), hzeros]
  simp only [u8_eq, byte_mod, List.append_assoc, List.cons_append, List.nil_append]

/-- The first status line byte by byte (R177, R181). -/
theorem anchorLine_status (s : State) : anchorLine s 2 =
    [byte s.path.mode.code, byte (if s.clock.holding = true then 1 else 0),
      byte (match s.patch.loader with
        | .idle => 0
        | .busy _ => 1
        | .draining _ => 2),
      byte (s.patch.setState 0).code, byte (s.patch.setState 1).code] ++
    leBytes 2 s.command.causes.toNat ++ leBytes 2 s.command.mask.toNat ++
    leBytes 2 s.clock.minute ++ [byte (s.clock.second % 256)] ++ leBytes 2 s.clock.origin ++
    leBytes 4 s.clock.uptime ++ leBytes 2 s.patch.latePatch ++ leBytes 2 s.path.readErrors ++
    leBytes 2 s.path.reservedCount ++ List.replicate 40 0 := by
  have hloader : byte s.patch.loader.code = byte (match s.patch.loader with
      | .idle => 0
      | .busy _ => 1
      | .draining _ => 2) := by
    cases s.patch.loader <;> rfl
  change statusLine2 s = _
  rw [← hloader, statusLine2, fill_of_length (n := 24) (by simp) (by decide)]
  simp only [u8_eq, byte_mod, flagByte, u16, u32, List.append_assoc, List.cons_append,
    List.nil_append]

/-- The second status line byte by byte (R177, R181). -/
theorem anchorLine_intake (s : State) : anchorLine s 3 =
    [byte (s.intake.queue.length % 256), byte (if s.intake.raised = true then 1 else 0),
      byte (s.intake.verdicts.length % 256), byte (s.intake.issued.length % 256)] ++
    leBytes 2 s.intake.reannounced ++ leBytes 2 s.intake.counters.taken ++
    leBytes 2 s.intake.counters.done ++ leBytes 2 s.intake.counters.refused ++
    leBytes 2 s.intake.counters.superseded ++ leBytes 2 s.intake.counters.missed ++
    leBytes 2 s.intake.counters.partials ++ leBytes 2 s.intake.counters.written ++
    leBytes 2 s.intake.counters.lost ++ List.replicate 42 0 := by
  change statusLine3 s.intake = _
  rw [statusLine3, fill_of_length (n := 22) (by simp) (by decide)]
  simp only [u8_eq, byte_mod, flagByte, u16, List.append_assoc, List.cons_append,
    List.nil_append]

/-- A quarter of the inspect area, byte by byte (R178, R181). -/
theorem anchorLine_inspect (s : State) {line : Nat} (hlo : 4 ≤ line)
    (h : s.command.copyBytes.length ≤ 252) : anchorLine s line =
      (([byte ((match s.command.copyKind with
          | none => 255
          | some kind => kind) % 256)] ++ leBytes 2 s.command.copyIndex ++
        [byte (s.command.copyCount % 256)] ++ s.command.copyBytes ++
        List.replicate (252 - s.command.copyBytes.length) 0).drop (64 * (line - 4))).take 64 := by
  have hkind : s.command.copyKind.getD 255 = match s.command.copyKind with
      | none => 255
      | some kind => kind := by
    cases s.command.copyKind <;> rfl
  have hrest : 256 - (4 + s.command.copyBytes.length) = 252 - s.command.copyBytes.length := by omega
  rw [anchorLine, if_neg (by omega), if_neg (by omega), if_neg (by omega), bytesAt, inspectArea,
    fill_of_length (n := 4 + s.command.copyBytes.length) (by simp; omega) (by omega), hrest,
    ← hkind]
  rfl

/-- Settles O21: the reads by what tracks them, the lines by their items. -/
theorem anchorReadsReturnThePart : Obligations.AnchorReadsReturnThePart := by
  refine ⟨fun s r k h hcue => ?_, fun s r line h hlo hhi hread haddr => ?_,
    fun s e line data hr hi he ht => ?_, fun s line _ hhi => anchorLine_length s hhi,
    fun s h => ?_, fun s => ?_, fun s => ?_, fun s line hlo hhi h => ?_⟩
  · rw [upstreamRequest_atOnce h, recognise_cue hcue]
    rfl
  · rw [upstreamRequest_atOnce h, recognise_anchorRead hlo hhi hread haddr]
    rfl
  · rw [downstreamResponse_data hr hi he, returnData_anchor ht]
  · rw [anchorLine_response s h]
    refine ⟨List.take_left' ?_, List.drop_left' ?_⟩ <;> simp <;> omega
  · exact anchorLine_status s
  · exact anchorLine_intake s
  · exact anchorLine_inspect s hlo h

end Sys2Proof.Machine

namespace Sys2Proof.Machine

/-! ### The check sum -/

/-- A sum with each carry put back in stands for a total: it is the total's remainder by 65,535, and
65,535 in place of 0 for any total but 0 (R92). -/
def carried (sum total : Nat) : Prop :=
  sum ≤ 65535 ∧ sum % 65535 = total % 65535 ∧ (sum = 0 ↔ total = 0)

/-- Adding a word with its carry put back in adds it to the total (R92). -/
theorem carried_onesAdd {a b total : Nat} (h : carried a total) (hb : b < 65536) :
    carried (onesAdd a b) (total + b) := by
  obtain ⟨hle, hmod, hzero⟩ := h
  unfold onesAdd
  split <;> exact ⟨by omega, by omega, by omega⟩

/-- The total of the first `n` little-endian words of a line. -/
def wordTotal (data : Line) (n : Nat) : Nat :=
  ((List.range n).map (fun i => byteAt data (2 * i) + 256 * byteAt data (2 * i + 1))).sum

/-- The check sum of a line stands for the total of its words (R171). -/
theorem onesSum_carried (data : Line) (n : Nat) : carried (onesSum data n) (wordTotal data n) := by
  induction n with
  | zero => exact ⟨Nat.zero_le _, rfl, by simp [onesSum, wordTotal]⟩
  | succ n ih =>
    have htotal : wordTotal data (n + 1) = wordTotal data n + numAt data (2 * n) 2 := by
      simp [wordTotal, List.range_succ, numAt]
    rw [htotal]
    exact carried_onesAdd ih (numAt_lt data (2 * n) 2)

/-- A sum is 65,535 exactly when its total is a multiple of 65,535 other than 0. -/
theorem carried_full {sum total : Nat} (h : carried sum total) :
    sum = 65535 ↔ 0 < total ∧ total % 65535 = 0 := by
  obtain ⟨hle, hmod, hzero⟩ := h
  omega

/-! ### A command line decoded -/

/-- A code that is none of the 24 of R173 is no command (R171). -/
theorem decodeCommand_none {data : Line} (h : byteAt data 0 = 0 ∨ 24 < byteAt data 0) :
    decodeCommand data = none := by
  unfold decodeCommand
  split
  case h_25 => rfl
  all_goals omega

/-- Each of the 24 codes of R173 is a command. -/
theorem decodeCommand_some {data : Line} (hlo : 1 ≤ byteAt data 0) (hhi : byteAt data 0 ≤ 24) :
    ∃ c, decodeCommand data = some c := by
  unfold decodeCommand
  generalize byteAt data 0 = code at *
  interval_cases code <;> exact ⟨_, rfl⟩

/-- What a line decodes to has the code of the line (R171, R173). -/
theorem decodeCommand_code {data : Line} {c : Instr} (h : decodeCommand data = some c) :
    commandCode c = some (byteAt data 0) := by
  unfold decodeCommand at h
  split at h
  case h_25 => cases h
  all_goals
    next hcode =>
      cases h
      rw [hcode]
      rfl

/-! ### A command line taken -/

section
variable {s : State} {data : Line}

/-- A partial write of the command line is BAD_FRAME (R171). -/
theorem takeCommand_partial :
    takeCommand false data s = s.refuse 0 0 .badFrame := if_pos rfl

/-- A line of a wrong sum is BAD_CHECK (R171). -/
theorem takeCommand_badCheck (h : onesSum data 32 ≠ 65535) :
    takeCommand true data s = s.refuse (byteAt data 0) (byteAt data 1) .badCheck := by
  rw [takeCommand, if_neg (by decide), if_pos h]

/-- A line that decodes to no command is BAD_CODE (R171). -/
theorem takeCommand_badCode (h : onesSum data 32 = 65535) (hcode : decodeCommand data = none) :
    takeCommand true data s = s.refuse (byteAt data 0) (byteAt data 1) .badCode := by
  rw [takeCommand, if_neg (by decide), if_neg (not_not.2 h), hcode]

/-- A line that passes the tests has its command's effect (R171). -/
theorem takeCommand_runs {c : Instr} (h : onesSum data 32 = 65535)
    (hcode : decodeCommand data = some c) : takeCommand true data s = runCommand c s := by
  rw [takeCommand, if_neg (by decide), if_neg (not_not.2 h), hcode]

/-- A write of the command line is judged by its tests and forwarded (R157, R170). -/
theorem upstreamRequest_command {r : Request} {enables : BitVec 64} (h : s.takesAtOnce r)
    (haccess : r.access = .write enables data) (haddr : r.addr = s.anchorSpan.base) :
    exec (.upstreamRequest (some r)) s =
      .next ((takeCommand (enables == allEnables) data s).forward r) := by
  have hholds : s.anchorSpan.holds r.addr = true := by
    simp [haddr, Span.holds, State.anchorSpan, Config.anchorBytes]
  have hline : s.anchorLineOf r.addr = 0 := by simp [haddr, State.anchorLineOf]
  rw [upstreamRequest_atOnce h, recognise, if_pos hholds, takeAnchor, haccess]
  dsimp only
  rw [if_pos hline]

end

/-- Settles O26: the sum by the total of its words, and the line by the first test it fails. -/
theorem commandLineIsTested : Obligations.CommandLineIsTested := by
  refine ⟨fun data n total htotal => htotal ▸ carried_full (onesSum_carried data n),
    fun s r enables data h haccess haddr => ?_⟩
  have hr : s.path.resetHeld = false := h.1
  have hfull : (BitVec.allOnes 64 == allEnables) = true := beq_self_eq_true allEnables
  refine ⟨_, _, upstreamRequest_command h haccess haddr, rfl, fun hpartial => ?_, ?_, ?_, ?_⟩
  · have hnot : (enables == allEnables) = false := beq_false_of_ne hpartial
    rw [hnot, takeCommand_partial, refuse_eq]
  all_goals
    rintro rfl hsum
    rw [hfull]
  · rw [takeCommand_badCheck hsum, refuse_eq]
  · intro hcode
    rw [takeCommand_badCode hsum (decodeCommand_none hcode), refuse_eq]
  · intro hlo hhi
    obtain ⟨c, hc⟩ := decodeCommand_some hlo hhi
    have hcode := decodeCommand_code hc
    refine ⟨c, hc, hcode, ?_⟩
    rw [takeCommand_runs hsum hc, exec_commandLine s hcode, whenRunning_runs hr]

end Sys2Proof.Machine

namespace Sys2Proof.Machine

/-! ### The reset input -/

/-- Settles O2: every unit's power-on value, whatever the straps. -/
theorem resetReleaseGivesPowerOn : Obligations.ResetReleaseGivesPowerOn :=
  fun straps s => ⟨(State.powerOn straps).withPending s.pending,
    rfl, rfl, rfl, rfl, rfl, rfl, rfl, rfl, rfl, rfl, rfl, rfl, rfl, rfl, rfl, rfl, rfl, rfl⟩

/-- The attention output is inactive while the reset input is asserted (R163, R175). -/
theorem attention_held {s : State} (h : s.path.resetHeld = true) : s.attention = false := by
  rw [State.attention, h]
  rfl

/-- As `whenRunning_held`, for an effect that may stop. -/
theorem unlessReset_held {f : State → Host.Outcome State Fault Refusal} {s : State}
    (h : s.path.resetHeld = true) : unlessReset f s = .next s := if_pos h

/-- RESET_ASSERT has no further effect on a part that is held in reset (R163). -/
theorem resetAssert_held {s : State} (h : s.path.resetHeld = true) :
    exec .resetAssert s = .next s := by
  change Host.Outcome.next (s.withPath { s.path with resetHeld := true }) = _
  rw [← h]
  rfl

/-- While the reset input is asserted no command but RESET_RELEASE has an effect (R163; log
entry 23). -/
theorem exec_held {c : Instr} {s : State} (h : s.path.resetHeld = true)
    (hc : ∀ straps, c ≠ .resetRelease straps) : exec c s = .next s := by
  cases c with
  | resetRelease straps => exact absurd rfl (hc straps)
  | resetAssert => exact resetAssert_held h
  | upstreamRequest => rw [exec, execUpstreamRequest, unlessReset_held h]
  | downstreamResponse => rw [exec, execDownstreamResponse, unlessReset_held h]
  | slotFree => rw [exec, execSlotFree, unlessReset_held h]
  | anchorLineWrite => rw [exec, execAnchorLineWrite, unlessReset_held h]
  | idleTimerExpiry => rw [exec, execIdleTimerExpiry, whenRunning_held h]
  | _ => exact whenRunning_held h

/-- Settles O3: the held part, command by command. -/
theorem assertedResetHoldsThePart : Obligations.AssertedResetHoldsThePart := fun _ =>
  ⟨⟨_, rfl, rfl, attention_held rfl⟩, fun h => ⟨attention_held h, fun _ => exec_held h⟩⟩

end Sys2Proof.Machine

namespace Sys2Proof.Machine

/-! ### A millisecond tick -/

/-- Every 1000th millisecond tick is also a seconds tick (R164). -/
theorem clock_millisecond_eq {c : ClockUnit} (h : c.msCount < 1000) :
    c.millisecond = { c with
      msCount := if c.msCount = 999 then 0 else c.msCount + 1
      due := if c.msCount = 999 then c.due + 1 else c.due } := by
  unfold ClockUnit.millisecond
  by_cases hlast : c.msCount = 999
  · simp [hlast]
  · simp [hlast, show c.msCount + 1 < 1000 by omega]

/-- An idle timer that is not at 0 runs down by one, and one that does not run stays (R79). -/
theorem countDown_running {f : Surface} (h : f.idleTimer ≠ some 0) :
    f.countDown = { f with idleTimer := f.idleTimer.map (fun n => n - 1) } := by
  rcases htimer : f.idleTimer with _ | _ | n
  · simp only [Surface.countDown, htimer, Option.map_none]
    rw [← htimer]
  · exact absurd htimer h
  · simp only [Surface.countDown, htimer, Option.map_some, Nat.add_sub_cancel]

section
variable {p : PatchUnit}

/-- A surface whose idle timer is not at 0 has no expiry (R79). -/
theorem idleExpiry_running {k : Nat} (h : (p.surface k).idleTimer ≠ some 0) :
    p.idleExpiry k = p := if_neg fun hexpired => h hexpired.2

theorem idleExpiryEach_running (h : ∀ k, (p.surface k).idleTimer ≠ some 0) (l : List Nat) :
    p.idleExpiryEach l = p := by
  induction l with
  | nil => rfl
  | cons k rest ih => rw [PatchUnit.idleExpiryEach, idleExpiry_running (h k), ih]

/-- Where no idle timer is left at 0 a millisecond tick only counts the timers down (R79). -/
theorem patch_millisecond_running (h : ∀ k, (p.surface k).idleTimer ≠ some 0) :
    p.millisecond = { p with surfaces := p.surfaces.map Surface.countDown } := by
  rw [PatchUnit.millisecond, idleExpiryEach_running h]

end

/-- Settles O4: no expiry comes first, so every surface's timer counts down where it stands. -/
theorem millisecondTickCountsDown : Obligations.MillisecondTickCountsDown := by
  intro s hr hms hrunning
  have hpatch := patch_millisecond_running hrunning
  have hexec : exec .millisecondTick s = .next (millisecondTick s) := whenRunning_runs hr
  refine ⟨_, hexec, ?_, ?_, fun k => ?_⟩
  · rw [millisecondTick, clock_millisecond_eq hms, hpatch]
    rfl
  · rw [millisecondTick, State.withPatch_patch, hpatch]
    exact List.length_map _
  · rw [millisecondTick, State.withPatch_patch, hpatch, ← countDown_running (hrunning k)]
    exact getD_map Surface.countDown s.patch.surfaces k Surface.vacant

end Sys2Proof.Machine

namespace Sys2Proof.Machine

/-! ### The events of the tick before -/

/-- No event of the seconds tick before waits at any unit (log entry 4). -/
structure State.TickTaken (s : State) : Prop where
  expiry : s.tally.expiryWaiting = none
  tallyMinute : s.tally.minuteWaiting = false
  boardMinute : s.board.minuteWaiting = false
  clockCells : s.patch.minuteWaiting = false
  notice : s.notice.tickWaiting = false
  views : ∀ v, v ∈ s.board.views → v.tickWaiting = false
  panes : ∀ p, p ∈ s.pane.panes → p.tickWaiting = false

section
variable {s : State}

theorem settleDwells_taken (h : ∀ v, v ∈ s.board.views → v.tickWaiting = false) (n : Nat) :
    settleDwells n s = s := by
  induction n with
  | zero => rfl
  | succ n ih =>
    have hdwell : takeDwell n s = s := by
      unfold takeDwell
      split
      · rfl
      · next v hv => rw [h v (List.mem_of_getElem? hv), if_neg Bool.false_ne_true]
    rw [settleDwells, hdwell, ih]

theorem settleRetries_taken (h : ∀ p, p ∈ s.pane.panes → p.tickWaiting = false) (n : Nat) :
    settleRetries n s = s := by
  induction n with
  | zero => rfl
  | succ n ih =>
    have hpane : (s.pane.pane n).tickWaiting = false := by
      rcases getD_mem_or s.pane.panes n Pane.vacant with hmem | hpast
      · exact h _ hmem
      · exact congrArg Pane.tickWaiting hpast
    rw [settleRetries, takeRetry, hpane, if_neg Bool.false_ne_true, ih]

/-- Where no event of the tick before waits nothing is taken before the new tick. -/
theorem settleTick_taken (h : s.TickTaken) : settleTick s = s := by
  have hexpiry : takeExpiry s = s := by rw [takeExpiry, h.expiry]
  have hminute : takeMinute s = s := by simp [takeMinute, h.tallyMinute]
  have hboard : takeBoardMinute s = s := by simp [takeBoardMinute, h.boardMinute]
  have hnotice : takeNoticeTick s = s := by simp [takeNoticeTick, h.notice]
  have hcells : takeClockCells s = s := by simp [takeClockCells, h.clockCells]
  rw [settleTick, hexpiry, hminute, settleDwells_taken h.views, hboard, hnotice,
    settleRetries_taken h.panes, hcells]

end

/-! ### The clock at a seconds tick -/

section
variable {c : ClockUnit}

/-- The Clock Unit with one due tick counted into uptime, which stops at its end (R164). -/
def ClockUnit.ticked (c : ClockUnit) : ClockUnit :=
  { c with due := c.due - 1, uptime := min (c.uptime + 1) 4294967295 }

theorem second?_eq_advance (h : c.uptime ≤ Config.lastUptime) : c.second? = c.ticked.advance := by
  have hup : (if c.uptime < Config.lastUptime then c.uptime + 1 else c.uptime) =
      min (c.uptime + 1) 4294967295 := by
    simp only [Config.lastUptime] at h ⊢
    split <;> omega
  rw [ClockUnit.second?, hup]
  rfl

theorem advance_holding (h : c.holding = true) : c.advance = ⟨c, false, false⟩ := if_pos h

theorem advance_second (hrun : c.holding = false) (h : c.second < 59) :
    c.advance = ⟨{ c with second := c.second + 1 }, false, false⟩ := by
  simp [ClockUnit.advance, hrun, h]

theorem advance_minute (hrun : c.holding = false) (hs : c.second = 59) (h : c.minute < 2159) :
    c.advance = ⟨{ c with minute := c.minute + 1, second := 0 }, true, false⟩ := by
  simp [ClockUnit.advance, Config.lastMinute, hrun, hs, h]

theorem advance_end (hrun : c.holding = false) (hs : c.second = 59) (h : c.minute = 2159) :
    c.advance = ⟨{ c with holding := true }, false, true⟩ := by
  simp [ClockUnit.advance, Config.lastMinute, hrun, hs, h]

end

/-! ### What a seconds tick hands on -/

/-- The part after a seconds tick: its clock, CLOCK_HELD, and the events handed on (R164, R166). -/
def State.handSecond (s : State) (a : ClockAdvance) : State :=
  { s with
    clock := a.unit
    tally := { s.tally with
      expiryWaiting := some a.unit.uptime, minuteWaiting := a.minuteChange }
    board := { s.board.handTick with minuteWaiting := a.minuteChange }
    notice := { s.notice with tickWaiting := true }
    patch := { s.patch with minuteWaiting := a.minuteChange }
    pane := s.pane.handTick
    command := if a.held then s.command.raise .clockHeld else s.command }

/-- Without a change of minute the minute events stay as they are: none waits. -/
theorem handTick_eq {s : State} (h : s.TickTaken) (c : ClockUnit) :
    (s.withClock c).handTick = s.handSecond ⟨c, false, false⟩ := by
  have htally : ({ s.tally with expiryWaiting := some c.uptime, minuteWaiting := false } :
      TallyUnit) = { s.tally with expiryWaiting := some c.uptime } := by rw [← h.tallyMinute]
  have hboard : ({ s.board.handTick with minuteWaiting := false } : BoardUnit) =
      s.board.handTick := by rw [← h.boardMinute]; rfl
  have hpatch : ({ s.patch with minuteWaiting := false } : PatchUnit) = s.patch := by
    rw [← h.clockCells]
  simp only [State.handSecond, htally, hboard, hpatch]
  rfl

theorem takeSecond_eq {s : State} (h : s.TickTaken) :
    takeSecond s = s.handSecond s.clock.second? := by
  rw [takeSecond]
  rcases s.clock.second? with ⟨unit, _ | _, held⟩
  case false =>
    dsimp only
    rw [if_neg Bool.false_ne_true, handTick_eq h]
    cases held <;> rfl
  case true => cases held <;> rfl

/-- A due SECONDS_TICK that finds no event of the tick before (R164). -/
theorem exec_secondsTick {s : State} (hr : s.path.resetHeld = false) (hdue : 0 < s.clock.due)
    (hup : s.clock.uptime ≤ Config.lastUptime) (h : s.TickTaken) :
    exec .secondsTick s = .next (s.handSecond s.clock.ticked.advance) := by
  change whenRunning secondsTick s = _
  rw [whenRunning_runs hr, secondsTick, if_neg (Nat.ne_of_gt hdue), settleTick_taken h,
    takeSecond_eq h, second?_eq_advance hup]

/-- Settles O5: no event of the tick before is taken, and the clock holds, advances within the
minute, changes the minute or reaches its end. -/
theorem secondsTickAdvancesTheClock : Obligations.SecondsTickAdvancesTheClock := by
  intro s hr hdue hclock hexpiry htally hboard hpatch hnotice hviews hpanes
  have hexec := exec_secondsTick hr hdue hclock.uptime
    ⟨hexpiry, htally, hboard, hpatch, hnotice, hviews, hpanes⟩
  have hbit : s.command.raise .clockHeld =
      { s.command with causes := s.command.causes ||| 32#12 } := rfl
  have hminute : s.clock.minute ≤ 2159 := hclock.minute
  have hsecond := hclock.second
  refine ⟨_, s.clock.ticked.advance.minuteChange, hexec, ?_⟩
  by_cases hrun : s.clock.holding = false
  · rcases Nat.lt_or_eq_of_le hsecond with hlt | hs
    · rw [advance_second (c := s.clock.ticked) hrun hlt]
      simp [State.handSecond, BoardUnit.handTick, PaneUnit.handTick, ClockUnit.ticked,
        hrun, hlt, Nat.ne_of_lt hlt]
    · rcases Nat.lt_or_eq_of_le hminute with hm | hm
      · rw [advance_minute (c := s.clock.ticked) hrun hs hm]
        simp [State.handSecond, BoardUnit.handTick, PaneUnit.handTick, ClockUnit.ticked,
          hrun, hs, hm, Nat.ne_of_lt hm]
      · rw [advance_end (c := s.clock.ticked) hrun hs hm]
        simp [State.handSecond, BoardUnit.handTick, PaneUnit.handTick, ClockUnit.ticked,
          hrun, hs, hm, hbit]
  · have hhold : s.clock.holding = true := by simpa using hrun
    obtain ⟨hm, hs⟩ := hclock.holding hhold
    rw [advance_holding (c := s.clock.ticked) hhold]
    simp [State.handSecond, BoardUnit.handTick, PaneUnit.handTick, ClockUnit.ticked,
      hhold, hs, hm, Config.lastMinute]

end Sys2Proof.Machine

namespace Sys2Proof.Machine

/-! ### A step -/

/-- Settles O1: the two cases of the queue. -/
theorem stepRunsFrontCommand : Obligations.StepRunsFrontCommand := by
  refine fun s => ⟨fun hempty => ?_, fun c rest hfront => ?_⟩
  · rw [step, hempty]
  · rw [step, hfront]; rfl

/-! ### Modes, masks and causes -/

/-- A mode is read back from its number (R174). -/
theorem modeOf_code (m : Mode) : modeOf m.code = some m := by cases m <;> rfl

/-- A mode in one byte. -/
theorem u8_modeCode (m : Mode) : u8 m.code = [byte m.code] := by cases m <;> rfl

/-- The twelve causes in two bytes (R176). -/
theorem u16_causes (causes : BitVec 12) :
    u16 causes.toNat = [byte (causes.toNat % 256), byte (causes.toNat / 256)] := by
  have hhigh : causes.toNat / 256 % 256 = causes.toNat / 256 := by
    have := causes.isLt
    omega
  simp only [u16, leBytes, hhigh]

/-- A set of bits is not empty exactly when it holds one. -/
theorem bitVec_ne_zero_iff {w : Nat} (x : BitVec w) :
    x ≠ 0#w ↔ ∃ i, i < w ∧ x.getLsbD i = true := by
  constructor
  · intro h
    by_contra hnone
    refine h (BitVec.eq_of_getLsbD_eq fun i hi => ?_)
    rw [BitVec.getLsbD_zero, Bool.eq_false_iff]
    exact fun hset => hnone ⟨i, hi, hset⟩
  · rintro ⟨i, -, hset⟩ rfl
    simp at hset

/-- The attention output of a running part (R175). -/
theorem attention_iff {s : State} (hr : s.path.resetHeld = false) : s.attention = true ↔
    ∃ i, i < 12 ∧ s.command.causes.getLsbD i = true ∧ s.command.mask.getLsbD i = true := by
  have hboth : s.attention = true ↔ s.command.causes &&& s.command.mask ≠ 0#12 := by
    rw [State.attention, hr, Bool.not_false, Bool.true_and, bne_iff_ne]
    rfl
  simp only [hboth, bitVec_ne_zero_iff, BitVec.getLsbD_and, Bool.and_eq_true]

/-- The causes stand in the places of the table of R175 (R180). -/
theorem cause_place {i : Nat} {c : Cause}
    (h : [Cause.loadDone, .glyphBad, .intakeFull, .recordMissed, .verdictLost, .clockHeld,
      .paneStarved, .paneLatched, .playlistStopped, .latePatch, .readError,
      .triggerBlocked][i]? = some c) : c.place = i := by
  obtain ⟨hi, rfl⟩ := List.getElem?_eq_some_iff.1 h
  simp only [List.length_cons, List.length_nil] at hi
  interval_cases i <;> rfl

/-- CLEAR_CAUSES that marks a cause (R176). -/
theorem cmdClearCauses_marked {s : State} {mask : Nat} (tag : Nat)
    (h : BitVec.ofNat 12 mask ≠ 0#12) : cmdClearCauses tag mask s = { s with
      command := s.answeredOk 23 tag (s.command.causes &&& ~~~(BitVec.ofNat 12 mask))
        [byte (s.command.causes.toNat % 256), byte (s.command.causes.toNat / 256)] } := by
  rw [← u16_causes]
  exact if_neg h

/-- CLEAR_CAUSES that marks none of the twelve (R176). -/
theorem cmdClearCauses_unmarked {s : State} {mask : Nat} (tag : Nat)
    (h : BitVec.ofNat 12 mask = 0#12) : cmdClearCauses tag mask s = s.refuse 23 tag .param :=
  if_pos h

/-- Settles O35: the three commands by their equations, the attention output bit by bit, and each
cause by its place. -/
theorem modeMaskAndCauses : Obligations.ModeMaskAndCauses := by
  intro s tag hr
  refine ⟨fun n m hm => ?_, fun mask => whenRunning_runs hr, fun mask hmask => ?_,
    fun mask hmask => refusesCommand_of hr rfl (cmdClearCauses_unmarked tag hmask),
    attention_iff hr, fun u i c hc => ?_⟩
  · subst hm
    change whenRunning (cmdSetMode tag m.code) s = _
    rw [whenRunning_runs hr, cmdSetMode, modeOf_code, u8_modeCode]
    rfl
  · change whenRunning (cmdClearCauses tag mask) s = _
    rw [whenRunning_runs hr, cmdClearCauses_marked tag hmask]
  · obtain rfl := cause_place hc
    exact ⟨rfl, Iff.rfl⟩

end Sys2Proof.Machine

namespace Sys2Proof.Machine

/-! ### What leaves the Command Unit alone -/

section
variable (s : State)

@[simp] theorem State.derive_command (reached : Source → Bool) :
    (s.derive reached).command = s.command := rfl
@[simp] theorem State.commitAll_command : s.commitAll.command = s.command := by
  rw [State.commitAll, State.withPatch_command]
@[simp] theorem State.applyTop_command (h : TopHandOn) : (s.applyTop h).command = s.command := by
  rw [State.applyTop, State.derive_command, State.withPatch_command]
@[simp] theorem State.applyTops_command (l : List TopHandOn) :
    (s.applyTops l).command = s.command := by
  induction l generalizing s with
  | nil => rfl
  | cons h rest ih => rw [State.applyTops, ih, State.applyTop_command]
@[simp] theorem settleTops_command : (settleTops s).command = s.command := by simp [settleTops]

end

/-! ### Every command line answers -/

/-- What a command line of code `code` can leave: a refusal of the state as it was, or an OK answer
of some state that still holds the response before (R171, R172). -/
inductive State.Answers (s : State) (code : Nat) : State → Prop
  | refused (tag : Nat) (status : Status) : s.Answers code (s.refuse code tag status)
  | ok {u : State} (tag : Nat) (result : List Byte)
      (before : u.command.response = s.command.response) : s.Answers code (u.answer code tag result)

/-- The response replaced has the code and a risen count, and one that is not OK changes nothing
else and has no result bytes (R171, R172). -/
theorem State.Answers.response {s t : State} {code : Nat} (h : s.Answers code t) :
    t.command.response.code = code ∧
      t.command.response.count = (s.command.response.count + 1) % 256 ∧
      (t.command.response.status ≠ .ok →
        t = { s with command := { s.command with response := t.command.response } } ∧
        t.command.response.result = []) := by
  cases h with
  | refused tag status => exact ⟨rfl, rfl, fun _ => ⟨rfl, rfl⟩⟩
  | ok tag result before =>
    refine ⟨rfl, ?_, fun hstatus => absurd rfl hstatus⟩
    rw [← before]
    rfl

/-- A resume leaves the response (R136, R139). -/
theorem State.resumed_response (s : State) (pane : Nat) (r : PlayResult) :
    (s.resumed pane r).command.response = s.command.response := by
  simp only [State.resumed]
  split <;> rfl

/-- A test with a refusal: what is left to show is that the command answers where it passes. -/
theorem State.Answers.test {s t : State} {code tag : Nat} {status : Status} {p : Prop} [Decidable p]
    (h : s.Answers code t) : s.Answers code (if p then s.refuse code tag status else t) := by
  split
  · exact .refused ..
  · exact h

/-- Every command line answers under its code (R171, R172). -/
theorem runCommand_answers {c : Instr} {code : Nat} (s : State) (hc : commandCode c = some code) :
    s.Answers code (runCommand c s) := by
  cases c <;> cases hc
  case setMode =>
    change s.Answers _ (cmdSetMode _ _ s)
    unfold cmdSetMode
    split
    · exact .refused ..
    · exact .ok _ _ rfl
  case warmReset => exact .ok _ _ (by rw [State.commitAll_command]; rfl)
  case setClock => exact .test (.ok _ _ rfl)
  case dayStart => exact .test (.ok _ _ rfl)
  case setIntake => exact .test (.test (.test (.test (.ok _ _ rfl))))
  case setTally => exact .ok _ _ rfl
  case setWords =>
    change s.Answers _ (cmdSetWords _ _ s)
    unfold cmdSetWords
    split
    · exact .ok _ _ rfl
    · exact .refused ..
  case setView =>
    change s.Answers _ (cmdSetView _ _ s)
    unfold cmdSetView
    split
    · exact .refused ..
    · exact .test (.ok _ _ (by rw [State.derive_command, State.handView_command]; rfl))
  case setSurface =>
    exact .test (.test (.test (.test (.test (.test (.ok _ _ rfl))))))
  case setCell =>
    change s.Answers _ (cmdSetCell _ _ s)
    unfold cmdSetCell
    split
    · exact .refused ..
    · exact .ok _ _ rfl
  case clearCell => exact .test (.ok _ _ rfl)
  case loadGlyphs => exact .test (.test (.ok _ _ rfl))
  case setSegment =>
    refine .test ?_
    split <;> exact .ok _ _ rfl
  case setTrigger =>
    change s.Answers _ (cmdSetTrigger _ _ s)
    unfold cmdSetTrigger
    split
    · exact .refused ..
    · exact .ok _ _ (by rw [settleTops_command]; rfl)
  case clearTrigger => exact .test (.ok _ _ (by rw [settleTops_command]; rfl))
  case setPane =>
    refine .test (.test (.test (.test (.test (.test (.test ?_))))))
    split
    · exact .refused ..
    · exact .ok _ _ rfl
  case setPlaylist => exact .test (.test (.test (.ok _ _ rfl)))
  case playStart =>
    change s.Answers _ (cmdPlayStart _ _ _ _ s)
    unfold cmdPlayStart
    split
    · exact .refused ..
    · exact .test (.ok _ _ rfl)
  case playResume =>
    change s.Answers _ (cmdPlayResume _ _ s)
    unfold cmdPlayResume
    split
    · exact .refused ..
    · split
      · exact .refused ..
      · exact .ok _ _ rfl
      · exact .ok _ _ (State.resumed_response ..)
  case playStop =>
    change s.Answers _ (cmdPlayStop _ _ s)
    unfold cmdPlayStop
    split
    · exact .refused ..
    · exact .ok _ _ rfl
  case paneClear =>
    change s.Answers _ (cmdPaneClear _ _ s)
    unfold cmdPaneClear
    split
    · exact .refused ..
    · exact .ok _ _ rfl
  case setMask => exact .ok _ _ rfl
  case clearCauses => exact .test (.ok _ _ rfl)
  case inspect =>
    change s.Answers _ (cmdInspect _ _ _ s)
    unfold cmdInspect
    split
    · exact .refused ..
    · exact .ok _ _ rfl

end Sys2Proof.Machine

namespace Sys2Proof.Machine

/-! ### Refusals of the Path, Clock, Board and Intake Units -/

section
variable {s : State}

/-- A number of no mode (R174). -/
theorem cmdSetMode_refused (tag : Nat) {mode : Nat} (h : 2 ≤ mode) :
    cmdSetMode tag mode s = s.refuse 1 tag .param := by
  match mode, h with
  | _ + 2, _ => rfl

/-- A word that names no segment (R50). -/
theorem cmdSetWords_refused (tag : Nat) {words : List Nat} {w : Nat} (hw : w ∈ words.take 7)
    (hlow : 64 ≤ w) (hnone : w ≠ 255) : cmdSetWords tag words s = s.refuse 7 tag .param := by
  refine if_neg fun hall => ?_
  rcases (isWord_iff w).1 (List.all_eq_true.1 hall w hw) with hlt | heq
  · omega
  · exact hnone heq

/-- A view past the four, or rows out of range (R40). -/
theorem cmdSetView_refused (tag : Nat) {p : ViewParams} (hviews : s.board.views.length = 4)
    (h : 4 ≤ p.view ∨ p.rows = 0 ∨ 16 < p.rows) :
    cmdSetView tag p s = s.refuse 8 tag .param := by
  unfold cmdSetView
  split
  · rfl
  · next v hv =>
    have hlt := (List.getElem?_eq_some_iff.1 hv).1
    exact if_pos (by omega)

/-- A window that fails a test of R141. -/
theorem cmdSetIntake_refused (tag : Nat) {p : IntakeParams} (hmode : s.path.mode = .pass)
    (h : p.base % 64 ≠ 0 ∨ p.length < 8 ∨ 1024 < p.length ∨
      (p.interval ≠ 1 ∧ p.interval ≠ 4 ∧ p.interval ≠ 8 ∧ p.interval ≠ 16) ∨
      2 ^ 40 < p.base + 64 * p.length ∨
      ¬ apart { base := p.base, size := 64 * p.length } s.intakeObstacles) :
    cmdSetIntake tag p s = s.refuse 5 tag .param := by
  rw [cmdSetIntake, if_neg (by rw [hmode]; decide)]
  split_ifs with hfields hspace hmeets
  · rfl
  · rfl
  · rfl
  · have hinterval := isInterval_iff p.interval
    have hinside := (Span.inSpace_iff (windowSpan p)).1 (Bool.not_eq_false _ ▸ hspace)
    have hapart := not_not.1 (mt (meetsAny_iff ..).2 hmeets)
    simp only [windowSpan] at hinside hapart
    grind

end

/-! ### Refusals of the Notice Unit -/

section
variable {s : State} {p : TriggerParams}

theorem triggerKindOf_none {n : Nat} (h : 6 ≤ n) : triggerKindOf n = none := by
  rw [triggerKindOf_table]
  exact List.getElem?_eq_none h

theorem itemOf_none {n : Nat} (h : 69 ≤ n) : itemOf n = none := by
  simp only [itemOf, Config.segments]
  rw [if_neg (by omega), if_neg (by omega)]

/-- A template has 1 to 6 items, and holds each item read (R69, R173). -/
theorem templateOf_some {count : Nat} {items : List Nat} {template : List TemplateItem}
    (h : templateOf count items = some template) : 1 ≤ count ∧ count ≤ 6 ∧
      ∀ n, n ∈ items.take count → ∃ item, item ∈ template ∧ itemOf n = some item := by
  rw [templateOf] at h
  split at h
  · next hcount =>
    obtain ⟨hlen, hget⟩ := (itemsOf_iff ..).1 h
    refine ⟨hcount.1, hcount.2, fun n hn => ?_⟩
    obtain ⟨i, hi⟩ := List.getElem?_of_mem hn
    have hlt : i < template.length := hlen ▸ (List.getElem?_eq_some_iff.1 hi).1
    exact ⟨template[i], List.getElem_mem hlt, by
      rw [← hget i n hi, List.getElem?_eq_getElem hlt]⟩
  · cases h

/-- Settings of a trigger pass the tests of R69. -/
theorem triggerSettingsOf_some {u : NoticeUnit} {g : TriggerSettings}
    (h : triggerSettingsOf p u = some g) :
    p.trigger < 32 ∧ p.event < 6 ∧ (p.filter < 128 ∨ p.filter = 255) ∧ p.notice < 64 ∧
      p.priority ≤ 7 ∧ (∃ timing, timingOf p.timing = some timing) ∧
      ∃ template, templateOf p.count p.items = some template ∧
        ∀ k, TemplateItem.segment k ∈ template →
          ∃ g, u.segments[k]? = some g ∧ g.isDefined = true := by
  unfold triggerSettingsOf at h
  split at h
  · cases h
  next htrigger =>
  split at h
  · cases h
  next event hevent =>
  split_ifs at h with hfilter hnotice hprio
  split at h
  · next timing template htiming htemplate =>
    split at h
    · cases h
    next hdefined =>
    refine ⟨Nat.not_le.1 htrigger, ?_, ?_, Nat.not_le.1 hnotice, Nat.not_lt.1 hprio,
      ⟨timing, htiming⟩, template, htemplate, fun k hk => ?_⟩
    · by_contra hpast
      rw [triggerKindOf_none (Nat.not_lt.1 hpast)] at hevent
      cases hevent
    · simp only [Config.shows] at hfilter
      omega
    · have hk' := List.any_eq_false.1 (Bool.eq_false_iff.2 hdefined) _ hk
      simp only [NoticeUnit.undefinedItem, List.getD_eq_getElem?_getD] at hk'
      rcases hget : u.segments[k]? with _ | g
      · simp [hget] at hk'
      · exact ⟨g, rfl, by simpa [hget] using hk'⟩
  · cases h

/-- A trigger that fails a test of R69. -/
theorem cmdSetTrigger_refused (tag : Nat)
    (h : 32 ≤ p.trigger ∨ 6 ≤ p.event ∨ (128 ≤ p.filter ∧ p.filter ≠ 255) ∨ 64 ≤ p.notice ∨
      8 ≤ p.priority ∨ 3 ≤ p.timing.mode ∨ (p.timing.mode = 2 ∧ 2 ≤ p.timing.endAction) ∨
      p.count = 0 ∨ 6 < p.count ∨
      (∃ item, item ∈ p.items.take p.count ∧ (69 ≤ item ∨
        (item < 64 ∧ ∀ g, s.notice.segments[item]? = some g → g.isDefined = false)))) :
    cmdSetTrigger tag p s = s.refuse 14 tag .param := by
  unfold cmdSetTrigger
  split
  · rfl
  next g hg =>
  exfalso
  obtain ⟨htrigger, hevent, hfilter, hnotice, hprio, ⟨timing, htiming⟩, template, htemplate,
    hdefined⟩ := triggerSettingsOf_some hg
  obtain ⟨hlo, hhi, hitems⟩ := templateOf_some htemplate
  have htimed : ¬ (3 ≤ p.timing.mode ∨ (p.timing.mode = 2 ∧ 2 ≤ p.timing.endAction)) := by
    intro hbad
    rw [timingOf_none hbad] at htiming
    cases htiming
  have hread : ∀ n, n ∈ p.items.take p.count → n < 69 ∧ (n < 64 →
      ∃ g, s.notice.segments[n]? = some g ∧ g.isDefined = true) := by
    intro n hn
    obtain ⟨item, hmem, hitem⟩ := hitems n hn
    refine ⟨?_, fun hlt => ?_⟩
    · by_contra hpast
      rw [itemOf_none (Nat.not_lt.1 hpast)] at hitem
      cases hitem
    · rw [itemOf_table, if_pos hlt] at hitem
      obtain rfl := Option.some.inj hitem
      exact hdefined n hmem
  grind

end

end Sys2Proof.Machine

namespace Sys2Proof.Machine

/-! ### Refusals of the Patch Unit -/

section
variable {s : State} {p : SurfaceParams}

/-- A cell or a pane stands on the surface and would leave the width and height asked for (R76). -/
def State.leavesOutside (s : State) (p : SurfaceParams) : Prop :=
  (∃ n c, s.patch.cell n = some c ∧ c.config.surface = p.surface ∧
      (p.width < c.config.x + c.config.chars * 16 * c.config.scale ∨
        p.height < c.config.y + 24 * c.config.scale)) ∨
    ∃ j g, j < 8 ∧ (s.pane.pane j).settings = some g ∧ g.surface = p.surface ∧
      (p.width < g.px + g.pw ∨ p.height < g.py + g.ph)

/-- Test 6 of R76 fails where a set surface would leave a cell or a pane outside. -/
theorem strands_of
    (h : (s.patch.surface p.surface).state ≠ .unset ∧ s.leavesOutside p) : s.strands p = true := by
  obtain ⟨hset, hstranded⟩ := h
  rw [State.strands, bne_iff_ne.2 hset, Bool.true_and, Bool.or_eq_true]
  refine hstranded.imp ?_ ?_
  · rintro ⟨n, c, hc, hsurface, hpast⟩
    refine List.any_eq_true.2 ⟨some c, ?_, ?_⟩
    · exact List.mem_of_getElem? (Option.join_eq_some_iff.1 hc)
    · rw [← Bool.not_eq_false, strandsCell_iff]
      intro hinside
      have := hinside hsurface
      omega
  · rintro ⟨j, g, hj, hg, hsurface, hpast⟩
    refine List.any_eq_true.2 ⟨g, (PaneUnit.mem_configuredBut ..).2 ⟨j, Nat.ne_of_lt hj, hg⟩, ?_⟩
    rw [← Bool.not_eq_false, strandsPane_iff]
    intro hinside
    have := hinside hsurface
    omega

/-- SET_SURFACE of one of the twelve surfaces in ENABLED mode (R76). -/
theorem cmdSetSurface_enabled (tag : Nat) (hk : p.surface < 12)
    (hmode : s.path.mode = .enabled) : cmdSetSurface tag p s = s.refuse 9 tag .wrongState := by
  rw [cmdSetSurface, if_neg (Nat.not_le.2 hk), if_pos hmode]

/-- A surface that fails a test of R76 in PASS mode. -/
theorem cmdSetSurface_refused (tag : Nat) (hk : p.surface < 12) (hmode : s.path.mode = .pass)
    (h : p.base % 64 ≠ 0 ∨ p.width < 16 ∨ 3840 < p.width ∨ p.height < 16 ∨ 2160 < p.height ∨
      p.stride % 64 ≠ 0 ∨ p.stride < p.width * 4 ∨ 65536 < p.stride ∨ 15 < p.scan ∨
      2 ^ 40 < p.base + p.stride * p.height ∨
      ¬ apart { base := p.base, size := p.stride * p.height } (s.surfaceObstacles p.surface) ∨
      ((s.patch.surface p.surface).state ≠ .unset ∧ s.leavesOutside p)) :
    cmdSetSurface tag p s = s.refuse 9 tag .param := by
  rw [cmdSetSurface, if_neg (Nat.not_le.2 hk), if_neg (by rw [hmode]; decide)]
  split_ifs with hfields hspace hmeets hstrands
  any_goals rfl
  exfalso
  have hgood := (badSurface_iff p).1 (Bool.eq_false_iff.2 hfields)
  have hinside := (Span.inSpace_iff (regionOf p)).1 (Bool.not_eq_false _ ▸ hspace)
  have hapart := not_not.1 (mt (meetsAny_iff ..).2 hmeets)
  have hstays := mt strands_of hstrands
  simp only [regionOf] at hinside hapart
  simp only [← or_assoc] at h
  rcases h with (hbad | hbad) | hbad
  · omega
  · exact hbad hapart
  · exact hstays hbad

end

section
variable {u : PatchUnit} {p : CellParams}

/-- The numbers of a SET_CELL that R82 accepts. -/
theorem goodCell_iff : u.goodCell p = true ↔
    p.cell < 256 ∧ p.surface < 12 ∧ (u.surface p.surface).state ≠ .unset ∧
      (1 ≤ p.chars ∧ p.chars ≤ 40) ∧ (1 ≤ p.scale ∧ p.scale ≤ 4) ∧ p.layer ≤ 7 ∧ p.glyphSet ≤ 1 ∧
      p.fullScreen ≤ 1 ∧ p.twelveHour ≤ 1 ∧
      p.x + p.chars * 16 * p.scale ≤ (u.surface p.surface).width ∧
      p.y + 24 * p.scale ≤ (u.surface p.surface).height := by
  simp [PatchUnit.goodCell, isFlag, fitsSurface, Config.cells, Config.surfaces, and_assoc]

/-- A source has the parameters of its kind in range (R82). -/
theorem sourceOf_some {kind p1 p2 p3 : Nat} {source : Source}
    (h : sourceOf kind p1 p2 p3 = some source) :
    (kind = 0 ∧ p1 ≤ 63) ∨ (kind = 1 ∧ p1 ≤ 127 ∧ p2 ≤ 5) ∨
      (kind = 2 ∧ p1 ≤ 3 ∧ p2 ≤ 15 ∧ p3 ≤ 5) ∨ (kind = 3 ∧ p1 ≤ 11) ∨ kind = 4 := by
  have hfield : ∀ {n : Nat} {f : Field → Source}, (fieldOf n).map f = some source → n ≤ 5 := by
    intro n f hf
    by_contra hpast
    rw [fieldOf_table, List.getElem?_eq_none (by simp; omega)] at hf
    cases hf
  match kind with
  | 0 =>
    obtain ⟨hparam, -⟩ := Option.ite_none_right_eq_some.1 h
    exact .inl ⟨rfl, Nat.le_of_lt_succ hparam⟩
  | 1 =>
    obtain ⟨hparam, hf⟩ := Option.ite_none_right_eq_some.1 h
    exact .inr (.inl ⟨rfl, Nat.le_of_lt_succ hparam, hfield hf⟩)
  | 2 =>
    obtain ⟨⟨hview, hrow⟩, hf⟩ := Option.ite_none_right_eq_some.1 h
    exact .inr (.inr (.inl
      ⟨rfl, Nat.le_of_lt_succ hview, Nat.le_of_lt_succ hrow, hfield hf⟩))
  | 3 =>
    obtain ⟨hparam, -⟩ := Option.ite_none_right_eq_some.1 h
    exact .inr (.inr (.inr (.inl ⟨rfl, Nat.le_of_lt_succ hparam⟩)))
  | 4 => exact .inr (.inr (.inr (.inr rfl)))
  | _ + 5 => cases h

/-- A configuration passes the tests of R82. -/
theorem cellConfig_some {c : CellConfig} (h : u.cellConfig p = some c) :
    u.goodCell p = true ∧ p.just ≤ 2 ∧
      ∃ source, sourceOf p.kind p.param1 p.param2 p.param3 = some source := by
  unfold PatchUnit.cellConfig at h
  split at h
  · next hgood =>
    split at h
    · next just source hjust hsource =>
      refine ⟨hgood, ?_, source, hsource⟩
      by_contra hpast
      rw [justOf_table, List.getElem?_eq_none (by simp; omega)] at hjust
      cases hjust
    · cases h
  · cases h

/-- A cell that fails a test of R82. -/
theorem cmdSetCell_refused {s : State} (tag : Nat)
    (h : 256 ≤ p.cell ∨ 12 ≤ p.surface ∨ (s.patch.surface p.surface).state = .unset ∨
      p.chars = 0 ∨ 40 < p.chars ∨ p.scale = 0 ∨ 4 < p.scale ∨ 7 < p.layer ∨
      1 < p.glyphSet ∨ 2 < p.just ∨ 1 < p.fullScreen ∨ 1 < p.twelveHour ∨ 4 < p.kind ∨
      (p.kind = 0 ∧ 63 < p.param1) ∨
      (p.kind = 1 ∧ (127 < p.param1 ∨ 5 < p.param2)) ∨
      (p.kind = 2 ∧ (3 < p.param1 ∨ 15 < p.param2 ∨ 5 < p.param3)) ∨
      (p.kind = 3 ∧ 11 < p.param1) ∨
      (s.patch.surface p.surface).width < p.x + p.chars * 16 * p.scale ∨
      (s.patch.surface p.surface).height < p.y + 24 * p.scale) :
    cmdSetCell tag p s = s.refuse 10 tag .param := by
  unfold cmdSetCell
  split
  · rfl
  next c hc =>
  exfalso
  obtain ⟨hgood, hjust, source, hsource⟩ := cellConfig_some hc
  have hparams := sourceOf_some hsource
  obtain ⟨hcell, hsurface, hset, hchars, hscale, hrest⟩ := goodCell_iff.1 hgood
  rcases h with h | h | hunset | h
  · omega
  · omega
  · exact hset hunset
  · omega

end

section
variable {s : State} {set source sum : Nat}

/-- A load of no set, or whose source is not aligned or leaves the address space (R91). -/
theorem cmdLoadGlyphs_refused (tag : Nat)
    (h : 2 ≤ set ∨ source % 64 ≠ 0 ∨ 2 ^ 40 < source + 36864) :
    cmdLoadGlyphs tag set source sum s = s.refuse 12 tag .param := if_pos h

/-- A load while the loader is not idle (R91). -/
theorem cmdLoadGlyphs_busy (tag : Nat) (hset : set < 2) (hline : source % 64 = 0)
    (hspace : source + 36864 ≤ 2 ^ 40) (hbusy : s.patch.loader ≠ .idle) :
    cmdLoadGlyphs tag set source sum s = s.refuse 12 tag .busy := by
  rw [cmdLoadGlyphs, if_neg (by simp only [Config.space, Config.glyphBytes]; omega), if_pos hbusy]

end

end Sys2Proof.Machine

namespace Sys2Proof.Machine

/-! ### Refusals of SET_PANE -/

section
variable {s : State} {p : PaneParams}

/-- The rectangle shares a pixel with that of another configured pane on its surface (R110). -/
def State.sharesPixel (s : State) (p : PaneParams) : Prop :=
  ∃ j g x y, j < 8 ∧ j ≠ p.pane ∧ (s.pane.pane j).settings = some g ∧
    g.surface = p.surface ∧ (p.px ≤ x ∧ x < p.px + p.pw ∧ p.py ≤ y ∧ y < p.py + p.ph) ∧
    (g.px ≤ x ∧ x < g.px + g.pw ∧ g.py ≤ y ∧ y < g.py + g.ph)

/-- Rectangles that share a pixel overlap (R110). -/
theorem overlapsPane_of_sharesPixel (h : s.sharesPixel p) :
    (s.pane.configuredBut p.pane).any (overlapsPane p) = true := by
  obtain ⟨j, g, x, y, -, hj, hg, hsurface, hin, hin'⟩ := h
  refine List.any_eq_true.2 ⟨g, (PaneUnit.mem_configuredBut ..).2 ⟨j, hj, hg⟩, ?_⟩
  simp only [overlapsPane, Bool.and_eq_true, beq_iff_eq, decide_eq_true_eq]
  omega

/-- Test 4 of R110 fails a rectangle not of whole tiles, one that leaves its surface, and one that
shares a pixel with that of another pane on it. -/
theorem badRectangle_of (h : p.px % 16 ≠ 0 ∨ p.pw % 16 ≠ 0 ∨ p.pw < 16 ∨ p.ph = 0 ∨
    (s.patch.surface p.surface).width < p.px + p.pw ∨
    (s.patch.surface p.surface).height < p.py + p.ph ∨ s.sharesPixel p) :
    s.badRectangle p = true := by
  have hoverlaps := overlapsPane_of_sharesPixel (s := s) (p := p)
  simp only [State.badRectangle, Bool.or_eq_true, bne_iff_ne, beq_iff_eq, decide_eq_true_eq,
    or_assoc]
  grind only

/-- Test 5 of R110 fails slots not of whole lines or without room for the rectangle, and a count
that is not 2 to 8. -/
theorem badSlots_iff : badSlots p = true ↔ p.slotBase % 64 ≠ 0 ∨ p.slotSize % 64 ≠ 0 ∨
    p.slotSize < p.pw * p.ph * 4 ∨ p.slotCount < 2 ∨ 8 < p.slotCount := by
  simp only [badSlots, Bool.or_eq_true, bne_iff_ne, decide_eq_true_eq, or_assoc]

/-- Test 6 of R110 fails slots that leave the address space or meet another place. -/
theorem badSlotRegion_iff : s.badSlotRegion p = true ↔
    2 ^ 40 < p.slotBase + p.slotCount * p.slotSize ∨
      ¬ apart { base := p.slotBase, size := p.slotCount * p.slotSize }
        (s.fixedSpans ++ paneSpans (s.pane.configuredBut p.pane)) := by
  rw [State.badSlotRegion, Bool.or_eq_true, meetsAny_iff, Bool.not_eq_true', ← Bool.not_eq_true,
    Span.inSpace_iff, Nat.not_le]
  rfl

/-- Test 7 of R110 fails a line that is not aligned or meets another place or the slots asked
for. -/
theorem badLine_iff {a : Nat} : s.badLine p a = true ↔ a % 64 ≠ 0 ∨
    ¬ apart { base := a, size := 64 }
      ({ base := p.slotBase, size := p.slotCount * p.slotSize } :: s.fixedSpans ++
        paneSpans (s.pane.configuredBut p.pane)) := by
  rw [State.badLine, Bool.or_eq_true, meetsAny_iff, bne_iff_ne]
  rfl

/-- Test 8 of R110 fails a starvation mode, retry time or retry limit of no table. -/
theorem paneSettingsOf_none (h : 2 < p.starvation ∨ p.retryTime ∉ [1, 2, 5, 10, 30, 60] ∨
    p.retryLimit ∉ [0, 1, 2, 3, 5, 10]) : paneSettingsOf p = none := by
  rw [paneSettingsOf, starvationOf_eq]
  split
  · rfl
  next starvation hstarvation =>
  refine if_neg fun ⟨htime, hlimit⟩ => ?_
  have hmode : p.starvation < 3 := (List.getElem?_eq_some_iff.1 hstarvation).1
  rcases h with h | h | h
  · omega
  · exact h (List.contains_iff_mem.1 htime)
  · exact h (List.contains_iff_mem.1 hlimit)

/-- SET_PANE of one of the eight panes in ENABLED mode (R110). -/
theorem cmdSetPane_enabled (tag : Nat) (hpane : p.pane < 8) (hmode : s.path.mode = .enabled) :
    cmdSetPane tag p s = s.refuse 16 tag .wrongState := by
  rw [cmdSetPane, if_neg (Nat.not_le.2 hpane), if_pos hmode]

/-- A pane that fails a test of R110 in PASS mode, by the tests in order. -/
theorem cmdSetPane_refused_of_test (tag : Nat) (hpane : p.pane < 8) (hmode : s.path.mode = .pass)
    (h : (12 ≤ p.surface ∨ (s.patch.surface p.surface).state = .unset) ∨ s.badRectangle p = true ∨
      badSlots p = true ∨ s.badSlotRegion p = true ∨
      (s.badLine p p.marker = true ∨ s.badLine p p.cue = true ∨ p.marker = p.cue) ∨
      paneSettingsOf p = none) : cmdSetPane tag p s = s.refuse 16 tag .param := by
  rw [cmdSetPane, if_neg (Nat.not_le.2 hpane), if_neg (by rw [hmode]; decide)]
  split_ifs with hsurface hrect hslots hregion hlines
  any_goals rfl
  have hnone : paneSettingsOf p = none := by
    simpa only [hrect, hslots, hregion, hlines, Config.surfaces, false_or, Bool.false_eq_true,
      hsurface] using h
  rw [hnone]

/-- A pane that fails a test of R110 in PASS mode. -/
theorem cmdSetPane_refused (tag : Nat) (hpane : p.pane < 8) (hmode : s.path.mode = .pass)
    (h : 12 ≤ p.surface ∨ (s.patch.surface p.surface).state = .unset ∨ p.px % 16 ≠ 0 ∨
      p.pw % 16 ≠ 0 ∨ p.pw < 16 ∨ p.ph = 0 ∨
      (s.patch.surface p.surface).width < p.px + p.pw ∨
      (s.patch.surface p.surface).height < p.py + p.ph ∨
      s.sharesPixel p ∨
      p.slotBase % 64 ≠ 0 ∨ p.slotSize % 64 ≠ 0 ∨ p.slotSize < p.pw * p.ph * 4 ∨
      p.slotCount < 2 ∨ 8 < p.slotCount ∨
      2 ^ 40 < p.slotBase + p.slotCount * p.slotSize ∨
      ¬ apart { base := p.slotBase, size := p.slotCount * p.slotSize }
        (s.fixedSpans ++ paneSpans (s.pane.configuredBut p.pane)) ∨
      p.marker = p.cue ∨
      (∃ a, (a = p.marker ∨ a = p.cue) ∧ (a % 64 ≠ 0 ∨
        ¬ apart { base := a, size := 64 }
          ({ base := p.slotBase, size := p.slotCount * p.slotSize } :: s.fixedSpans ++
            paneSpans (s.pane.configuredBut p.pane)))) ∨
      2 < p.starvation ∨ p.retryTime ∉ [1, 2, 5, 10, 30, 60] ∨
      p.retryLimit ∉ [0, 1, 2, 3, 5, 10]) :
    cmdSetPane tag p s = s.refuse 16 tag .param := by
  refine cmdSetPane_refused_of_test tag hpane hmode ?_
  have hrect := badRectangle_of (s := s) (p := p)
  have hsettings := paneSettingsOf_none (p := p)
  simp only [← badLine_iff, or_and_right, exists_or, exists_eq_left] at h
  rw [badSlots_iff, badSlotRegion_iff]
  grind only

end

/-! ### Refusals of SET_PLAYLIST -/

section
variable {s : State} {pane first count : Nat} {entries : List EntryParams}

/-- Test 2 of R130 passes exactly the entries with a show number, or 255 for none, and flag bytes in
range. -/
theorem goodEntry_iff {e : EntryParams} : goodEntry e = true ↔
    (e.showNo < 128 ∨ e.showNo = 255) ∧ e.valid ≤ 1 ∧ e.flags < 32 := by
  simp [goodEntry, isFlag, Config.shows, and_assoc]

/-- Entries that fail one of the first two tests of R130. -/
theorem cmdSetPlaylist_refused (tag : Nat)
    (h : 8 ≤ pane ∨ count = 0 ∨ 8 < count ∨ 16 < first + count ∨
      ∃ e : EntryParams, e ∈ entries.take count ∧
        ((128 ≤ e.showNo ∧ e.showNo ≠ 255) ∨ 1 < e.valid ∨ 32 ≤ e.flags)) :
    cmdSetPlaylist tag pane first count entries s = s.refuse 17 tag .param := by
  rw [cmdSetPlaylist]
  simp only [← or_assoc] at h
  rcases h with hbounds | ⟨e, he, hbad⟩
  · exact if_pos (by simp only [Config.panes]; omega)
  · have hall : (entries.take count).all goodEntry = false := by
      refine List.all_eq_false.2 ⟨e, he, fun hgood => ?_⟩
      have := goodEntry_iff.1 hgood
      omega
    rw [hall, if_pos (c := false = false) rfl, ite_self]

/-- Entries that would replace the cue entry of an ACTIVE playlist (test 3 of R130). -/
theorem cmdSetPlaylist_busy (tag : Nat) (hpane : pane < 8) (hlo : 1 ≤ count) (hhi : count ≤ 8)
    (hroom : first + count ≤ 16)
    (hgood : ∀ e : EntryParams, e ∈ entries.take count →
      (e.showNo < 128 ∨ e.showNo = 255) ∧ e.valid ≤ 1 ∧ e.flags < 32)
    (hactive : (s.pane.pane pane).playlist.state = .active)
    (hcue : ∃ n, (s.pane.pane pane).playlist.cueEntry = some n ∧ first ≤ n ∧ n < first + count) :
    cmdSetPlaylist tag pane first count entries s = s.refuse 17 tag .busy := by
  have hall : (entries.take count).all goodEntry = true :=
    List.all_eq_true.2 fun e he => goodEntry_of (hgood e he)
  have hplays : (s.pane.pane pane).playlist.playsWithin first count = true := by
    obtain ⟨n, hn, hin⟩ := hcue
    simp [Playlist.playsWithin, hactive, hn, hin]
  rw [cmdSetPlaylist, if_neg (by simp only [Config.panes]; omega), hall,
    if_neg Bool.false_ne_true.symm, if_pos hplays]

end

/-! ### Refusals of PLAY_START, PLAY_RESUME, PLAY_STOP and PANE_CLEAR -/

section
variable {s : State} {pane : Nat}

theorem test_past (h : 8 ≤ pane) : s.pane.test pane = some .param := if_pos h

theorem test_unconfigured (hpane : pane < 8) (h : (s.pane.pane pane).settings = none) :
    s.pane.test pane = some .wrongState := by
  rw [PaneUnit.test, if_neg (Nat.not_le.2 hpane), h]
  rfl

theorem test_configured (hpane : pane < 8) (h : (s.pane.pane pane).settings ≠ none) :
    s.pane.test pane = none := by
  rw [PaneUnit.test, if_neg (Nat.not_le.2 hpane), if_neg (by simpa using h)]

/-- The four commands of a pane that fails the pane tests (R123). -/
theorem playCommands_refused (hr : s.path.resetHeld = false) (tag : Nat) {status : Status}
    (h : s.pane.test pane = some status) :
    (∀ entry now, s.refusesCommand (.playStart tag pane entry now) 18 tag status) ∧
      s.refusesCommand (.playResume tag pane) 19 tag status ∧
      s.refusesCommand (.playStop tag pane) 20 tag status ∧
      s.refusesCommand (.paneClear tag pane) 21 tag status :=
  ⟨fun _ _ => refusesCommand_of hr rfl (by rw [cmdPlayStart, h]),
    refusesCommand_of hr rfl (by rw [cmdPlayResume, h]),
    refusesCommand_of hr rfl (by rw [cmdPlayStop, h]),
    refusesCommand_of hr rfl (by rw [cmdPaneClear, h])⟩

/-- PLAY_START of an entry past the playlist or not valid, or with a flag byte past 1 (R134). -/
theorem cmdPlayStart_refused (tag : Nat) {entry now : Nat} (htest : s.pane.test pane = none)
    (h : 16 ≤ entry ∨ ((s.pane.pane pane).playlist.entry entry).valid = false ∨ 1 < now) :
    cmdPlayStart tag pane entry now s = s.refuse 18 tag .param := by
  rw [cmdPlayStart, htest]
  refine if_pos (h.imp_right (Or.imp_right fun hnow => ?_))
  exact decide_eq_false (Nat.not_le.2 hnow)

/-- PLAY_RESUME of an IDLE playlist (R136). -/
theorem cmdPlayResume_idle (tag : Nat) (htest : s.pane.test pane = none)
    (h : (s.pane.pane pane).playlist.state = .idle) :
    cmdPlayResume tag pane s = s.refuse 19 tag .wrongState := by
  rw [cmdPlayResume, htest, h]

end

end Sys2Proof.Machine

namespace Sys2Proof.Machine

/-! ### Refusals of the Command Unit -/

/-- A kind past the seven, or an index past the entries of its kind, has no copy (R178). -/
theorem inspectCopy_none {s : State} {kind index : Nat} (hviews : s.board.views.length = 4)
    (h : 7 ≤ kind ∨ ∃ n, [128, 256, 64, 32, 256, 8, 4][kind]? = some n ∧ n ≤ index) :
    inspectCopy s kind index = none := by
  rcases h with hkind | ⟨n, hn, hindex⟩
  · match kind, hkind with
    | _ + 7, _ => rfl
  · match kind with
    | 0 | 1 | 2 | 3 | 4 | 5 =>
      obtain rfl := Option.some.inj hn
      exact if_neg (Nat.not_lt.2 hindex)
    | 6 =>
      obtain rfl := Option.some.inj hn
      have hpast : s.board.views[index]? = none := List.getElem?_eq_none (hviews ▸ hindex)
      exact congrArg (Option.map viewCopy) hpast
    | _ + 7 => cases hn

theorem cmdInspect_refused {s : State} (tag : Nat) {kind index : Nat}
    (h : inspectCopy s kind index = none) :
    cmdInspect tag kind index s = s.refuse 24 tag .param := by
  rw [cmdInspect, h]

/-- A mask whose low twelve bits are clear marks no cause. -/
theorem noCause_of_mod {mask : Nat} (h : mask % 4096 = 0) : BitVec.ofNat 12 mask = 0#12 :=
  BitVec.eq_of_toNat_eq h

/-! ### Every refusal -/

/-- Settles O49: every command line answers, and each test by the refusals of its command. -/
theorem refusedCommandsChangeNothing : Obligations.RefusedCommandsChangeNothing := by
  refine ⟨fun c code s hc hr => ?_, fun s tag hr hviews => ?_⟩
  · refine ⟨runCommand c s, ?_, (runCommand_answers s hc).response⟩
    rw [exec_commandLine s hc, whenRunning_runs hr]
  exact ⟨fun mode h => refusesCommand_of hr rfl (cmdSetMode_refused tag h),
    fun minute second h => refusesCommand_of hr rfl (if_pos h),
    fun minute origin h => refusesCommand_of hr rfl (if_pos h),
    fun words w hw hlow hnone => refusesCommand_of hr rfl (cmdSetWords_refused tag hw hlow hnone),
    fun p h => refusesCommand_of hr rfl (cmdSetView_refused tag hviews h),
    fun p => ⟨fun hmode => refusesCommand_of hr rfl (if_pos hmode),
      fun hmode h => refusesCommand_of hr rfl (cmdSetIntake_refused tag hmode h)⟩,
    fun segment text h => refusesCommand_of hr rfl (if_pos h),
    fun p h => refusesCommand_of hr rfl (cmdSetTrigger_refused tag h),
    fun trigger h => refusesCommand_of hr rfl (if_pos h),
    fun p => ⟨fun h => refusesCommand_of hr rfl (if_pos h),
      fun hk hmode => refusesCommand_of hr rfl (cmdSetSurface_enabled tag hk hmode),
      fun hk hmode h => refusesCommand_of hr rfl (cmdSetSurface_refused tag hk hmode h)⟩,
    fun p h => refusesCommand_of hr rfl (cmdSetCell_refused tag h),
    fun cell h => refusesCommand_of hr rfl (if_pos h),
    fun set source sum => ⟨fun h => refusesCommand_of hr rfl (cmdLoadGlyphs_refused tag h),
      fun hset hline hspace hbusy =>
        refusesCommand_of hr rfl (cmdLoadGlyphs_busy tag hset hline hspace hbusy)⟩,
    fun p => ⟨fun h => refusesCommand_of hr rfl (if_pos h),
      fun hpane hmode => refusesCommand_of hr rfl (cmdSetPane_enabled tag hpane hmode),
      fun hpane hmode h => refusesCommand_of hr rfl (cmdSetPane_refused tag hpane hmode h)⟩,
    fun pane first count entries =>
      ⟨fun h => refusesCommand_of hr rfl (cmdSetPlaylist_refused tag h),
      fun hpane hlo hhi hroom hgood hactive hcue => refusesCommand_of hr rfl
        (cmdSetPlaylist_busy tag hpane hlo hhi hroom hgood hactive hcue)⟩,
    fun pane h => playCommands_refused hr tag (test_past h),
    fun pane hpane h => playCommands_refused hr tag (test_unconfigured hpane h),
    fun pane hpane h =>
      ⟨fun entry now hbad =>
        refusesCommand_of hr rfl (cmdPlayStart_refused tag (test_configured hpane h) hbad),
      fun hidle => refusesCommand_of hr rfl
        (cmdPlayResume_idle tag (test_configured hpane h) hidle)⟩,
    fun mask h => refusesCommand_of hr rfl (cmdClearCauses_unmarked tag (noCause_of_mod h)),
    fun kind index h => refusesCommand_of hr rfl
      (cmdInspect_refused tag (inspectCopy_none hviews h))⟩

end Sys2Proof.Machine
